-- ==== Sys2Proof/Word.lean ====
section
/-! DEFINITION. The unit of data of the AE3 (00_scope, "Octets and order": "The unit of data is the octet"). Everything the
manual counts, adds or compares as a quantity is a `Nat` (or an `Int`, for a balance) with the range its rule states; only
octets and check registers are bit vectors. -/

namespace Sys2Proof

/-- One octet, as the links and the sheets carry it. -/
abbrev Octet := BitVec 8

end Sys2Proof
end

