-- ==== Sys2Proof/Syntax.lean ====
section
/-! DEFINITION. The commands of the AE3, one constructor per row of spec/opcode_table.json: the forty-six requests in the order
of R178's table of ports, then the frames that are no request, then the events of the links, the store, the lines and the
supply. The operands of a request are the fields its own rule names, in the order R180 gives, as raw numbers: whether a field
is in range is a check of the rule, not of the syntax. -/

namespace Sys2Proof

/-- A stamp: archive day and tick (00_scope, "Stamp"). -/
structure Stamp where
  day : Nat
  tick : Nat
  deriving DecidableEq, Repr, Inhabited

/-- The three ports, in the order of R180's list of ports. -/
inductive Port where
  | desk | bench | counter
  deriving DecidableEq, Repr, Inhabited

/-- The two wings of the store (R1): `low` is wing 0 and `high` is wing 1. -/
inductive Wing where
  | low | high
  deriving DecidableEq, Repr, Inhabited

/-- What the link unit knows of a request frame before the request's own rule is reached (R176, R178): the port it came on, its
tag, and whether the payload's length matches the fields the request names (R178 step 4). -/
structure Frame where
  port : Port
  tag : Octet
  fits : Bool
  deriving DecidableEq, Repr, Inhabited

/-- An object key as a frame or a tag carries it (R180): the kind is the octet of the name's position, 1 for PAGE, 2 for PHOTO. -/
structure WireKey where
  handle : Nat
  kind : Nat
  number : Nat
  deriving DecidableEq, Repr, Inhabited

/-- A version as READ and SUBMIT_PASS name it: a number, or BEST (R71, R100). -/
inductive Source where
  | number (n : Nat)
  | best
  deriving DecidableEq, Repr, Inhabited

/-- An edition as FIND_EDITION names it: by its handle or by its key (R44). -/
inductive EditionName where
  | handle (h : Nat)
  | key (date number : Nat)
  deriving DecidableEq, Repr, Inhabited

/-- The record in a sheet's tag area (R2). -/
structure Tag where
  key : WireKey
  version : Nat
  leaf : Nat
  half : Nat
  check : BitVec 32
  deriving DecidableEq, Repr, Inhabited

/-- A sheet as the flash delivers it to a fetch (R1, R2, R3): its body, the record of its tag area when that carries a valid one, and
the tag octets beyond the record. -/
structure Sheet where
  body : List Octet
  tag : Option Tag
  beyond : List Octet
  deriving DecidableEq, Repr, Inhabited

/-- The commands: one constructor per row of spec/opcode_table.json. -/
inductive Instr where
  /-- OPEN_EDITION (R27). -/
  | openEdition (f : Frame) (date number : Nat)
  /-- BEGIN_OBJECT (R49). -/
  | beginObject (f : Frame) (handle kind number length rights contributor format : Nat) (placements : List WireKey)
  /-- PUT_CHUNK (R52). -/
  | putChunk (f : Frame) (descriptor offset : Nat) (data : List Octet)
  /-- END_OBJECT (R54). -/
  | endObject (f : Frame) (descriptor : Nat) (check : BitVec 32)
  /-- DROP_OBJECT (R56). -/
  | dropObject (f : Frame) (descriptor : Nat)
  /-- CLOSE_EDITION (R29). -/
  | closeEdition (f : Frame) (handle : Nat) (release : Stamp)
  /-- ABANDON_EDITION (R32). -/
  | abandonEdition (f : Frame) (handle : Nat)
  /-- READ (R71). -/
  | read (f : Frame) (key : WireKey) (version : Source) (offset length : Nat)
  /-- WITHDRAW_EDITION (R33). -/
  | withdrawEdition (f : Frame) (handle : Nat)
  /-- REINSTATE_EDITION (R34). -/
  | reinstateEdition (f : Frame) (handle : Nat)
  /-- PURGE_EDITION (R35). -/
  | purgeEdition (f : Frame) (handle : Nat)
  /-- REGISTER_CONTRIBUTOR (R123). -/
  | registerContributor (f : Frame) (id : Nat)
  /-- SET_CONTRIBUTOR_STATE (R123). -/
  | setContributorState (f : Frame) (id state : Nat)
  /-- SET_CLOCK (R167). -/
  | setClock (f : Frame) (day tick : Nat)
  /-- SET_OPERATING (R172). -/
  | setOperating (f : Frame) (lowMark retentionDays retireLimit retireAction damageAction : Nat)
  /-- RESUME_WRITES (R174). -/
  | resumeWrites (f : Frame)
  /-- SUBMIT_PASS (R100). -/
  | submitPass (f : Frame) (key : WireKey) (source : Source) (mode stride low high k p : Nat)
  /-- CANCEL_PASS (R109). -/
  | cancelPass (f : Frame) (id : Nat)
  /-- PASS_RESULT (R112). -/
  | passResult (f : Frame)
  /-- TAKE_SURVEY (R113). -/
  | takeSurvey (f : Frame)
  /-- DISCARD_VERSION (R43). -/
  | discardVersion (f : Frame) (key : WireKey) (version : Nat)
  /-- OPEN_ACCOUNT (R115). -/
  | openAccount (f : Frame) (id tariffClass limit : Nat)
  /-- SET_ACCOUNT (R117). -/
  | setAccount (f : Frame) (id tariffClass limit : Nat)
  /-- CREDIT_ACCOUNT (R116). -/
  | creditAccount (f : Frame) (id amount : Nat)
  /-- SUSPEND_ACCOUNT (R118). -/
  | suspendAccount (f : Frame) (id : Nat)
  /-- REINSTATE_ACCOUNT (R118). -/
  | reinstateAccount (f : Frame) (id : Nat)
  /-- CLOSE_ACCOUNT (R119). -/
  | closeAccount (f : Frame) (id : Nat)
  /-- FIND_ACCOUNT (R121). -/
  | findAccount (f : Frame) (id : Nat)
  /-- SET_SHARE (R124). -/
  | setShare (f : Frame) (id share : Nat)
  /-- SET_TARIFF (R125). -/
  | setTariff (f : Frame) (kind usage tariffClass action base copyUnit minimum : Nat)
  /-- SET_TARIFF_GLOBALS (R126). -/
  | setTariffGlobals (f : Frame) (m0 m1 m2 m3 r p : Nat)
  /-- SET_PERIOD_LENGTH (R154). -/
  | setPeriodLength (f : Frame) (days : Nat)
  /-- QUOTE (R136). -/
  | quote (f : Frame) (account : Nat) (key : WireKey) (usage copies : Nat)
  /-- ORDER (R139). -/
  | order (f : Frame) (account : Nat) (key : WireKey) (usage copies : Nat)
  /-- CLOSE_PERIOD (R155). -/
  | closePeriod (f : Frame)
  /-- TAKE_STATEMENTS (R161). -/
  | takeStatements (f : Frame)
  /-- RELEASE_STATEMENTS (R162). -/
  | releaseStatements (f : Frame) (sequence : Nat)
  /-- FIND_EDITION (R44). -/
  | findEdition (f : Frame) (name : EditionName)
  /-- FIND_OBJECT (R45). -/
  | findObject (f : Frame) (key : WireKey)
  /-- CANCEL_STREAM (R78). -/
  | cancelStream (f : Frame) (id : Nat)
  /-- STATUS (R186). -/
  | status (f : Frame)
  /-- IDENTIFY (R185). -/
  | identify (f : Frame)
  /-- TAKE_NOTICES (R169). -/
  | takeNotices (f : Frame)
  /-- SET_NOTICE_MASK (R169): the set of kinds, one bit per name. -/
  | setNoticeMask (f : Frame) (kinds : BitVec 16)
  /-- POST_MESSAGE (R170): the set of target ports, one bit per port, and the text. -/
  | postMessage (f : Frame) (targets : BitVec 8) (text : List Octet)
  /-- TAKE_MESSAGE (R171). -/
  | takeMessage (f : Frame)
  /-- UNKNOWN_REQUEST (R178): a well-formed frame whose code is not 0x01..0x2E. -/
  | unknownRequest (port : Port) (tag code : Octet)
  /-- BAD_FRAME (R176): a frame with a wrong check, or with a length above 4,200. -/
  | badFrame (port : Port) (tag : Octet)
  /-- BUSY (R177): a frame that arrives while a request is in progress. -/
  | busy (port : Port) (tag : Octet) (malformed : Bool)
  /-- REPLY_SENT (R179): the transmission of a reply or refusal completes. -/
  | replySent (port : Port)
  /-- DATA_FRAME_SENT (R74). -/
  | dataFrameSent (port : Port)
  /-- END_FRAME_SENT (R74). -/
  | endFrameSent (port : Port)
  /-- SHEET_FETCH_COMPLETE (R3): the fetch on the wing completes; `delivered` is what the flash gives where it does not give the
  sheet as it was last programmed. -/
  | sheetFetchComplete (wing : Wing) (delivered : Option Sheet)
  /-- LEAF_PROGRAM_WRITTEN (R16). -/
  | leafProgramWritten
  /-- LEAF_PROGRAM_FAILED (R17). -/
  | leafProgramFailed
  /-- STRIPE_ERASE_COMPLETE (R11): outcome ERASED (`true`) or FAILED (`false`). -/
  | stripeEraseComplete (erased : Bool)
  /-- DAY_MARK (R166). -/
  | dayMark
  /-- TICK (R165). -/
  | tick
  /-- CLOCK_SATURATED (R165). -/
  | clockSaturated
  /-- COUNTDOWN_EXPIRY (R154). -/
  | countdownExpiry
  /-- STORE_GUARD_ASSERTED (R21). -/
  | storeGuardAsserted
  /-- STORE_GUARD_RELEASED (R21). -/
  | storeGuardReleased
  /-- LINK_RESET (R183). -/
  | linkReset (port : Port)
  /-- BREAK_END (R183). -/
  | breakEnd (port : Port)
  /-- POWER_LOSS (R184). -/
  | powerLoss
  /-- RESET_LINE_ASSERTED (R175). -/
  | resetLineAsserted
  /-- POWER_APPLIED (R175). -/
  | powerApplied
  /-- RESET_LINE_RELEASED (R175). -/
  | resetLineReleased
  /-- START_UP_END (R175). -/
  | startUpEnd
  /-- STATEMENT_MOVE (R159). -/
  | statementMove
  deriving DecidableEq, Repr

end Sys2Proof
end

