-- ==== Sys2Proof/Decode.lean ====
section
/-! DEFINITION. The command that a word of spec/opcode_table.json spells. No row of the table gives bits, so no word spells a command;
how the octets of a link's frame spell a request is in Machine/Receive.lean. -/

namespace Sys2Proof

/-- The command a word spells: none, since no row of the table gives bits. -/
def decodeTableWord (_nbits _w : Nat) : Option Instr := none

end Sys2Proof
end

