-- ==== Sys2Proof/Config.lean ====
section
/-! DEFINITION. The fixed figures of the part (R185's table and the rules it draws on), and the one value the manual leaves open.
Each figure is an abbreviation, so that `omega`, `decide` and `simp` see the number. -/

namespace Sys2Proof.Config

/-- Stripes of the store (R1). -/
abbrev stripes : Nat := 8192
/-- Leaves of a stripe (R1). -/
abbrev leavesPerStripe : Nat := 96
/-- Body octets of a sheet (R1). -/
abbrev sheetOctets : Nat := 16384
/-- Tag octets of a sheet (R1). -/
abbrev sheetTagOctets : Nat := 1024
/-- Tag octets of the record that a program writes: key 5, version 1, leaf 2, half 1, check 4. DESIGN CHOICE (assumption 42): R2 gives the
record's fields and their ranges, and the widths are those R180 gives such fields in a frame. -/
abbrev tagRecordOctets : Nat := 13
/-- Body octets of a leaf (R1). -/
abbrev leafOctets : Nat := 32768
/-- The last successful erase count a stripe may reach (R5, R10). -/
abbrev maxEraseCount : Nat := 60000
/-- The relocation reserve (R14). -/
abbrev relocationReserve : Nat := 4
/-- The staging occupancy at which intake programs rank first (R19). -/
abbrev intakePromotion : Nat := 64
/-- Edition records (R26). -/
abbrev editions : Nat := 65536
/-- Object records (R36). -/
abbrev objects : Nat := 1048576
/-- The longest body (R38). -/
abbrev maxBody : Nat := 33554432
/-- Versions per object (R38). -/
abbrev versionsPerObject : Nat := 4
/-- Extents per version (R39). -/
abbrev extentsPerVersion : Nat := 96
/-- Placements per page (R37). -/
abbrev placementsPerPage : Nat := 32
/-- Staging leaves (R47). -/
abbrev stagingLeaves : Nat := 80
/-- Staging descriptors (R48). -/
abbrev descriptors : Nat := 4
/-- Staging descriptors of one port (R47). -/
abbrev descriptorsPerPort : Nat := 3
/-- The largest chunk and the largest data frame (R52, R74). -/
abbrev maxChunk : Nat := 4096
/-- Ready leaves that make a FILLING descriptor eligible (R58). -/
abbrev runLeaves : Nat := 16
/-- Free staging leaves at which STAGING_SPACE is set (R53). -/
abbrev spaceLeaves : Nat := 16
/-- Waiting streams of a port (R67). -/
abbrev waitingStreams : Nat := 4
/-- Stream ids of a port (R67). -/
abbrev streamIds : Nat := 16
/-- Records of the pass queue (R99). -/
abbrev passQueue : Nat := 4
/-- The least span of a profile (R100, R103). -/
abbrev minSpan : Nat := 32
/-- The largest value of a 24-bit saturating counter (R75, R102, R114, R122). -/
abbrev max24 : Nat := 16777215
/-- The largest credit limit and balance (R114). -/
abbrev maxBalance : Nat := 549755813887
/-- The bound of the period exposure (R120). -/
abbrev maxExposure : Nat := 1099511627775
/-- The cap of a fee (R131). -/
abbrev feeCap : Nat := 999999999
/-- Records of the statement queue (R160). -/
abbrev statementQueue : Nat := 512
/-- Records one TAKE_STATEMENTS returns (R161). -/
abbrev takeStatements : Nat := 16
/-- The last day (R165). -/
abbrev maxDay : Nat := 65535
/-- The last tick of a day (R165). -/
abbrev maxTick : Nat := 1382399
/-- The tick from which a day mark is accepted (R166). -/
abbrev dayMarkTick : Nat := 1152000
/-- The largest request payload (R176). -/
abbrev maxPayload : Nat := 4200
/-- The longest text of a message (R170). -/
abbrev maxText : Nat := 32

/-- FREE VALUE, DESIGN CHOICE (assumption 5): what the flash delivers for a sheet whose contents the manual does not state (a leaf
whose program failed or was cut off, a stripe whose erase failed or was cut off). The first argument is the number the state
gave to that loss of contents; nothing constrains the value. -/
opaque undefinedSheet : Nat → Wing → Sheet

end Sys2Proof.Config
end

