-- ==== Sys2Proof/Machine/State.lean ====
section
/-! DEFINITION. The state of the AE3 as plain data, one structure per block of the manual's block overview (00_scope), and the
state at the start of the first start-up. Each field's docstring names the rule that gives it; where a field of a rule's table
is not stored, INVENTORY.md ("State") says what it is computed from. -/

namespace Sys2Proof.Machine

/-- A table keyed by number, in rising key order, each key once. -/
abbrev Table (α : Type) := List (Nat × α)

/-- One value for each port. -/
structure PerPort (α : Type) where
  desk : α
  bench : α
  counter : α
  deriving DecidableEq, Repr

/-! ### Names -/

/-- The status codes, in the order of their values 0x00..0x21 (R182). -/
inductive Status where
  | ok | accepted | badFrame | unknownRequest | notPermitted | busy | starting | badArgument | notFound | alreadyExists
  | wrongState | full | stagingFull | queueFull | offset | checkMismatch | objectsOpen | format | versionsFull | embargoed
  | withdrawn | rights | noTariff | funds | suspended | damaged | preserve | overflow | overrun | mailboxFull | empty
  | aborted | charged | released
  deriving DecidableEq, Repr

/-- The notice kinds, in the order of the table of chapter 11.2. -/
inductive Notice where
  | editionPublished | editionWithdrawn | stagingSpace | storeLow | storeFull | damageFound | passEnded | periodClosed
  | statementsWaiting | statementOverrun | clockLate | modeChanged | message
  deriving DecidableEq, Repr

/-- A set of notice kinds, one bit per name (R180). -/
abbrev NoticeSet := BitVec 13

/-- Kind of an object (R36). -/
inductive Kind where
  | page | photo
  deriving DecidableEq, Repr, Inhabited

/-- An object key (R36). -/
structure Key where
  handle : Nat
  kind : Kind
  number : Nat
  deriving DecidableEq, Repr, Inhabited

/-- A run of leaves in one stripe (R39). -/
structure Extent where
  stripe : Nat
  first : Nat
  count : Nat
  deriving DecidableEq, Repr

/-! ### The archive store (chapter 1) -/

/-- The three write fronts (R13), in the order of R5. -/
inductive Front where
  | intake | restore | relocate
  deriving DecidableEq, Repr

/-- State of a stripe with its front field, which is meaningful while OPEN alone (R5, R6). -/
inductive StripeState where
  | free | opened (front : Front) | full | dirty | retired
  deriving DecidableEq, Repr

/-- A record of the stripe table (R5). `readers` is volatile, the other fields are retentive. -/
structure Stripe where
  state : StripeState
  written : Nat
  live : Nat
  eraseCount : Nat
  programDay : Nat
  retirePending : Bool
  readers : Nat
  deriving DecidableEq, Repr

/-- A stripe's record at format (R24); the table lists the stripes whose record differs from it. -/
def Stripe.formatted : Stripe := ⟨.dirty, 0, 0, 0, 0, false, 0⟩

/-- Contents of a leaf's two sheets: as programmed, or contents the manual does not state (assumption 5). An unlisted leaf is
erased. -/
inductive Cell where
  | programmed (low high : Sheet)
  | undefined (n : Nat)
  deriving DecidableEq, Repr

/-- Who receives the outcome of a fetch; `ceased` once the requester has ceased (R4). -/
inductive Fetcher where
  | stream (port : Port) | passSource | relocation | ceased
  deriving DecidableEq, Repr

/-- A sheet fetch in flight: where it reads, and what its requester expects to find (R3). -/
structure FetchOp where
  owner : Fetcher
  key : Key
  version : Nat
  leaf : Nat
  stripe : Nat
  place : Nat
  deriving DecidableEq, Repr

/-- A leaf program in flight: its front, the leaf it writes, the tag fields and data it carries (R2, R13), and whether its feeder
has ceased (R4). -/
structure ProgramOp where
  front : Front
  stripe : Nat
  place : Nat
  key : Key
  version : Nat
  leaf : Nat
  data : List Octet
  ceased : Bool
  deriving DecidableEq, Repr

/-- An operation that occupies both wings (R4). -/
inductive WideOp where
  | program (op : ProgramOp)
  | erase (stripe : Nat)
  deriving DecidableEq, Repr

/-- Activity of the two wings (R4): a fetch or nothing on each, or one operation on both. -/
inductive Wings where
  | split (low high : Option FetchOp)
  | both (op : WideOp)
  deriving DecidableEq, Repr

/-- The archive store. -/
structure Store where
  /-- The stripe table (R5). -/
  stripes : Table Stripe
  /-- The program-in-flight mark: stripe and leaf (R5); retentive. -/
  mark : Option (Nat × Nat)
  /-- The free queue (R9); retentive. -/
  freeQueue : List Nat
  /-- The dirty queue (R10); retentive. -/
  dirtyQueue : List Nat
  /-- The flash, keyed by stripe × 96 + leaf (R1, R2); retentive. -/
  flash : Table Cell
  /-- How many losses of contents have been numbered: the model's own counter for the free value of assumption 5. -/
  lost : Nat
  /-- The stalled fronts in the order in which they stalled (R15); volatile. -/
  stalled : List Front
  /-- What the wings carry (R4); volatile. -/
  wings : Wings
  /-- The held wing (R20); volatile. -/
  held : Option Wing
  /-- The turn pointer (R19); volatile. -/
  turn : Port
  /-- Whether the erase engine has a request pending at the arbiter (R10); volatile. -/
  eraseRequested : Bool
  /-- The level of the store guard line (R21). -/
  guardAsserted : Bool
  deriving DecidableEq, Repr

/-! ### The catalog (chapter 2) -/

/-- Origin of an edition (R26). -/
inductive EditionOrigin where
  | current | historical
  deriving DecidableEq, Repr

/-- State of an edition (R26). -/
inductive EditionState where
  | opened | closing | published | withdrawn | purged
  deriving DecidableEq, Repr

/-- An edition record in use (R26). -/
structure Edition where
  date : Nat
  number : Nat
  origin : EditionOrigin
  owner : Port
  state : EditionState
  opened : Stamp
  release : Option Stamp
  published : Option Stamp
  outstanding : Nat
  pages : Nat
  photos : Nat
  deriving DecidableEq, Repr

/-- Origin of a version (R38). -/
inductive VersionOrigin where
  | deposit | pass
  deriving DecidableEq, Repr

/-- A version record (R38). -/
structure Version where
  number : Nat
  origin : VersionOrigin
  damaged : Bool
  length : Nat
  check : BitVec 32
  profile : Option (Nat × Nat)
  created : Nat
  serial : Nat
  extents : List Extent
  deriving DecidableEq, Repr

/-- Rights of an object (R36). -/
inductive Rights where
  | reprint | noReprint
  deriving DecidableEq, Repr

/-- Format of an object (R36). -/
inductive Format where
  | grey8 | opaqueBody
  deriving DecidableEq, Repr

/-- An entry of a placement list (R37). -/
structure Placement where
  photo : Key
  vacant : Bool
  deriving DecidableEq, Repr

/-- An object record (R36); a PHOTO's placement list is empty. -/
structure Object where
  key : Key
  rights : Rights
  contributor : Nat
  format : Format
  placements : List Placement
  lastNumber : Nat
  versions : List Version
  deriving DecidableEq, Repr

/-- The catalog; retentive. -/
structure Catalog where
  /-- The edition directory, by handle: the records in use (R26). -/
  editions : Table Edition
  /-- The object table, in key order (R36). -/
  objects : Table Object
  /-- The catalog serial counter (R38). -/
  serial : Nat
  deriving DecidableEq, Repr

/-! ### Intake (chapter 3) -/

/-- A staging leaf that belongs to a descriptor (R47): the body leaf it holds, its allocation sequence number, its octets. -/
structure StagedLeaf where
  leaf : Nat
  sequence : Nat
  octets : List Octet
  deriving DecidableEq, Repr

/-- State of a held descriptor (R48); DROPPED has the one cause EXTENTS. -/
inductive DescriptorState where
  | filling | ended | dropped
  deriving DecidableEq, Repr

/-- A held staging descriptor (R48); its provisional extents stand in its provisional record. -/
structure Descriptor where
  holder : Port
  state : DescriptorState
  key : Key
  rights : Rights
  contributor : Nat
  format : Format
  placements : List Key
  /-- The placement photos the page waits on (R51). -/
  waits : List Key
  length : Nat
  /-- Next expected offset. -/
  next : Nat
  /-- The CRC-32 register of the running check (R55). -/
  register : BitVec 32
  staged : List StagedLeaf
  programmed : Nat
  deriving DecidableEq, Repr

/-- The one request of a requester: none, pending at the arbiter, or in flight (R68 and chapter 1.6). -/
inductive Req where
  | none | pending | inFlight
  deriving DecidableEq, Repr

/-- The programmer's run: its descriptor and the leaves not yet written (R58). -/
structure Run where
  descriptor : Nat
  leaves : List Nat
  deriving DecidableEq, Repr

/-- Intake. -/
structure Intake where
  /-- The held descriptors, by number 0..3 (R48); volatile. -/
  descriptors : Table Descriptor
  /-- The provisional records, by descriptor number (R65); retentive. -/
  provisional : Table (List Extent)
  /-- The allocation counter (R47); volatile. -/
  nextSequence : Nat
  /-- The programmer's run (R58); volatile. -/
  run : Option Run
  /-- The programmer's request (R59); volatile. -/
  request : Req
  /-- The space request flags (R53); volatile. The counter port's flag is never set. -/
  space : PerPort Bool
  deriving DecidableEq, Repr

/-! ### Streams and orders (chapters 4 and 9) -/

/-- Usages of a reprint (R125). -/
inductive Usage where
  | print | digital | broadcast | editorial
  deriving DecidableEq, Repr

/-- The fee breakdown (R135). -/
structure Breakdown where
  kind : Kind
  usage : Usage
  tariffClass : Nat
  copies : Nat
  version : Nat
  origin : VersionOrigin
  units : Nat
  gross : Nat
  age : Nat
  band : Nat
  aged : Nat
  surcharge : Nat
  fee : Nat
  capped : Bool
  base : Nat
  pool : Option Nat
  sharing : Option Nat
  parts : List (Nat × Nat)
  house : Nat
  deriving DecidableEq, Repr

/-- Release causes (R138), in the order of R181. -/
inductive ReleaseCause where
  | cancelStream | damaged | suspended | withdrawn
  deriving DecidableEq, Repr

/-- The order part of an ORDER stream (R138); usage, copies and the served version's number and origin stand in the breakdown,
the catalog serial in the stream. -/
structure OrderPart where
  account : Nat
  breakdown : Breakdown
  cause : Option ReleaseCause
  deriving DecidableEq, Repr

/-- Kind of a stream (R68). -/
inductive StreamKind where
  | read | order (part : OrderPart) | passSource
  deriving DecidableEq, Repr

/-- A sheet buffer of a stream (R73): the body sheet's number and its octets. -/
structure SheetBuffer where
  sheet : Nat
  body : List Octet
  deriving DecidableEq, Repr

/-- A stream record (R68). The id of a PASS_SOURCE stream is not meaningful. -/
structure Stream where
  id : Nat
  kind : StreamKind
  key : Key
  version : Nat
  serial : Nat
  snapshot : List Extent
  length : Nat
  offset : Nat
  size : Nat
  position : Nat
  send : Option SheetBuffer
  ahead : Option SheetBuffer
  fetch : Req
  final : Option Status
  deriving DecidableEq, Repr

/-- A port's streams (R67, R69): the queue, its head ACTIVE and the others WAITING, and the ENDED streams, earliest ended first. -/
structure PortStreams where
  queue : List Stream
  ended : List Stream
  deriving DecidableEq, Repr

/-- The stream unit; volatile. -/
structure Streams where
  ports : PerPort PortStreams
  /-- The PASS_SOURCE slot (R80). -/
  passSource : Option Stream
  deriving DecidableEq, Repr

/-! ### Relocation (chapter 5) -/

/-- Why a victim was taken (R84). -/
inductive RoundCause where
  | retire | reclaim | refresh
  deriving DecidableEq, Repr

/-- Step of an extent copy (R84). -/
inductive CopyStep where
  | fetchLow | fetchHigh | program
  deriving DecidableEq, Repr

/-- A copy record (R84). -/
structure Copy where
  key : Key
  version : Nat
  serial : Nat
  index : Nat
  source : Extent
  leafBase : Nat
  dest : Option (Nat × Nat)
  copied : Nat
  step : CopyStep
  low : List Octet
  high : List Octet
  request : Req
  deriving DecidableEq, Repr

/-- A round (R84): COPYING while it has a copy, PAUSED while it has none. -/
structure Round where
  victim : Nat
  cause : RoundCause
  copy : Option Copy
  deriving DecidableEq, Repr

/-- The relocation engine (R84): IDLE without a round; volatile. -/
structure Relocation where
  round : Option Round
  blocked : Bool
  deriving DecidableEq, Repr

/-! ### Restoration passes (chapter 6) -/

/-- Mode of a pass (R98). -/
inductive PassMode where
  | survey | manual
  deriving DecidableEq, Repr

/-- State of a pass (R98); an ended pass has no record. -/
inductive PassPhase where
  | queued | survey | correct
  deriving DecidableEq, Repr

/-- The bound source (R98). -/
structure Bound where
  version : Nat
  serial : Nat
  length : Nat
  deriving DecidableEq, Repr

/-- A pass record (R98). Its output extents stand in the pass output record; its stalled flag is whether the RESTORE front is
stalled (R111). -/
structure Pass where
  id : Nat
  key : Key
  source : Source
  bound : Option Bound
  mode : PassMode
  stride : Nat
  low : Nat
  high : Nat
  profile : Option (Nat × Nat)
  phase : PassPhase
  newNumber : Option Nat
  /-- The output leaf (R105). -/
  leaf : List Octet
  /-- Output leaves written. -/
  written : Nat
  /-- The CRC-32 register of the output check. -/
  register : BitVec 32
  /-- The pass's program request (R105). -/
  request : Req
  deriving DecidableEq, Repr

/-- State of the histogram (R102). -/
inductive HistogramState where
  | empty | counting | complete | partialCount
  deriving DecidableEq, Repr

/-- The survey histogram (R102). -/
structure Histogram where
  state : HistogramState
  pass : Option Nat
  samples : Nat
  overflow : Bool
  bins : List Nat
  deriving DecidableEq, Repr

/-- Outcomes of a pass (R108, R112). -/
inductive PassOutcome where
  | none | created | flat | damaged | aborted
  deriving DecidableEq, Repr

/-- Causes of an aborted pass (R108), in the order of R181. -/
inductive PassCause where
  | notFound | wrongState | damaged | format | versionsFull | extents | cancelled | withdrawn | preserve
  deriving DecidableEq, Repr

/-- The pass result slot (R112). -/
structure PassResult where
  pass : Option Nat
  key : Option Key
  outcome : PassOutcome
  cause : Option PassCause
  source : Option Nat
  newNumber : Option Nat
  profile : Option (Nat × Nat)
  samples : Nat
  overflow : Bool
  deriving DecidableEq, Repr

/-- The restoration engine. -/
structure Passes where
  /-- The pass queue, oldest first (R99); volatile. -/
  queue : List Pass
  /-- The active pass (R99); volatile. -/
  active : Option Pass
  /-- The pass id counter (R99); volatile. -/
  nextId : Nat
  /-- The survey histogram (R102); volatile. -/
  histogram : Histogram
  /-- The pass result slot (R112); volatile. -/
  result : PassResult
  /-- The pass output record: the active pass's output extents (R106); retentive. -/
  output : List Extent
  deriving DecidableEq, Repr

/-! ### Accounts, contributors and tariffs (chapter 7) -/

/-- State of an account (R114). -/
inductive AccountState where
  | unused | opened | suspended
  deriving DecidableEq, Repr

/-- An account record (R114). -/
structure Account where
  state : AccountState
  tariffClass : Nat
  balance : Int
  limit : Nat
  held : Nat
  orders : Nat
  pageCopies : Nat
  photoCopies : Nat
  charged : Nat
  overflow : Bool
  deriving DecidableEq, Repr

/-- An account's record at format (R114). -/
def Account.formatted : Account := ⟨.unused, 0, 0, 0, 0, 0, 0, 0, 0, false⟩

/-- State of a contributor (R122). -/
inductive ContributorState where
  | unused | active | barred
  deriving DecidableEq, Repr

/-- A contributor record (R122). -/
structure Contributor where
  state : ContributorState
  share : Nat
  accrual : Nat
  photoOrders : Nat
  overflow : Bool
  deriving DecidableEq, Repr

/-- A contributor's record at format (R122). -/
def Contributor.formatted : Contributor := ⟨.unused, 0, 0, 0, false⟩

/-- A tariff cell (R125). -/
structure TariffCell where
  isSet : Bool
  base : Nat
  copyUnit : Nat
  minimum : Nat
  deriving DecidableEq, Repr

/-- A tariff cell at format (R125). -/
def TariffCell.formatted : TariffCell := ⟨false, 0, 1, 0⟩

/-- The tariff globals (R126). -/
structure Globals where
  m0 : Nat
  m1 : Nat
  m2 : Nat
  m3 : Nat
  r : Nat
  p : Nat
  deriving DecidableEq, Repr

/-- The account, contributor and tariff tables; retentive. Each lists the records that differ from their format value. -/
structure Ledger where
  accounts : Table Account
  contributors : Table Contributor
  /-- By kind × 16 + usage × 4 + class, each counted from 0. -/
  tariffs : Table TariffCell
  globals : Globals
  deriving DecidableEq, Repr

/-! ### Billing (chapter 10) -/

/-- The counters of a statement record's kind (R163). -/
inductive Figures where
  | account (orders pageCopies photoCopies charged : Nat)
  | contributor (photoOrders accrual : Nat)
  | house (revenue reads charged : Nat)
  deriving DecidableEq, Repr

/-- A statement record without its sequence number (R163). -/
structure Statement where
  figures : Figures
  period : Nat
  start : Stamp
  finish : Stamp
  id : Nat
  overflow : Bool
  extended : Bool
  deriving DecidableEq, Repr

/-- The billing unit; retentive. -/
structure Billing where
  /-- Period number, start stamp, period length, countdown, extended flag, sequence counter (R152). -/
  period : Nat
  start : Stamp
  length : Nat
  countdown : Nat
  extended : Bool
  sequence : Nat
  /-- The house period figures (R153). -/
  revenue : Nat
  reads : Nat
  overflow : Bool
  /-- The statement latch (R158). -/
  latch : List Statement
  /-- The statement queue, each record with its sequence number (R160). -/
  queue : List (Nat × Statement)
  deriving DecidableEq, Repr

/-! ### Clock, notices, mailboxes, operating control (chapter 11) -/

/-- The archive clock (R165): the day is retentive, the tick and the confirmed flag are volatile. -/
structure Clock where
  day : Nat
  tick : Nat
  confirmed : Bool
  deriving DecidableEq, Repr

/-- A port's pending set and enable mask (R168); volatile. -/
structure NoticeBoard where
  pending : NoticeSet
  mask : NoticeSet
  deriving DecidableEq, Repr

/-- A message (R170). -/
structure Message where
  sender : Port
  text : List Octet
  deriving DecidableEq, Repr

/-- The mode (R173). -/
inductive Mode where
  | start | normal | preserve
  deriving DecidableEq, Repr

/-- A fail-safe action (R172). -/
inductive FailSafe where
  | flag | preserve
  deriving DecidableEq, Repr

/-- The preserve cause (R173). -/
inductive PreserveCause where
  | retire | damage
  deriving DecidableEq, Repr

/-- The start cause (R175). -/
inductive StartCause where
  | power | resetLine | format
  deriving DecidableEq, Repr

/-- The operating settings (R172); retentive. -/
structure Settings where
  lowMark : Nat
  retentionDays : Nat
  retireLimit : Nat
  retireAction : FailSafe
  damageAction : FailSafe
  deriving DecidableEq, Repr

/-- Operating control. -/
structure Control where
  /-- The mode and the preserve cause (R173); volatile. -/
  mode : Mode
  cause : Option PreserveCause
  /-- The start cause, held until the next start-up (R175). -/
  startCause : StartCause
  settings : Settings
  /-- The format mark of the catalog memory (R175); retentive. -/
  formatted : Bool
  /-- Whether the part has power, and the level of the reset line (R175). -/
  powered : Bool
  resetLine : Bool
  deriving DecidableEq, Repr

/-! ### The links (chapter 12) -/

/-- A reply frame's contents (R180). -/
structure Reply where
  tag : Octet
  status : Status
  payload : List Octet
  deriving DecidableEq, Repr

/-- The two places a reply waits in (R177). -/
inductive Slot where
  | request | refusal
  deriving DecidableEq, Repr

/-- A frame in transmission (R179): a reply, a data frame, or the end frame of a stream. -/
inductive Transmission where
  | reply (slot : Slot)
  | data (id offset : Nat) (octets : List Octet)
  | ending (id : Nat)
  deriving DecidableEq, Repr

/-- Where a link unit stands in receiving: hunting, or holding the octets of a frame after its start octet (R176). -/
inductive Reception where
  | hunting
  | partly (got : List Octet)
  deriving DecidableEq, Repr

/-- A link unit; volatile. -/
structure Link where
  /-- The frame received in part (R176, R183). -/
  reception : Reception
  /-- Whether a break is held on the receive line (R183). -/
  breakHeld : Bool
  /-- The request in progress, with the reply made for it (R177). -/
  request : Option Reply
  /-- The refusal slot (R177). -/
  refusal : Option Reply
  /-- The replies not yet begun, in the order of the events that made them (R179). -/
  waiting : List Slot
  /-- The frame in transmission (R179). -/
  sending : Option Transmission
  deriving DecidableEq, Repr

end Sys2Proof.Machine

namespace Sys2Proof.Machine

/-- The state of the AE3, with the queue of commands that wait. -/
structure State where
  store : Store
  catalog : Catalog
  intake : Intake
  streams : Streams
  relocation : Relocation
  passes : Passes
  ledger : Ledger
  billing : Billing
  clock : Clock
  notices : PerPort NoticeBoard
  mailboxes : PerPort (Option Message)
  control : Control
  links : PerPort Link
  pending : List Instr
  deriving DecidableEq, Repr

/-- The reasons a step can stop with a fault. There are none: the manual gives every command an effect in every state, and the
AE3 forms no address outside its store. -/
inductive Fault where
  deriving DecidableEq, Repr

/-- The reasons a step can be refused. -/
inductive Refusal where
  /-- Raised by `exec` alone, for a row of the table that has no meaning yet; safe, since nothing is claimed of it. -/
  | notModelled (mnemonic : String)
  deriving DecidableEq, Repr

/-- The stores' format values (R24), with nothing in flight and the turn pointer as after start-up (R19, R22). -/
def Store.reset : Store :=
  { stripes := [], mark := none, freeQueue := [], dirtyQueue := [], flash := [], lost := 0, stalled := [],
    wings := .split none none, held := none, turn := .counter, eraseRequested := false, guardAsserted := false }

/-- Intake with every descriptor and staging leaf free (R47, R48, R53). -/
def Intake.reset : Intake :=
  { descriptors := [], provisional := [], nextSequence := 0, run := none, request := .none, space := ⟨false, false, false⟩ }

/-- No stream on any port (R67). -/
def Streams.reset : Streams := { ports := ⟨⟨[], []⟩, ⟨[], []⟩, ⟨[], []⟩⟩, passSource := none }

/-- The engine IDLE (R84). -/
def Relocation.reset : Relocation := { round := none, blocked := false }

/-- The histogram EMPTY (R102). -/
def Histogram.reset : Histogram :=
  { state := .empty, pass := none, samples := 0, overflow := false, bins := List.replicate 64 0 }

/-- The result slot holding NONE (R112). -/
def PassResult.reset : PassResult :=
  { pass := none, key := none, outcome := .none, cause := none, source := none, newNumber := none, profile := none,
    samples := 0, overflow := false }

/-- No pass, and no pass output record (R99, R102, R106, R112). -/
def Passes.reset : Passes :=
  { queue := [], active := none, nextId := 0, histogram := .reset, result := .reset, output := [] }

/-- The tables at format (R114, R122, R125, R126). -/
def Ledger.reset : Ledger :=
  { accounts := [], contributors := [], tariffs := [],
    globals := { m0 := 1000, m1 := 850, m2 := 1100, m3 := 1215, r := 0, p := 200 } }

/-- The billing unit at format (R152, R153, R158, R160). -/
def Billing.reset : Billing :=
  { period := 0, start := ⟨0, 0⟩, length := 0, countdown := 0, extended := false, sequence := 0, revenue := 0, reads := 0,
    overflow := false, latch := [], queue := [] }

/-- The settings' defaults (R172). -/
def Settings.reset : Settings :=
  { lowMark := 64, retentionDays := 1095, retireLimit := 256, retireAction := .preserve, damageAction := .flag }

/-- A link unit hunting (chapter 12). -/
def Link.reset : Link :=
  { reception := .hunting, breakHeld := false, request := none, refusal := none, waiting := [], sending := none }

/-- Pending set empty, mask holding all kinds (R168). -/
def NoticeBoard.reset : NoticeBoard := { pending := 0#13, mask := BitVec.allOnes 13 }

/-- DESIGN CHOICE (assumption 3). The state right after reset: the start of the first start-up of a part that has never been
formatted. The mode is START (R175), every volatile field is as its rule gives for power loss, and every retentive field, which
no rule states before format, has its format value. -/
def State.reset : State :=
  { store := .reset
    catalog := { editions := [], objects := [], serial := 0 }
    intake := .reset
    streams := .reset
    relocation := .reset
    passes := .reset
    ledger := .reset
    billing := .reset
    clock := { day := 0, tick := 0, confirmed := false }
    notices := ⟨.reset, .reset, .reset⟩
    mailboxes := ⟨none, none, none⟩
    control := { mode := .start, cause := none, startCause := .power, settings := .reset, formatted := false, powered := true,
                 resetLine := false }
    links := ⟨.reset, .reset, .reset⟩
    pending := [] }

end Sys2Proof.Machine
end

