-- ==== Sys2Proof/Machine/Table.lean ====
section
/-! DEFINITION. Tables keyed by number, and one value per port: the operations every block uses. A table's keys strictly rise
(`Table.Ordered`); a table whose records have a format value lists only the records that differ from it (`Table.Canonical`), so
that equal tables are equal data. -/

namespace Sys2Proof.Machine

/-- The record under a key. -/
def tget {α : Type} : Table α → Nat → Option α
  | [], _ => none
  | (j, v) :: rest, k => if j = k then some v else tget rest k

/-- The table with the record under a key set, in key order. -/
def tput {α : Type} : Table α → Nat → α → Table α
  | [], k, v => [(k, v)]
  | (j, w) :: rest, k, v =>
    if k < j then (k, v) :: (j, w) :: rest else if j = k then (k, v) :: rest else (j, w) :: tput rest k v

/-- The table without the record under a key. -/
def tdel {α : Type} : Table α → Nat → Table α
  | [], _ => []
  | (j, w) :: rest, k => if j = k then rest else (j, w) :: tdel rest k

/-- The record under a key of a table whose unlisted records have the value `d`. -/
def tgetD {α : Type} (d : α) (t : Table α) (k : Nat) : α := (tget t k).getD d

/-- The table, whose unlisted records have the value `d`, with the record under a key set. -/
def tset {α : Type} [DecidableEq α] (d : α) (t : Table α) (k : Nat) (v : α) : Table α :=
  if v = d then tdel t k else tput t k v

/-- A table's records changed, listing only those that then differ from the unlisted value. -/
def tmapD {α : Type} [DecidableEq α] (d : α) (g : α → α) (t : Table α) : Table α :=
  t.filterMap (fun e => if g e.2 = d then none else some (e.1, g e.2))

/-- The keys strictly rise. -/
abbrev Table.Ordered {α : Type} (t : Table α) : Prop := (t.map Prod.fst).Pairwise (· < ·)

/-- The keys strictly rise and no listed record has the value of an unlisted one. -/
abbrev Table.Canonical {α : Type} [DecidableEq α] (d : α) (t : Table α) : Prop :=
  Table.Ordered t ∧ ∀ e ∈ t, e.2 ≠ d

/-- The value for a port. -/
def PerPort.get {α : Type} (x : PerPort α) : Port → α
  | .desk => x.desk
  | .bench => x.bench
  | .counter => x.counter

/-- The values with the one for a port replaced. -/
def PerPort.set {α : Type} (x : PerPort α) (p : Port) (v : α) : PerPort α :=
  match p with
  | .desk => { x with desk := v }
  | .bench => { x with bench := v }
  | .counter => { x with counter := v }

/-- The ports in the order desk, bench, counter (R180). -/
def allPorts : List Port := [.desk, .bench, .counter]

/-- The lowest number below `n` that is not in the list. -/
def lowestFree (n : Nat) (used : List Nat) : Option Nat := (List.range n).find? (fun i => !used.contains i)

end Sys2Proof.Machine
end

