-- ==== Sys2Proof/Machine/Crc.lean ====
section
/-! DEFINITION. The two cyclic checks: CRC-32 of bodies and sheets (R55) and CRC-16 of link frames (R176). -/

namespace Sys2Proof.Machine

/-- One bit of CRC-32 (R55) on the register that holds the coefficient of x^31 in its least significant bit, the form in which
octets enter least significant bit first (assumption 18). -/
def crc32Bit (r : BitVec 32) : BitVec 32 := if r.getLsbD 0 then (r >>> 1) ^^^ 0xEDB88320#32 else r >>> 1

/-- `n` bits of CRC-32. -/
def crc32Bits : Nat → BitVec 32 → BitVec 32
  | 0, r => r
  | n + 1, r => crc32Bits n (crc32Bit r)

/-- One octet into the CRC-32 register. -/
def crc32Octet (r : BitVec 32) (o : Octet) : BitVec 32 := crc32Bits 8 (r ^^^ o.setWidth 32)

/-- The register before any octet: all ones (R55). -/
def crc32Start : BitVec 32 := 0xFFFFFFFF#32

/-- Octets into the CRC-32 register, in order. -/
def crc32Update (r : BitVec 32) (os : List Octet) : BitVec 32 := os.foldl crc32Octet r

/-- The check a register stands for: its complement (R55). -/
def crc32Check (r : BitVec 32) : BitVec 32 := ~~~r

/-- CRC-32 of octets (R55). -/
def crc32 (os : List Octet) : BitVec 32 := crc32Check (crc32Update crc32Start os)

/-- One bit of CRC-16 (R176): x^16 + x^12 + x^5 + 1, most significant bit first. -/
def crc16Bit (r : BitVec 16) : BitVec 16 := if r.getLsbD 15 then (r <<< 1) ^^^ 0x1021#16 else r <<< 1

/-- `n` bits of CRC-16. -/
def crc16Bits : Nat → BitVec 16 → BitVec 16
  | 0, r => r
  | n + 1, r => crc16Bits n (crc16Bit r)

/-- One octet into the CRC-16 register, most significant bit first. -/
def crc16Octet (r : BitVec 16) (o : Octet) : BitVec 16 := crc16Bits 8 (r ^^^ (o.setWidth 16 <<< 8))

/-- CRC-16 of octets (R176): the register begins at all ones and the result is not complemented. -/
def crc16 (os : List Octet) : BitVec 16 := os.foldl crc16Octet 0xFFFF#16

end Sys2Proof.Machine
end

