-- ==== Sys2Proof/Machine/Layout.lean ====
section
/-! DEFINITION. The encodings of R180 to R182: integers, names, sets, absent fields and lists; the frames; the statement record,
the order summary and the pass result of R181; the status codes. -/

namespace Sys2Proof.Machine

/-- An unsigned integer in `n` octets, most significant first (R180). -/
def be : Nat → Nat → List Octet
  | 0, _ => []
  | n + 1, v => BitVec.ofNat 8 (v / 256 ^ n) :: be n v

/-- A two's complement integer in `n` octets (R180: "A balance is a 5-octet two's complement integer"). -/
def beInt (n : Nat) (v : Int) : List Octet := be n (v % (256 ^ n : Int)).toNat

/-- A flag, whose values the tables list as "set, clear": the position of the value's name (R180; assumption 14). -/
def flag (b : Bool) : List Octet := [if b then 1#8 else 2#8]

/-- A field that may be absent, behind its presence octet (R180). -/
def optional : Option (List Octet) → List Octet
  | none => [0#8]
  | some x => 1#8 :: x

/-- A list whose count of entries cannot exceed 255 (R180). -/
def listOf {α : Type} (enc : α → List Octet) (xs : List α) : List Octet := be 1 xs.length ++ xs.flatMap enc

/-- A stamp in 5 octets (R180). -/
def stampOctets (t : Stamp) : List Octet := be 2 t.day ++ be 3 t.tick

/-- A port's position in the list desk, bench, counter (R180). -/
def portCode : Port → Nat
  | .desk => 1
  | .bench => 2
  | .counter => 3

/-- Position of a kind (R180: "PAGE is 1 and PHOTO is 2"). -/
def kindCode : Kind → Nat
  | .page => 1
  | .photo => 2

/-- Position of a usage (R180: "PRINT is 1 and EDITORIAL is 4"). -/
def usageCode : Usage → Nat
  | .print => 1
  | .digital => 2
  | .broadcast => 3
  | .editorial => 4

/-- Position of a rights value (R36). -/
def rightsCode : Rights → Nat
  | .reprint => 1
  | .noReprint => 2

/-- Position of a format (R36). -/
def formatCode : Format → Nat
  | .grey8 => 1
  | .opaqueBody => 2

/-- Position of an edition origin (R26). -/
def editionOriginCode : EditionOrigin → Nat
  | .current => 1
  | .historical => 2

/-- Position of an edition state (R26). -/
def editionStateCode : EditionState → Nat
  | .opened => 1
  | .closing => 2
  | .published => 3
  | .withdrawn => 4
  | .purged => 5

/-- Position of a version origin (R38). -/
def originCode : VersionOrigin → Nat
  | .deposit => 1
  | .pass => 2

/-- Position of a version state, GOOD or DAMAGED (R38). -/
def versionStateCode (damaged : Bool) : Nat := if damaged then 2 else 1

/-- Position of a contributor state (R122; assumption 17). -/
def contributorStateCode : ContributorState → Nat
  | .unused => 1
  | .active => 2
  | .barred => 3

/-- Position of an account state (R114). -/
def accountStateCode : AccountState → Nat
  | .unused => 1
  | .opened => 2
  | .suspended => 3

/-- Position of a mode (R173). -/
def modeCode : Mode → Nat
  | .start => 1
  | .normal => 2
  | .preserve => 3

/-- Position of a fail-safe action (R172). -/
def failSafeCode : FailSafe → Nat
  | .flag => 1
  | .preserve => 2

/-- Position of a preserve cause (R173). -/
def preserveCauseCode : PreserveCause → Nat
  | .retire => 1
  | .damage => 2

/-- Position of a start cause (R175). -/
def startCauseCode : StartCause → Nat
  | .power => 1
  | .resetLine => 2
  | .format => 3

/-- Position of a descriptor state (R48). -/
def descriptorStateCode : DescriptorState → Nat
  | .filling => 1
  | .ended => 2
  | .dropped => 3

/-- Position of a histogram state (R102). -/
def histogramStateCode : HistogramState → Nat
  | .empty => 1
  | .counting => 2
  | .complete => 3
  | .partialCount => 4

/-- Position of a pass mode (R98). -/
def passModeCode : PassMode → Nat
  | .survey => 1
  | .manual => 2

/-- Position of a pass state (R98: QUEUED, SURVEY, CORRECT, ENDED). -/
def passPhaseCode : PassPhase → Nat
  | .queued => 1
  | .survey => 2
  | .correct => 3

/-- Position of a pass outcome (R181). -/
def passOutcomeCode : PassOutcome → Nat
  | .none => 1
  | .created => 2
  | .flat => 3
  | .damaged => 4
  | .aborted => 5

/-- The octet of a pass cause (R181). -/
def passCauseCode : PassCause → Nat
  | .notFound => 1
  | .wrongState => 2
  | .damaged => 3
  | .format => 4
  | .versionsFull => 5
  | .extents => 6
  | .cancelled => 7
  | .withdrawn => 8
  | .preserve => 9

/-- The octet of a release cause (R181). -/
def releaseCauseCode : ReleaseCause → Nat
  | .cancelStream => 1
  | .damaged => 2
  | .suspended => 3
  | .withdrawn => 4

/-- The value of a status code (R182). -/
def statusCode : Status → Nat
  | .ok => 0x00
  | .accepted => 0x01
  | .badFrame => 0x02
  | .unknownRequest => 0x03
  | .notPermitted => 0x04
  | .busy => 0x05
  | .starting => 0x06
  | .badArgument => 0x07
  | .notFound => 0x08
  | .alreadyExists => 0x09
  | .wrongState => 0x0A
  | .full => 0x0B
  | .stagingFull => 0x0C
  | .queueFull => 0x0D
  | .offset => 0x0E
  | .checkMismatch => 0x0F
  | .objectsOpen => 0x10
  | .format => 0x11
  | .versionsFull => 0x12
  | .embargoed => 0x13
  | .withdrawn => 0x14
  | .rights => 0x15
  | .noTariff => 0x16
  | .funds => 0x17
  | .suspended => 0x18
  | .damaged => 0x19
  | .preserve => 0x1A
  | .overflow => 0x1B
  | .overrun => 0x1C
  | .mailboxFull => 0x1D
  | .empty => 0x1E
  | .aborted => 0x1F
  | .charged => 0x20
  | .released => 0x21

/-- Position of a notice kind in the table of chapter 11.2, counting from 0. -/
def noticeIndex : Notice → Nat
  | .editionPublished => 0
  | .editionWithdrawn => 1
  | .stagingSpace => 2
  | .storeLow => 3
  | .storeFull => 4
  | .damageFound => 5
  | .passEnded => 6
  | .periodClosed => 7
  | .statementsWaiting => 8
  | .statementOverrun => 9
  | .clockLate => 10
  | .modeChanged => 11
  | .message => 12

/-- An object key in 5 octets (R180). -/
def keyOctets (k : Key) : List Octet := be 2 k.handle ++ be 1 (kindCode k.kind) ++ be 2 k.number

/-- An extent: stripe (2), first leaf (1), leaf count (1). -/
def extentOctets (e : Extent) : List Octet := be 2 e.stripe ++ be 1 e.first ++ be 1 e.count

/-- A set of notice kinds: one bit per name, in 2 octets (R180). -/
def noticeSetOctets (n : NoticeSet) : List Octet := be 2 n.toNat

/-- A frame the AE3 sends: the start octet, the octets the check covers, the check (R180). -/
def frameOctets (body : List Octet) : List Octet := 0x3C#8 :: body ++ be 2 (crc16 body).toNat

/-- A reply frame (R180). -/
def replyFrame (r : Reply) : List Octet :=
  frameOctets (0x01#8 :: r.tag :: (be 1 (statusCode r.status) ++ be 2 r.payload.length ++ r.payload))

/-- A data frame (R180). -/
def dataFrame (id offset : Nat) (octets : List Octet) : List Octet :=
  frameOctets (0x02#8 :: (be 1 id ++ be 4 offset ++ be 2 octets.length ++ octets))

/-- Octets a stream has delivered (R68: "Delivered always equals position less the window offset"). -/
def Stream.delivered (st : Stream) : Nat := st.position - st.offset

/-- The order summary of an ENDED order stream (R145, R181). -/
def orderSummary (st : Stream) (o : OrderPart) : List Octet :=
  be 1 o.account ++ keyOctets st.key ++ be 1 o.breakdown.version ++ be 2 o.breakdown.copies
    ++ be 1 (usageCode o.breakdown.usage) ++ be 1 (if o.breakdown.capped then 1 else 0) ++ be 4 o.breakdown.fee ++ be 3 0
    ++ (match o.cause with
        | none => be 4 o.breakdown.house
            ++ listOf (fun (e : Nat × Nat) => be 2 e.1 ++ be 4 e.2) o.breakdown.parts
        | some c => be 1 (releaseCauseCode c))

/-- The end frame of an ENDED stream (R74, R180). -/
def endFrame (st : Stream) : List Octet :=
  let payload := match st.kind with
    | .order o => orderSummary st o
    | _ => []
  frameOctets (0x03#8 :: (be 1 st.id ++ be 1 (statusCode (st.final.getD .ok)) ++ be 4 st.delivered ++ be 2 payload.length
    ++ payload))

/-- Octets 20 to 35 of a statement record, with the record's kind (R181). -/
def figuresOctets : Figures → Nat × List Octet
  | .account o g h c => (1, be 3 o ++ be 3 g ++ be 3 h ++ be 5 c ++ be 2 0)
  | .contributor o a => (2, be 3 o ++ be 5 a ++ be 8 0)
  | .house r n c => (3, be 5 r ++ be 3 n ++ be 5 c ++ be 3 0)

/-- A statement record in 36 octets (R181). -/
def statementOctets (e : Nat × Statement) : List Octet :=
  be 4 e.1 ++ be 1 (figuresOctets e.2.figures).1 ++ be 2 e.2.period ++ stampOctets e.2.start ++ stampOctets e.2.finish
    ++ be 2 e.2.id ++ be 1 ((if e.2.overflow then 1 else 0) + (if e.2.extended then 2 else 0))
    ++ (figuresOctets e.2.figures).2

/-- The pass result in 18 octets (R181). -/
def passResultOctets (r : PassResult) : List Octet :=
  be 1 (r.pass.getD 0) ++ (match r.key with | some k => keyOctets k | none => be 5 0)
    ++ be 1 (passOutcomeCode r.outcome)
    ++ be 1 (match r.cause with | some c => passCauseCode c | none => 0)
    ++ be 1 ((if r.source.isSome then 1 else 0) + (if r.newNumber.isSome then 2 else 0) + (if r.profile.isSome then 4 else 0)
        + (if r.overflow then 8 else 0))
    ++ be 1 (r.source.getD 0) ++ be 1 (r.newNumber.getD 0)
    ++ be 1 (match r.profile with | some q => q.1 | none => 0) ++ be 1 (match r.profile with | some q => q.2 | none => 0)
    ++ be 4 r.samples ++ be 1 0

end Sys2Proof.Machine
end

