-- ==== Sys2Proof/Machine/Ops.lean ====
section
/-! DEFINITION. The named operations over the clock, the stripe table, the fronts, the wings and the pending sets that the rules of
several chapters use. -/

namespace Sys2Proof.Machine

/-! ### Clock (R165) -/

/-- Now (R165). -/
def State.now (s : State) : Stamp := ⟨s.clock.day, s.clock.tick⟩

/-- Today (R165). -/
def State.today (s : State) : Nat := s.clock.day

/-- Stamps are compared day first, then tick (R165). -/
def earlier (a b : Stamp) : Bool := decide (a.day < b.day) || (decide (a.day = b.day) && decide (a.tick < b.tick))

/-- Whether the clock is saturated (R165; assumption 10). -/
def State.saturated (s : State) : Bool := s.clock.tick == Config.maxTick

/-! ### Supply (R175, R184) -/

/-- Whether the part works: it has power and the reset line is not asserted (R175). -/
def State.running (s : State) : Bool := s.control.powered && !s.control.resetLine

/-- Whether the part works and has left START (R175). -/
def State.working (s : State) : Bool := s.running && s.control.mode != .start

/-! ### Notices (R168) -/

/-- The set of one kind. -/
def noticeBit (n : Notice) : NoticeSet := 1#13 <<< noticeIndex n

/-- A kind set pending for one port (R168). -/
def notify (n : Notice) (p : Port) (s : State) : State :=
  { s with notices := s.notices.set p { s.notices.get p with pending := (s.notices.get p).pending ||| noticeBit n } }

/-- A kind set pending for several ports. -/
def notifyAll (n : Notice) (ps : List Port) (s : State) : State := ps.foldl (fun s p => notify n p s) s

/-! ### The stripe table (R5 to R8) -/

/-- The record of a stripe. -/
def State.stripe (s : State) (n : Nat) : Stripe := tgetD Stripe.formatted s.store.stripes n

/-- The state with the record of a stripe replaced. -/
def State.putStripe (s : State) (n : Nat) (r : Stripe) : State :=
  { s with store.stripes := tset Stripe.formatted s.store.stripes n r }

/-- The state with the record of a stripe changed. -/
def State.mapStripe (s : State) (n : Nat) (g : Stripe → Stripe) : State := s.putStripe n (g (s.stripe n))

/-- Leaves of one stripe become live (R7). -/
def liveRises (n k : Nat) (s : State) : State := s.mapStripe n (fun r => { r with live := r.live + k })

/-- Leaves of one stripe cease to be live (R7). -/
def liveFalls (n k : Nat) (s : State) : State := s.mapStripe n (fun r => { r with live := r.live - k })

/-- The leaves of extents cease to be live (R7). -/
def extentsDie (es : List Extent) (s : State) : State := es.foldl (fun s e => liveFalls e.stripe e.count s) s

/-- The distinct stripes a snapshot names, each once (R68). -/
def snapshotStripes (es : List Extent) : List Nat := (es.map (·.stripe)).dedup

/-- The reader counts of a snapshot's stripes rise (R70). -/
def readersRise (es : List Extent) (s : State) : State :=
  (snapshotStripes es).foldl (fun s n => s.mapStripe n (fun r => { r with readers := r.readers + 1 })) s

/-- The reader counts of a snapshot's stripes fall (R76). -/
def readersFall (es : List Extent) (s : State) : State :=
  (snapshotStripes es).foldl (fun s n => s.mapStripe n (fun r => { r with readers := r.readers - 1 })) s

/-- Retired total (R12). -/
def State.retiredTotal (s : State) : Nat := (s.store.stripes.filter (fun e => e.2.state == .retired)).length

/-! ### The write fronts (R13 to R15) -/

/-- The stripe a front holds: the OPEN stripe whose front field names it (R13). -/
def State.frontStripe (s : State) (f : Front) : Option (Nat × Stripe) :=
  s.store.stripes.find? (fun e => e.2.state == .opened f)

/-- Whether a front may open a stripe (R14). -/
def State.mayOpen (s : State) (f : Front) : Bool :=
  match f with
  | .relocate => 0 < s.store.freeQueue.length
  | _ => Config.relocationReserve < s.store.freeQueue.length

/-- A front takes the head of the free queue as its OPEN stripe (R14). -/
def openStripe (f : Front) (s : State) : State :=
  match s.store.freeQueue with
  | [] => s
  | n :: rest =>
    let s := { s with store.freeQueue := rest }
    s.mapStripe n (fun r => { r with state := .opened f, written := 0, live := 0, programDay := s.today, retirePending := false })

/-- A front stalls, behind those already stalled (R15). -/
def stall (f : Front) (s : State) : State := { s with store.stalled := s.store.stalled ++ [f] }

/-- A front's stall ends (R15). -/
def unstall (f : Front) (s : State) : State := { s with store.stalled := s.store.stalled.filter (· != f) }

/-- Whether a front is stalled (R15). -/
def State.isStalled (s : State) (f : Front) : Bool := s.store.stalled.contains f

/-- The stalled fronts are examined in the order in which they stalled, and each whose condition now holds opens a stripe (R15). -/
def examineStalled (s : State) : State :=
  s.store.stalled.foldl (fun s f => if s.mayOpen f then unstall f (openStripe f s) else s) s

/-- Whether a leaf written next by a front would extend an extent list's last extent (R59, R106). -/
def wouldExtend (front : Option (Nat × Stripe)) (es : List Extent) : Bool :=
  match front, es.getLast? with
  | some (n, r), some e => e.stripe == n && e.first + e.count == r.written
  | _, _ => false

/-- An extent list with a written leaf recorded (R59, R106). -/
def recordLeaf (es : List Extent) (stripe place : Nat) : List Extent :=
  match es.getLast? with
  | some e =>
    if e.stripe = stripe ∧ e.first + e.count = place then es.dropLast ++ [{ e with count := e.count + 1 }]
    else es ++ [⟨stripe, place, 1⟩]
  | none => [⟨stripe, place, 1⟩]

/-! ### The wings (R4, R20, R22) -/

/-- A fetch whose requester has ceased (R4). -/
def ceaseFetch (who : Fetcher) (op : Option FetchOp) : Option FetchOp :=
  op.map (fun o => if o.owner = who then { o with owner := .ceased } else o)

/-- The wings after a requester of fetches has ceased (R4). -/
def detachFetcher (who : Fetcher) (s : State) : State :=
  match s.store.wings with
  | .split a b => { s with store.wings := .split (ceaseFetch who a) (ceaseFetch who b) }
  | .both _ => s

/-- The wings after the feeder of a front has ceased (R4). -/
def detachFeeder (f : Front) (s : State) : State :=
  match s.store.wings with
  | .both (.program op) => if op.front = f then { s with store.wings := .both (.program { op with ceased := true }) } else s
  | _ => s

/-- Whether a front's program is in flight, its feeder ceased or not. -/
def State.programInFlight (s : State) (f : Front) : Bool :=
  match s.store.wings with
  | .both (.program op) => op.front == f
  | _ => false

/-- The wing of a body sheet: wing-half h mod 2 (R72). -/
def wingOf (sheet : Nat) : Wing := if sheet % 2 = 0 then .low else .high

/-- Where a version leaf lies by an extent list: stripe and stripe leaf (R1, R72). -/
def locate : List Extent → Nat → Option (Nat × Nat)
  | [], _ => none
  | e :: rest, j => if j < e.count then some (e.stripe, e.first + j) else locate rest (j - e.count)

/-! ### The flash (R1, R2, R3) -/

/-- The canonical form of the flash: addresses strictly rise. A listed leaf is never an erased one, which is what an unlisted address
reads as, so that equal contents are equal data. -/
abbrev Memory.wf (t : Table Cell) : Prop := Table.Ordered t

/-- Key of a leaf in the flash table. -/
def leafAddress (stripe place : Nat) : Nat := stripe * Config.leavesPerStripe + place

/-- A key as a tag carries it. -/
def Key.wire (k : Key) : WireKey := ⟨k.handle, kindCode k.kind, k.number⟩

/-- The data of a leaf with the zero octets the store adds after its end (R2). -/
def padLeaf (data : List Octet) : List Octet := data ++ List.replicate (Config.leafOctets - data.length) 0#8

/-- The tag octets beyond the record as a program writes them: zeros up to the sheet's 1,024 tag octets (R1, R2; assumption 42). -/
def zeroTagOctets : List Octet := List.replicate (Config.sheetTagOctets - Config.tagRecordOctets) 0#8

/-- One sheet as a leaf program writes it: half of the leaf's body, the tag record with the body check, and zero octets in the rest of
the tag area (R2). -/
def programmedSheet (op : ProgramOp) (w : Wing) : Sheet :=
  let body := match w with
    | .low => (padLeaf op.data).take Config.sheetOctets
    | .high => ((padLeaf op.data).drop Config.sheetOctets).take Config.sheetOctets
  { body := body
    tag := some { key := op.key.wire, version := op.version, leaf := op.leaf,
                  half := (match w with | .low => 0 | .high => 1), check := crc32 body }
    beyond := zeroTagOctets }

/-- The flash after a program completes WRITTEN (R2). -/
def writeLeaf (op : ProgramOp) (s : State) : State :=
  let cell := Cell.programmed (programmedSheet op .low) (programmedSheet op .high)
  { s with store.flash := tput s.store.flash (leafAddress op.stripe op.place) cell }

/-- The flash after a leaf's contents are lost: a program FAILED or cut off (assumption 5). -/
def loseLeaf (stripe place : Nat) (s : State) : State :=
  { s with store.flash := tput s.store.flash (leafAddress stripe place) (.undefined s.store.lost), store.lost := s.store.lost + 1 }

/-- The flash after a stripe is erased (R11): no sheet of it carries a valid tag (R3). -/
def eraseLeaves (stripe : Nat) (s : State) : State :=
  { s with store.flash := s.store.flash.filter (fun e => !(e.1 / Config.leavesPerStripe == stripe)) }

/-- The flash after a stripe's contents are lost: an erase FAILED or cut off (assumption 5). -/
def loseStripe (stripe : Nat) (s : State) : State :=
  (List.range Config.leavesPerStripe).foldl (fun s i => loseLeaf stripe i s) s

/-- Octets cut or filled with zeros to a length. -/
def fitTo (n : Nat) (octets : List Octet) : List Octet := (octets ++ List.replicate n 0#8).take n

/-- A sheet with the 16,384 body octets and the 1,024 tag octets of a sheet (R1). -/
def fitSheet (x : Sheet) : Sheet :=
  { x with
    body := fitTo Config.sheetOctets x.body,
    beyond := fitTo (Config.sheetTagOctets - Config.tagRecordOctets) x.beyond }

/-- An erased sheet, which carries no valid tag (R3) and whose octets no rule reads. -/
def erasedSheet : Sheet := ⟨[], none, []⟩

/-- A sheet as the flash holds it; an erased sheet carries no valid tag (R3). -/
def State.sheetAt (s : State) (stripe place : Nat) (w : Wing) : Sheet :=
  match tget s.store.flash (leafAddress stripe place), w with
  | none, _ => erasedSheet
  | some (.programmed a _), .low => a
  | some (.programmed _ b), .high => b
  | some (.undefined n), w => fitSheet (Config.undefinedSheet n w)

/-- The verdict on a fetched sheet (R3): SOUND (`true`) or DAMAGED (`false`). -/
def sound (key : Key) (version leaf : Nat) (w : Wing) (sheet : Sheet) : Bool :=
  match sheet.tag with
  | none => false
  | some t =>
    t.key == key.wire && t.version == version && t.leaf == leaf && t.half == (match w with | .low => 0 | .high => 1)
      && crc32 sheet.body == t.check

/-! ### Ledger records -/

/-- The record of an account (R114). -/
def State.account (s : State) (id : Nat) : Account := tgetD Account.formatted s.ledger.accounts id

/-- The state with the record of an account replaced. -/
def State.putAccount (s : State) (id : Nat) (a : Account) : State :=
  { s with ledger.accounts := tset Account.formatted s.ledger.accounts id a }

/-- The record of a contributor (R122). -/
def State.contributor (s : State) (id : Nat) : Contributor := tgetD Contributor.formatted s.ledger.contributors id

/-- The state with the record of a contributor replaced. -/
def State.putContributor (s : State) (id : Nat) (c : Contributor) : State :=
  { s with ledger.contributors := tset Contributor.formatted s.ledger.contributors id c }

/-- A rise of a 24-bit saturating counter: the counter after it, and whether the rise would pass the maximum (R75, R114, R122). -/
def rise24 (counter by_ : Nat) : Nat × Bool := (min (counter + by_) Config.max24, Config.max24 < counter + by_)

end Sys2Proof.Machine
end

