-- ==== Sys2Proof/Machine/Flags.lean ====
section
/-! DEFINITION. The conditions that stand behind the condition notices (R96, R160, R165, R168), the retire condition (R173), and the
notice line of a port (R168). -/

namespace Sys2Proof.Machine

/-- STORE_LOW: the free queue holds fewer stripes than low mark (R96). -/
def State.storeLow (s : State) : Bool := decide (s.store.freeQueue.length < s.control.settings.lowMark)

/-- STORE_FULL: the INTAKE or RESTORE front is stalled, or reclaim is blocked (R15, R96). -/
def State.storeFull (s : State) : Bool := s.isStalled .intake || s.isStalled .restore || s.relocation.blocked

/-- STATEMENTS_WAITING: the statement queue is not empty (R160). -/
def State.statementsWaiting (s : State) : Bool := !s.billing.queue.isEmpty

/-- CLOCK_LATE: the clock is saturated or unconfirmed (R165). -/
def State.clockLate (s : State) : Bool := s.saturated || !s.clock.confirmed

/-- The retire condition: retired total equals or exceeds the retire limit (R173). -/
def State.retireCondition (s : State) : Bool := decide (s.control.settings.retireLimit ≤ s.retiredTotal)

/-- A kind in a set when a condition holds. -/
def bitIf (b : Bool) (n : Notice) : NoticeSet := if b then noticeBit n else 0#13

/-- The condition notices that hold for a port (R168, table of chapter 11.2). -/
def State.standing (s : State) (p : Port) : NoticeSet :=
  match p with
  | .counter => bitIf s.statementsWaiting .statementsWaiting ||| bitIf s.clockLate .clockLate
  | _ => bitIf s.storeLow .storeLow ||| bitIf s.storeFull .storeFull ||| bitIf s.clockLate .clockLate

/-- The conditions of TAKE_NOTICES' reply that hold for a port, one bit per name in R169's order: STORE_LOW, STORE_FULL,
STATEMENTS_WAITING, CLOCK_LATE (assumption 29). -/
def State.standingOctet (s : State) (p : Port) : Octet :=
  let both := p != .counter
  (if both && s.storeLow then 1#8 else 0#8) ||| (if both && s.storeFull then 2#8 else 0#8)
    ||| (if !both && s.statementsWaiting then 4#8 else 0#8) ||| (if s.clockLate then 8#8 else 0#8)

/-- The conditions that hold for a port set pending (R168). -/
def holdFor (p : Port) (s : State) : State :=
  { s with notices := s.notices.set p { s.notices.get p with pending := (s.notices.get p).pending ||| s.standing p } }

/-- The conditions that hold set pending for all ports. A condition that already held is already pending, so what this adds is
the conditions that began to hold (R168). -/
def holdConditions (s : State) : State := holdFor .counter (holdFor .bench (holdFor .desk s))

/-- A port's notice line: asserted while its pending set and its mask have a kind in common (R168). -/
def State.noticeLine (s : State) (p : Port) : Bool := ((s.notices.get p).pending &&& (s.notices.get p).mask) != 0#13

end Sys2Proof.Machine
end

