-- ==== Sys2Proof/Machine/Operands.lean ====
section
/-! DEFINITION. What the operands of a request stand for: names from their positions (R180), keys, sets of ports, and editions as a
port may see them (R28). -/

namespace Sys2Proof.Machine

/-- The kind at a position (R180). -/
def kindOf : Nat → Option Kind
  | 1 => some .page
  | 2 => some .photo
  | _ => none

/-- The usage at a position (R180). -/
def usageOf : Nat → Option Usage
  | 1 => some .print
  | 2 => some .digital
  | 3 => some .broadcast
  | 4 => some .editorial
  | _ => none

/-- The rights at a position (R36). -/
def rightsOf : Nat → Option Rights
  | 1 => some .reprint
  | 2 => some .noReprint
  | _ => none

/-- The format at a position (R36). -/
def formatOf : Nat → Option Format
  | 1 => some .grey8
  | 2 => some .opaqueBody
  | _ => none

/-- The fail-safe action at a position (R172). -/
def failSafeOf : Nat → Option FailSafe
  | 1 => some .flag
  | 2 => some .preserve
  | _ => none

/-- The pass mode at a position (R98). -/
def passModeOf : Nat → Option PassMode
  | 1 => some .survey
  | 2 => some .manual
  | _ => none

/-- The state SET_CONTRIBUTOR_STATE may name, at its position in R122's list (assumption 17). -/
def settableStateOf : Nat → Option ContributorState
  | 2 => some .active
  | 3 => some .barred
  | _ => none

/-- Whether a number is one of a kind's numbers: PAGE 1..255, PHOTO 1..4,095 (R36). -/
def numberInRange (k : Kind) (n : Nat) : Bool :=
  match k with
  | .page => 1 ≤ n && n ≤ 255
  | .photo => 1 ≤ n && n ≤ 4095

/-- The object key a request names, when its kind and number are in range (R36). -/
def keyOf (w : WireKey) : Option Key :=
  match kindOf w.kind with
  | some k => if numberInRange k w.number then some ⟨w.handle, k, w.number⟩ else none
  | none => none

/-- Keys in the order of the object table: handle, kind, number (R36). -/
def Key.code (k : Key) : Nat := k.handle * 8192 + (match k.kind with | .page => 0 | .photo => 4096) + k.number

/-- A port's bit in a set of ports (R180). -/
def portBit : Port → Nat
  | .desk => 0
  | .bench => 1
  | .counter => 2

/-- The ports of a set of ports; the bits that stand for no port are not read (assumption 27). -/
def portsOf (b : BitVec 8) : List Port := allPorts.filter (fun p => b.getLsbD (portBit p))

/-- An edition record in use. -/
def State.edition (s : State) (h : Nat) : Option Edition := tget s.catalog.editions h

/-- The state with an edition record set. -/
def State.putEdition (s : State) (h : Nat) (e : Edition) : State := { s with catalog.editions := tput s.catalog.editions h e }

/-- An object record. -/
def State.object (s : State) (k : Key) : Option Object := tget s.catalog.objects k.code

/-- The state with an object record set. -/
def State.putObject (s : State) (o : Object) : State := { s with catalog.objects := tput s.catalog.objects o.key.code o }

/-- How an edition in use answers a port that may not see it, or nothing when the port sees it (R28). -/
def hidden (e : Edition) (p : Port) : Option Status :=
  match e.state with
  | .opened => if p = e.owner then none else some .notFound
  | .closing => if p = e.owner then none else some .notFound
  | .published => none
  | .withdrawn => if p = .counter then some .withdrawn else none
  | .purged => if p = .counter then some .notFound else none

/-- An edition as a port sees it: the record, or the status that answers a request naming it (R28). -/
def State.see (s : State) (p : Port) (h : Nat) : Except Status Edition :=
  match s.edition h with
  | none => .error .notFound
  | some e => match hidden e p with
    | some st => .error st
    | none => .ok e

/-- An object as a port sees it: the edition and the object record, or the status that answers a request naming it (R28). -/
def State.seeObject (s : State) (p : Port) (w : WireKey) : Except Status (Edition × Object) :=
  match s.see p w.handle with
  | .error st => .error st
  | .ok e => match keyOf w with
    | none => .error .notFound
    | some k => match s.object k with
      | none => .error .notFound
      | some o => if e.state = .purged then .error .notFound else .ok (e, o)

/-- The best version of an object: the last GOOD version in its list (R41). -/
def Object.best (o : Object) : Option Version := (o.versions.filter (fun v => !v.damaged)).getLast?

/-- A version of an object by its number. -/
def Object.version (o : Object) (n : Nat) : Option Version := o.versions.find? (fun v => v.number == n)

/-- The version a request names, or the status that refuses it (R41): NOT_FOUND for a number that is not in the list, DAMAGED for a
DAMAGED version and for an object without a best version. -/
def Object.choose (o : Object) : Source → Except Status Version
  | .best => match o.best with
    | none => .error .damaged
    | some v => .ok v
  | .number n => match o.version n with
    | none => .error .notFound
    | some v => if v.damaged then .error .damaged else .ok v

/-- Whether an object of an edition is embargoed: now is earlier than the release stamp (R28). -/
def State.embargoed (s : State) (e : Edition) : Bool :=
  match e.release with
  | some r => earlier s.now r
  | none => false

/-- The version with a number and serial that an object still holds (R38). -/
def State.held (s : State) (k : Key) (number serial : Nat) : Option Version :=
  match s.object k with
  | none => none
  | some o => o.versions.find? (fun v => v.number == number && v.serial == serial)

/-- Leaves of a body of a length: ceil(length / 32,768) (R39, R48). -/
def leavesOf (length : Nat) : Nat := (length + Config.leafOctets - 1) / Config.leafOctets

end Sys2Proof.Machine
end

