-- ==== Sys2Proof/Machine/Links.lean ====
section
/-! DEFINITION. The link units: taking a request frame and screening it (R177, R178), the replies, the refusal slot, and the transmit
side (R179). -/

namespace Sys2Proof.Machine

/-- The answer a rule makes: the status code and the payload of the reply. -/
structure Answer where
  status : Status
  payload : List Octet
  deriving DecidableEq, Repr

/-- A reply without figures. -/
def plain (st : Status) : Answer := ⟨st, []⟩

/-- Ports of the first row of R178's table of permissions. -/
def deskAndBench : List Port := [.desk, .bench]

/-- Ports of its second row. -/
def deskOnly : List Port := [.desk]

/-- Ports of its third row. -/
def benchOnly : List Port := [.bench]

/-- Ports of its fourth row. -/
def counterOnly : List Port := [.counter]

/-- Whether a port's link unit receives frames: the part works (R184) and no break is held (R183). -/
def State.receives (s : State) (p : Port) : Bool := s.running && !(s.links.get p).breakHeld

/-- Whether a port has a request in progress (R177). -/
def State.inProgress (s : State) (p : Port) : Bool := (s.links.get p).request.isSome

/-- The link unit at the event at which a frame has arrived whole: it hunts from the next octet (R176; assumption 31). -/
def Link.heard (l : Link) : Link := { l with reception := .hunting }

/-- The reply of the request in progress is made (R177, R179). -/
def reply (p : Port) (tag : Octet) (a : Answer) (s : State) : State :=
  let l := (s.links.get p).heard
  let l' := { l with request := some ⟨tag, a.status, a.payload⟩, waiting := l.waiting ++ [.request] }
  { s with links := s.links.set p l' }

/-- A frame that arrives while a request is in progress is answered through the refusal slot, or discarded when the slot is full
(R177). -/
def refuse (p : Port) (tag : Octet) (st : Status) (s : State) : State :=
  let l := (s.links.get p).heard
  match l.refusal with
  | some _ => { s with links := s.links.set p l }
  | none => { s with links := s.links.set p { l with refusal := some ⟨tag, st, []⟩, waiting := l.waiting ++ [.refusal] } }

/-- The next data frame of an ACTIVE stream, when its send sheet holds the octet at position: up to the next multiple of 4,096 or
the window's end (R74). -/
def nextDataFrame (st : Stream) : Option Transmission :=
  match st.send with
  | none => none
  | some b =>
    if b.sheet = st.position / Config.sheetOctets ∧ st.position < st.offset + st.size then
      let n := min (Config.maxChunk - st.position % Config.maxChunk) (st.offset + st.size - st.position)
      some (.data st.id st.position ((b.body.drop (st.position % Config.sheetOctets)).take n))
    else none

/-- The frame the stream unit offers a port: the end frame of the earliest-ended stream, or else the next data frame of the ACTIVE
stream (R74). -/
def streamFrame (ps : PortStreams) : Option Transmission :=
  match ps.ended with
  | st :: _ => some (.ending st.id)
  | [] => match ps.queue with
    | st :: _ => nextDataFrame st
    | [] => none

/-- A free transmitter sends the oldest waiting reply, or else asks for a stream frame (R179); none is sent while a break is held
(R183). -/
def transmit (p : Port) (s : State) : State :=
  let l := s.links.get p
  if l.breakHeld || l.sending.isSome then s
  else match l.waiting with
    | slot :: rest => { s with links := s.links.set p { l with waiting := rest, sending := some (.reply slot) } }
    | [] => match streamFrame (s.streams.ports.get p) with
      | some t => { s with links := s.links.set p { l with sending := some t } }
      | none => s

/-- The transmitters of all ports, in the order desk, bench, counter. -/
def transmitAll (s : State) : State := transmit .counter (transmit .bench (transmit .desk s))

/-- The octets on the line for a frame in transmission (R180). -/
def State.frameOnLine (s : State) (p : Port) : Option (List Octet) :=
  let l := s.links.get p
  match l.sending with
  | none => none
  | some (.reply .request) => l.request.map replyFrame
  | some (.reply .refusal) => l.refusal.map replyFrame
  | some (.data id offset octets) => some (dataFrame id offset octets)
  | some (.ending id) => ((s.streams.ports.get p).ended.find? (fun st => st.id == id)).map endFrame

/-- The screening of a request that is taken: permission, START, the payload's length (R178 steps 2 to 4); step 1 is the row
UNKNOWN_REQUEST. -/
def screen (ports : List Port) (inStart : Bool) (f : Frame) (s : State) : Option Status :=
  if !ports.contains f.port then some .notPermitted
  else if s.control.mode == .start && !inStart then some .starting
  else if !f.fits then some .badArgument
  else none

/-- A request frame that arrives (R177, R178): not received while the link unit receives none, refused while a request is in
progress, answered by the screening, or handled by the rule that owns it at the same event. `after` is what the event brings about
in the blocks once the rule has acted; the reply's content is the outcome of the event. -/
def serveWith (after : State → State) (ports : List Port) (inStart : Bool) (f : Frame) (rule : State → State × Answer)
    (s : State) : State :=
  if !s.receives f.port then s
  else if s.inProgress f.port then transmit f.port (refuse f.port f.tag .busy s)
  else match screen ports inStart f s with
    | some st => transmit f.port (reply f.port f.tag (plain st) s)
    | none => after (reply f.port f.tag (rule s).2 (rule s).1)

/-- A request whose rule reaches no engine and no other port's transmitter. -/
def serve (ports : List Port) (f : Frame) (rule : State → State × Answer) (s : State) : State :=
  serveWith (transmit f.port) ports false f rule s

/-- A request that is answered in START too: STATUS and IDENTIFY (R175, R178). -/
def serveAlways (f : Frame) (rule : State → State × Answer) (s : State) : State :=
  serveWith (transmit f.port) allPorts true f rule s

/-- The state is unchanged and the status answers. -/
def deny (st : Status) (s : State) : State × Answer := (s, plain st)

end Sys2Proof.Machine
end

