-- ==== Sys2Proof/Machine/Streams.lean ====
section
/-! DEFINITION. The stream unit (chapter 4): queues, ids, acceptance and snapshot, the sheets of a window, the end of a stream, and the
release of an order with its stream (R144), which the other chapters' events call. -/

namespace Sys2Proof.Machine

/-- A port's streams. -/
def State.portStreams (s : State) (p : Port) : PortStreams := s.streams.ports.get p

/-- The state with a port's streams replaced. -/
def State.putPortStreams (s : State) (p : Port) (ps : PortStreams) : State :=
  { s with streams.ports := s.streams.ports.set p ps }

/-- The ids a port's streams hold (R67). -/
def PortStreams.ids (ps : PortStreams) : List Nat := ps.queue.map (·.id) ++ ps.ended.map (·.id)

/-- The lowest free id of a port (R67). -/
def PortStreams.freeId (ps : PortStreams) : Option Nat := lowestFree Config.streamIds ps.ids

/-- Whether a port's queue holds fewer than 4 WAITING records (R67). -/
def PortStreams.hasRoom (ps : PortStreams) : Bool := decide (ps.queue.length < Config.waitingStreams + 1)

/-- A stream record as acceptance makes it (R70, R71, R140). -/
def newStream (id : Nat) (kind : StreamKind) (key : Key) (v : Version) (offset size : Nat) : Stream :=
  { id := id, kind := kind, key := key, version := v.number, serial := v.serial, snapshot := v.extents, length := v.length,
    offset := offset, size := size, position := offset, send := none, ahead := none, fetch := .none, final := none }

/-- A stream is accepted on a port (R69, R70). -/
def acceptStream (p : Port) (st : Stream) (s : State) : State :=
  let s := readersRise st.snapshot s
  let ps := s.portStreams p
  s.putPortStreams p { ps with queue := ps.queue ++ [st] }

/-- A stream is accepted into the PASS_SOURCE slot (R80). -/
def acceptPassSource (st : Stream) (s : State) : State :=
  let s := readersRise st.snapshot s
  { s with streams.passSource := some st }

/-- The next sheet of a stream's window that it has neither fetched nor requested (R73). -/
def nextSheet (st : Stream) : Option Nat :=
  let h := match st.send with
    | some b => b.sheet + 1
    | none => st.position / Config.sheetOctets
  if h * Config.sheetOctets < st.offset + st.size then some h else none

/-- Whether a stream presents a fetch: none outstanding, ahead sheet empty, a sheet remaining (R73). -/
def wantsFetch (st : Stream) : Bool := st.fetch == .none && st.ahead.isNone && (nextSheet st).isSome

/-- A fetched sheet becomes the send sheet if that is empty, and otherwise the ahead sheet (R73). -/
def takeSheet (sheet : Nat) (body : List Octet) (st : Stream) : Stream :=
  match st.send with
  | none => { st with send := some ⟨sheet, body⟩, fetch := .none }
  | some _ => { st with ahead := some ⟨sheet, body⟩, fetch := .none }

/-- Octets of the send sheet have been sent or handed on: position rises, and when every octet of the send sheet that lies in the
window has gone, the ahead sheet becomes the send sheet (R73, R74). -/
def advance (n : Nat) (st : Stream) : Stream :=
  let st := { st with position := st.position + n }
  match st.send with
  | none => st
  | some b =>
    if (b.sheet + 1) * Config.sheetOctets ≤ st.position ∨ st.offset + st.size ≤ st.position then
      { st with send := st.ahead, ahead := none }
    else st

/-- The ACTIVE stream of a port changed. -/
def mapActive (p : Port) (g : Stream → Stream) (s : State) : State :=
  let ps := s.portStreams p
  match ps.queue with
  | [] => s
  | st :: rest => s.putPortStreams p { ps with queue := g st :: rest }

/-- A stream of a port ends (R76): its fetch in flight is left to be discarded, a pending one is withdrawn with the record, its
snapshot stripes lose a reader, it leaves the queue, and with a final status it waits to send its end frame. -/
def endStream (p : Port) (st : Stream) (kind : StreamKind) (final : Option Status) (s : State) : State :=
  let s := if st.fetch = .inFlight then detachFetcher (.stream p) s else s
  let s := readersFall st.snapshot s
  let ps := s.portStreams p
  let queue := ps.queue.filter (fun x => x.id != st.id)
  match final with
  | none => s.putPortStreams p { ps with queue := queue }
  | some f =>
    let dead := { st with kind := kind, send := none, ahead := none, fetch := .none, final := some f }
    s.putPortStreams p { queue := queue, ended := ps.ended ++ [dead] }

/-- The PASS_SOURCE stream ends (R76, R80). -/
def endPassSource (s : State) : State :=
  match s.streams.passSource with
  | none => s
  | some st =>
    let s := if st.fetch = .inFlight then detachFetcher .passSource s else s
    let s := readersFall st.snapshot s
    { s with streams.passSource := none }

/-- An account's held falls by a fee (R120). -/
def heldFalls (account fee : Nat) (s : State) : State :=
  let a := s.account account
  s.putAccount account { a with held := a.held - fee }

/-- An order is released with its cause (R144); `ending` is whether its end frame is sent. -/
def releaseOrder (p : Port) (st : Stream) (o : OrderPart) (cause : ReleaseCause) (ending : Bool) (s : State) : State :=
  let s := heldFalls o.account o.breakdown.fee s
  endStream p st (.order { o with cause := some cause }) (if ending then some .released else none) s

/-- A stream is cut off: a READ ends with a status, an ORDER is released with a cause (R77, R78, R144). -/
def cutStream (p : Port) (st : Stream) (readStatus : Status) (cause : ReleaseCause) (s : State) : State :=
  match st.kind with
  | .order o => releaseOrder p st o cause true s
  | k => endStream p st k (some readStatus) s

/-- The orders of the counter port's queue that a predicate picks, released in queue order (R147, R148). -/
def releaseOrders (pick : Stream → OrderPart → Bool) (cause : ReleaseCause) (sts : List Stream) (s : State) : State :=
  sts.foldl (fun s st => match st.kind with
    | .order o => if pick st o then releaseOrder .counter st o cause true s else s
    | _ => s) s

/-- A link reset ends every stream of a port without an end frame; its orders in the queue are released, and ENDED streams are
freed (R81, R150). -/
def resetStreams (p : Port) (s : State) : State :=
  let s := (s.portStreams p).queue.foldl (fun s st => match st.kind with
    | .order o => releaseOrder p st o .cancelStream false s
    | k => endStream p st k none s) s
  s.putPortStreams p { queue := [], ended := [] }

end Sys2Proof.Machine
end

