-- ==== Sys2Proof/Machine/Catalog.lean ====
section
/-! DEFINITION. The catalog's events (chapter 2): publication, return to OPEN, removal of an object, a version marked DAMAGED. -/

namespace Sys2Proof.Machine

/-- The publication event of an edition (R30). -/
def publish (h : Nat) (s : State) : State :=
  match s.edition h with
  | none => s
  | some e =>
    let release := match e.origin with
      | .historical => some s.now
      | .current => e.release
    notifyAll .editionPublished allPorts
      (s.putEdition h { e with state := .published, published := some s.now, release := release })

/-- A CLOSING edition returns to OPEN (R31). -/
def returnToOpen (h : Nat) (s : State) : State :=
  match s.edition h with
  | none => s
  | some e =>
    if e.state = .closing then s.putEdition h { e with state := .opened, release := none, outstanding := 0 } else s

/-- A photo's entries in a page's placement list become vacant (R37). -/
def vacate (photo : Key) (o : Object) : Object :=
  { o with placements := o.placements.map (fun e => if e.photo = photo then { e with vacant := true } else e) }

/-- A photo's key is deleted from a descriptor's placement list (R51). -/
def unplace (photo : Key) (d : Descriptor) : Descriptor :=
  { d with placements := d.placements.filter (fun k => k != photo) }

/-- An object record is removed (R42): its versions' leaves cease to be live, and for a PHOTO the placement entries that name it
become vacant in every page (R37) and are deleted from every descriptor (R51). -/
def removeObject (o : Object) (s : State) : State :=
  let s := o.versions.foldl (fun s v => extentsDie v.extents s) s
  let s := { s with catalog.objects := tdel s.catalog.objects o.key.code }
  match o.key.kind with
  | .page => s
  | .photo =>
    { s with
      catalog.objects := s.catalog.objects.map (fun e => (e.1, vacate o.key e.2)),
      intake.descriptors := s.intake.descriptors.map (fun e => (e.1, unplace o.key e.2)) }

/-- The objects of an edition, in key order. -/
def State.objectsOf (s : State) (h : Nat) : List Object :=
  (s.catalog.objects.map (·.2)).filter (fun o => o.key.handle == h)

/-- Every object of an edition is removed (R32, R35). -/
def removeObjects (h : Nat) (s : State) : State := (s.objectsOf h).foldl (fun s o => removeObject o s) s

/-- A version's record changed where number and serial name it. -/
def mapVersion (number serial : Nat) (g : Version → Version) (o : Object) : Object :=
  { o with versions := o.versions.map (fun v => if v.number = number ∧ v.serial = serial then g v else v) }

/-- The catalog acts on a damage report (R40): the state with the version DAMAGED and DAMAGE_FOUND pending, or nothing when the report
changes nothing. -/
def markDamaged (k : Key) (number serial : Nat) (s : State) : Option State :=
  match s.object k, s.held k number serial with
  | some o, some v =>
    if v.damaged then none
    else some (notifyAll .damageFound deskAndBench (s.putObject (mapVersion number serial (fun v => { v with damaged := true }) o)))
  | _, _ => none

end Sys2Proof.Machine
end

