-- ==== Sys2Proof/Machine/Passes.lean ====
section
/-! DEFINITION. The restoration engine (chapter 6): the checks and start of a pass, survey and profile, the correction, the end of a
pass. -/

namespace Sys2Proof.Machine

/-! ### Checks and start (R100, R101) -/

/-- The second to seventh checks of R100: the version the pass would take, or the cause of the first check that fails. -/
def State.passChecks (s : State) (key : WireKey) (source : Source) : Except PassCause (Object × Version) :=
  match s.seeObject .bench key with
  | .error _ => .error .notFound
  | .ok (e, o) =>
    if e.state ≠ .published then .error .wrongState
    else match o.choose source with
      | .error .damaged => .error .damaged
      | .error _ => .error .notFound
      | .ok v =>
        if o.format ≠ .grey8 then .error .format
        else if Config.versionsPerObject ≤ o.versions.length ∨ 255 ≤ o.lastNumber then .error .versionsFull
        else .ok (o, v)

/-- The status code of a check's cause (R100). -/
def passCauseStatus : PassCause → Status
  | .notFound => .notFound
  | .wrongState => .wrongState
  | .damaged => .damaged
  | .format => .format
  | .versionsFull => .versionsFull
  | _ => .preserve

/-! ### The end of a pass (R108, R112) -/

/-- What the result slot shows of a pass that ends (R112). -/
def resultOf (p : Pass) (outcome : PassOutcome) (cause : Option PassCause) (h : Histogram) : PassResult :=
  let surveyed := p.mode == .survey && p.bound.isSome
  { pass := some p.id, key := some p.key, outcome := outcome, cause := cause, source := p.bound.map (·.version),
    newNumber := if outcome = .created then p.newNumber else none, profile := p.profile,
    samples := if surveyed then h.samples else 0, overflow := surveyed && h.overflow }

/-- What the end of the active pass does to the store, the streams and the histogram (R108). -/
def stopActive (created : Bool) (s : State) : State :=
  let s := endPassSource s
  let s := unstall .restore (detachFeeder .restore s)
  let s := if created then s else extentsDie s.passes.output s
  let h := s.passes.histogram
  let h := if h.state = .counting then { h with state := .partialCount } else h
  { s with passes.output := [], passes.histogram := h, passes.active := none }

/-- The result slot is written and PASS_ENDED is set pending for the bench port (R108, R112). -/
def recordResult (p : Pass) (outcome : PassOutcome) (cause : Option PassCause) (s : State) : State :=
  notify .passEnded .bench { s with passes.result := resultOf p outcome cause s.passes.histogram }

/-- The active pass ends (R108). -/
def endActive (p : Pass) (outcome : PassOutcome) (cause : Option PassCause) (s : State) : State :=
  recordResult p outcome cause (stopActive (outcome == .created) s)

/-- The queued passes a predicate picks end ABORTED, in queue order (R109). -/
def abortQueued (pick : Pass → Bool) (cause : PassCause) (s : State) : State :=
  let gone := s.passes.queue.filter pick
  let s := { s with passes.queue := s.passes.queue.filter (fun p => !pick p) }
  gone.foldl (fun s p => recordResult p .aborted (some cause) s) s

/-- The passes a predicate picks end ABORTED, the active one first and then the queued ones in queue order (R109). -/
def abortPasses (pick : Pass → Bool) (cause : PassCause) (s : State) : State :=
  let s := match s.passes.active with
    | some p => if pick p then endActive p .aborted (some cause) s else s
    | none => s
  abortQueued pick cause s

/-- A link reset of the bench port ends the active pass and empties the queue, without result or notice (R109). -/
def resetPasses (s : State) : State :=
  let s := match s.passes.active with
    | some _ => stopActive false s
    | none => s
  { s with passes.queue := [] }

/-! ### Start (R99, R101, R102) -/

/-- The histogram as a survey begins it (R102). -/
def startedHistogram (id : Nat) : Histogram :=
  { state := .counting, pass := some id, samples := 0, overflow := false, bins := List.replicate 64 0 }

/-- The oldest queued pass is started (R101): its checks are made again, and it ends or becomes active. Its new number is present from this
event on, as R101 sets it, in SURVEY too, although R98's table says that it is fixed at the start of CORRECT (assumption 44). -/
def startPass (p : Pass) (s : State) : State :=
  match s.passChecks p.key.wire p.source with
  | .error c => recordResult p .aborted (some c) s
  | .ok (o, v) =>
    let s := acceptPassSource (newStream 0 .passSource p.key v 0 v.length) s
    let bound : Bound := ⟨v.number, v.serial, v.length⟩
    let p := { p with bound := some bound, newNumber := some (o.lastNumber + 1) }
    match p.mode with
    | .survey => { s with passes.active := some { p with phase := .survey }, passes.histogram := startedHistogram p.id }
    | .manual => { s with passes.active := some { p with phase := .correct } }

/-- Queued passes are started until one becomes active or the queue is empty (R99); the first argument bounds the passes started. -/
def startPasses : Nat → State → State
  | 0, s => s
  | n + 1, s =>
    match s.passes.active, s.passes.queue with
    | none, p :: rest => startPasses n (startPass p { s with passes.queue := rest })
    | _, _ => s

/-! ### Survey and profile (R102, R103) -/

/-- One sample counted (R102). -/
def countSample (h : Histogram) (g : Octet) : Histogram :=
  let b := g.toNat / 4
  let c := h.bins.getD b 0
  if c < Config.max24 then { h with samples := h.samples + 1, bins := h.bins.set b (c + 1) }
  else { h with samples := h.samples + 1, overflow := true }

/-- The octets of a sheet whose body offset is a multiple of the stride are counted (R102); `at_` is the offset of the first. -/
def countOctets (stride : Nat) : Nat → List Octet → Histogram → Histogram
  | _, [], h => h
  | at_, g :: rest, h => countOctets stride (at_ + 1) rest (if at_ % stride = 0 then countSample h g else h)

/-- The smallest bin for which the sum of bins 0 through it exceeds TL (R103). -/
def lowBin (bins : List Nat) (tl : Nat) : Nat := ((List.range 64).find? (fun b => tl < (bins.take (b + 1)).sum)).getD 0

/-- The largest bin for which the sum of bins from it through 63 exceeds TH (R103). -/
def highBin (bins : List Nat) (th : Nat) : Nat := ((List.range 64).reverse.find? (fun b => th < (bins.drop b).sum)).getD 0

/-- The profile K, P of a completed survey (R103). -/
def profileOf (h : Histogram) (low high : Nat) : Nat × Nat :=
  (4 * lowBin h.bins (h.samples * low / 1000), 4 * highBin h.bins (h.samples * high / 1000) + 3)

/-- SOURCE_END of a survey (R103): the histogram is COMPLETE and the profile is computed. The pass ends FLAT, or enters CORRECT with a
new PASS_SOURCE stream on the survey's snapshot, whose readers rise before those of the survey stream fall. -/
def surveyEnds (p : Pass) (st : Stream) (s : State) : State :=
  let h := { s.passes.histogram with state := HistogramState.complete }
  let kp := profileOf h p.low p.high
  let p := { p with profile := some kp }
  let s := { s with passes.histogram := h, passes.active := some p }
  if kp.2 < kp.1 + Config.minSpan then endActive p .flat none s
  else
    let s := readersFall st.snapshot (readersRise st.snapshot s)
    let fresh := { st with position := 0, send := none, ahead := none, fetch := Req.none }
    { s with streams.passSource := some fresh, passes.active := some { p with phase := .correct } }

/-! ### Correction (R104, R105) -/

/-- The correction of one octet under the profile K, P (R104). -/
def correct (k p : Nat) (g : Octet) : Octet :=
  if g.toNat ≤ k then 0#8
  else if p ≤ g.toNat then 255#8
  else BitVec.ofNat 8 (((g.toNat - k) * 510 + (p - k)) / (2 * (p - k)))

/-- Whether the output leaf is complete (R105). -/
def Pass.leafComplete (p : Pass) : Bool :=
  match p.bound with
  | none => false
  | some b => decide (0 < p.leaf.length)
      && (decide (Config.leafOctets ≤ p.leaf.length) || decide (b.length ≤ p.written * Config.leafOctets + p.leaf.length))

/-- Whether the program of the output leaf is the pass's last (R105). -/
def Pass.allWritten (p : Pass) : Bool :=
  match p.bound with
  | none => false
  | some b => decide (leavesOf b.length ≤ p.written)

/-- The engine takes the send sheet of the PASS_SOURCE stream when it can (R80, R102, R105): in SURVEY it counts it, in CORRECT it
corrects it into the output leaf while that has room. -/
def passTake (s : State) : State :=
  match s.passes.active, s.streams.passSource with
  | some p, some st =>
    match st.send with
    | none => s
    | some b =>
      let n := min Config.sheetOctets (st.length - b.sheet * Config.sheetOctets)
      let octets := b.body.take n
      let st' := advance n st
      match p.phase with
      | .queued => s
      | .survey =>
        let h := countOctets p.stride (b.sheet * Config.sheetOctets) octets s.passes.histogram
        let s := { s with passes.histogram := h, streams.passSource := some st' }
        if st'.position < st.length then s else surveyEnds p st' s
      | .correct =>
        if p.leafComplete then s
        else
          let kp := p.profile.getD (0, 255)
          let out := octets.map (correct kp.1 kp.2)
          let p := { p with leaf := p.leaf ++ out, register := crc32Update p.register out }
          let s := { s with passes.active := some p, streams.passSource := some st' }
          if st'.position < st.length then s else endPassSource s
  | _, _ => s

/-! ### The output (R105 to R107) -/

/-- The version a pass creates (R107). -/
def passVersion (p : Pass) (b : Bound) (number : Nat) (s : State) : Version :=
  { number := number, origin := .pass, damaged := false, length := b.length, check := crc32Check p.register,
    profile := p.profile, created := s.today, serial := s.catalog.serial, extents := s.passes.output }

/-- A catalog serial is taken (R38). -/
def takeSerial (s : State) : State := { s with catalog.serial := (s.catalog.serial + 1) % 2 ^ 32 }

/-- At the last output leaf the version is created and the pass ends CREATED, or the object is gone and it ends ABORTED NOT_FOUND
(R107). -/
def createVersion (p : Pass) (s : State) : State :=
  match p.bound, p.newNumber, s.object p.key, s.edition p.key.handle with
  | some b, some n, some o, some e =>
    if e.state = .published then
      let o := { o with versions := o.versions ++ [passVersion p b n s], lastNumber := n }
      endActive p .created none (takeSerial (s.putObject o))
    else endActive p .aborted (some .notFound) s
  | _, _, _, _ => endActive p .aborted (some .notFound) s

/-- A pass's program completes WRITTEN (R105, R106). -/
def passWritten (op : ProgramOp) (s : State) : State :=
  match s.passes.active with
  | none => s
  | some p =>
    let s := liveRises op.stripe 1 { s with passes.output := recordLeaf s.passes.output op.stripe op.place }
    let p := { p with written := p.written + 1, leaf := [], request := .none }
    let s := { s with passes.active := some p }
    if p.allWritten then createVersion p s else s

/-- A pass's program completes FAILED: the same leaf is presented again (R105). -/
def passFailed (s : State) : State :=
  match s.passes.active with
  | none => s
  | some p => { s with passes.active := some { p with request := .none } }

/-- The engine presents the program of a complete output leaf when the stream has no fetch outstanding (R105): the pass ends ABORTED
EXTENTS at a 97th extent (R106), and the RESTORE front opens a stripe or stalls when it holds none (R14, R111). -/
def presentOutput (s : State) : State :=
  match s.passes.active with
  | none => s
  | some p =>
    let fetching := match s.streams.passSource with
      | some st => st.fetch != .none
      | none => false
    if p.phase != .correct || !p.leafComplete || p.request != .none || fetching || s.programInFlight .restore
        || s.isStalled .restore then s
    else if Config.extentsPerVersion ≤ s.passes.output.length ∧ !wouldExtend (s.frontStripe .restore) s.passes.output then
      endActive p .aborted (some .extents) s
    else
      let present := fun (s : State) => { s with passes.active := some { p with request := .pending } }
      match s.frontStripe .restore with
      | some _ => present s
      | none => if s.mayOpen .restore then present (openStripe .restore s) else stall .restore s

end Sys2Proof.Machine
end

