-- ==== Sys2Proof/Machine/Modes.lean ====
section
/-! DEFINITION. The fail-safe actions, the entry to PRESERVE and damage reports (R40, R173), and the stripes that leave FULL (R8, R12). -/

namespace Sys2Proof.Machine

/-- The relocation engine abandons its round and becomes IDLE, and the reclaim-blocked flag is cleared (R93, R95, R96). -/
def abandonRound (s : State) : State :=
  let s := unstall .relocate (detachFeeder .relocate (detachFetcher .relocation s))
  { s with relocation := { round := none, blocked := false } }

/-- The entry to PRESERVE (R173). -/
def enterPreserve (cause : PreserveCause) (s : State) : State :=
  let s := { s with control.mode := .preserve, control.cause := some cause }
  let s := abandonRound (abortPasses (fun _ => true) .preserve s)
  notifyAll .modeChanged allPorts { s with store.eraseRequested := false }

/-- The RETIRE action (R173). -/
def retireAction (s : State) : State :=
  match s.control.settings.retireAction, s.control.mode with
  | .preserve, .normal => enterPreserve .retire s
  | .preserve, .preserve => { s with control.cause := some .retire }
  | _, _ => s

/-- The retire condition is judged, and the RETIRE action applies when it holds (R12, R173). -/
def judgeRetire (s : State) : State := if s.retireCondition then retireAction s else s

/-- The DAMAGE action (R173). -/
def damageAction (s : State) : State :=
  match s.control.settings.damageAction, s.control.mode with
  | .preserve, .normal => enterPreserve .damage s
  | _, _ => s

/-- A damage report whose reporter ends its work with `stop` in the same event, before the DAMAGE action applies (R40, R93, R110,
R173). -/
def reportDamage (k : Key) (number serial : Nat) (stop : State → State) (s : State) : State :=
  match markDamaged k number serial s with
  | some s => damageAction (stop s)
  | none => stop s

/-- A stripe is retired (R8, R10, R11, R12). -/
def retireStripe (n : Nat) (s : State) : State := judgeRetire (s.mapStripe n (fun r => { r with state := .retired }))

/-- A stripe joins the dirty queue behind its first `kept` entries, those that stood in it before the event, and in ascending number among
the others, those that joined it in the event (R8). -/
def joinDirty (kept n : Nat) (queue : List Nat) : List Nat :=
  let joined := queue.drop kept
  queue.take kept ++ joined.takeWhile (fun k => decide (k < n)) ++ n :: joined.dropWhile (fun k => decide (k < n))

/-- A FULL stripe whose live and reader counts are both 0 leaves FULL (R8). -/
def leaveFullOne (kept n : Nat) (s : State) : State :=
  if (s.stripe n).retirePending then retireStripe n s
  else
    let s := s.mapStripe n (fun r => { r with state := .dirty })
    { s with store.dirtyQueue := joinDirty kept n s.store.dirtyQueue }

/-- The lowest FULL stripe whose live and reader counts are both 0. -/
def State.leaving (s : State) : Option Nat :=
  (s.store.stripes.find? (fun e => e.2.state == .full && e.2.live == 0 && e.2.readers == 0)).map (·.1)

/-- The stripes that may leave FULL leave it, in ascending stripe number (R8); the second argument bounds how many. -/
def leaveFullLoop (kept : Nat) : Nat → State → State
  | 0, s => s
  | n + 1, s =>
    match s.leaving with
    | none => s
    | some k => leaveFullLoop kept n (leaveFullOne kept k s)

/-- The stripes that may leave FULL leave it (R8); `kept` is how many entries of the dirty queue stood in it before the event. -/
def leaveFull (kept : Nat) (s : State) : State := leaveFullLoop kept s.store.stripes.length s

/-- The erase engine takes the head of the dirty queue (R10): a stripe at erase count 60,000 is retired without an erase and the next
head is taken; the first argument bounds the heads taken. -/
def takeHeads : Nat → State → State
  | 0, s => s
  | k + 1, s =>
    if s.control.mode != .normal || s.store.eraseRequested then s
    else match s.store.wings with
      | .both (.erase _) => s
      | _ => match s.store.dirtyQueue with
        | [] => s
        | n :: rest =>
          if (s.stripe n).eraseCount = Config.maxEraseCount then
            takeHeads k (retireStripe n { s with store.dirtyQueue := rest })
          else { s with store.eraseRequested := true }

/-- The erase engine takes the head of the dirty queue whenever it may (R10). -/
def eraseEngine (s : State) : State := takeHeads (s.store.dirtyQueue.length + 1) s

end Sys2Proof.Machine
end

