-- ==== Sys2Proof/Machine/Intake.lean ====
section
/-! DEFINITION. Intake (chapter 3): staging, the drop of a deposit, the entry of objects, the run rule and the programmer. -/

namespace Sys2Proof.Machine

/-- A held descriptor. -/
def State.descriptor (s : State) (n : Nat) : Option Descriptor := tget s.intake.descriptors n

/-- The state with a descriptor set. -/
def State.putDescriptor (s : State) (n : Nat) (d : Descriptor) : State :=
  { s with intake.descriptors := tput s.intake.descriptors n d }

/-- A descriptor is freed. -/
def freeDescriptor (n : Nat) (s : State) : State := { s with intake.descriptors := tdel s.intake.descriptors n }

/-- The provisional record of a descriptor (R65). -/
def State.provisional (s : State) (n : Nat) : List Extent := (tget s.intake.provisional n).getD []

/-- The staging occupancy (R47). -/
def State.occupancy (s : State) : Nat := (s.intake.descriptors.map (fun e => e.2.staged.length)).sum

/-- Free staging leaves reaching 16 set STAGING_SPACE pending for each port whose space request flag is set, and clear every flag
(R53). -/
def spaceCheck (s : State) : State :=
  let ps := allPorts.filter (fun p => s.intake.space.get p)
  if ps.isEmpty || decide (Config.stagingLeaves < s.occupancy + Config.spaceLeaves) then s
  else notifyAll .stagingSpace ps { s with intake.space := ⟨false, false, false⟩ }

/-! ### Ready leaves and runs (R58) -/

/-- Whether a staged leaf is ready (R58): it is full, or it is the final leaf of an ENDED descriptor. R48 calls a leaf full when all of its
octets through the declared length are in it, and yet says that a final leaf, which holds all of them, may be full or partial; the model
takes full as holding 32,768 octets, so that a shorter last leaf is not ready before END_OBJECT (assumption 8). -/
def ready (d : Descriptor) (l : StagedLeaf) : Bool :=
  decide (Config.leafOctets ≤ l.octets.length) || (d.state == .ended && l.leaf + 1 == leavesOf d.length)

/-- A descriptor's ready leaves, in body order. -/
def Descriptor.readyLeaves (d : Descriptor) : List StagedLeaf := d.staged.filter (ready d)

/-- Whether a descriptor is eligible (R58). -/
def Descriptor.eligible (d : Descriptor) : Bool :=
  match d.state with
  | .filling => decide (Config.runLeaves ≤ d.readyLeaves.length)
  | .ended => !d.readyLeaves.isEmpty
  | .dropped => false

/-- The allocation sequence number of a descriptor's oldest ready leaf (R58). -/
def Descriptor.oldest (d : Descriptor) : Nat := ((d.readyLeaves.map (·.sequence)).min?).getD 0

/-- The eligible descriptor whose oldest ready leaf has the lowest sequence number (R58). -/
def chooseDescriptor : List (Nat × Descriptor) → Option (Nat × Descriptor)
  | [] => none
  | e :: rest =>
    match chooseDescriptor rest with
    | none => if e.2.eligible then some e else none
    | some b => if e.2.eligible && decide (e.2.oldest ≤ b.2.oldest) then some e else some b

/-- The programmer's choice of a run (R58). -/
def State.chooseRun (s : State) : Option Run :=
  (chooseDescriptor s.intake.descriptors).map (fun e => ⟨e.1, e.2.readyLeaves.map (·.leaf)⟩)

/-! ### The entry of objects (R36, R61) -/

/-- Whether a descriptor is complete (R61). -/
def Descriptor.complete (d : Descriptor) : Bool :=
  d.state == .ended && d.staged.isEmpty && d.programmed == leavesOf d.length

/-- The object record a complete descriptor enters (R36). -/
def enteredObject (d : Descriptor) (extents : List Extent) (s : State) : Object :=
  { key := d.key, rights := d.rights, contributor := d.contributor, format := d.format,
    placements := d.placements.map (fun k => ⟨k, false⟩), lastNumber := 0,
    versions := [{ number := 0, origin := .deposit, damaged := false, length := d.length, check := crc32Check d.register,
                   profile := none, created := s.today, serial := s.catalog.serial, extents := extents }] }

/-- The edition's record after an object of it is entered: its page or photo count rises, and while it is CLOSING its outstanding
count falls (R36). -/
def countEntry (k : Kind) (e : Edition) : Edition :=
  let e := match k with
    | .page => { e with pages := e.pages + 1 }
    | .photo => { e with photos := e.photos + 1 }
  if e.state = .closing then { e with outstanding := e.outstanding - 1 } else e

/-- An object is entered into the object table (R36), which may be its edition's publication event (R30); its provisional record is
cleared, its descriptor is freed, and no page waits on it any more (R61). -/
def enterObject (n : Nat) (d : Descriptor) (s : State) : State :=
  let s := takeSerial (s.putObject (enteredObject d (s.provisional n) s))
  let s := freeDescriptor n { s with intake.provisional := tdel s.intake.provisional n }
  let release := fun (e : Nat × Descriptor) => (e.1, { e.2 with waits := e.2.waits.filter (fun k => k != d.key) })
  let s := { s with intake.descriptors := s.intake.descriptors.map release }
  match s.edition d.key.handle with
  | none => s
  | some e =>
    let e' := countEntry d.key.kind e
    let s := s.putEdition d.key.handle e'
    if e.state = .closing ∧ e'.outstanding = 0 then publish d.key.handle s else s

/-- The complete descriptors that wait on nothing are entered, in ascending number (R61); the first argument bounds how many. -/
def enterReady : Nat → State → State
  | 0, s => s
  | k + 1, s =>
    match s.intake.descriptors.find? (fun e => e.2.complete && e.2.waits.isEmpty) with
    | none => s
    | some (n, d) => enterReady k (enterObject n d s)

/-! ### The drop of a deposit (R56, R57, R60, R62) -/

/-- The programmer's run ends when its descriptor is dropped (R62): a pending request is withdrawn, a program in flight is left to
complete, and the front's stall ends. Where another descriptor is eligible then, the programmer's next choice stalls the front again
behind the others that are stalled: R15 does not say whether it keeps its place (assumption 46). -/
def cutRun (n : Nat) (s : State) : State :=
  match s.intake.run with
  | some r =>
    if r.descriptor = n then
      unstall .intake (detachFeeder .intake { s with intake.run := none, intake.request := .none })
    else s
  | none => s

/-- Entries naming a dropped photo are deleted from the lists of the descriptors that wait on it (R51). -/
def unawait (photo : Key) (d : Descriptor) : Descriptor :=
  if d.waits.contains photo then
    { d with waits := d.waits.filter (fun k => k != photo), placements := d.placements.filter (fun k => k != photo) }
  else d

/-- The effects of a drop (R56) on everything but the descriptors that wait for a photo to be entered; with `keep` the descriptor
becomes DROPPED in place of being freed (R57, R60). A DROPPED descriptor keeps its declared length, its next expected offset and its
programmed leaves as they stood, which R57 does not say (assumption 43). -/
def dropCore (keep : Bool) (n : Nat) (d : Descriptor) (s : State) : State :=
  let s := extentsDie (s.provisional n) s
  let s := cutRun n { s with intake.provisional := tdel s.intake.provisional n }
  let s := if keep then s.putDescriptor n { d with state := .dropped, staged := [], waits := [], placements := [] }
    else freeDescriptor n s
  let s := if d.state = .ended then returnToOpen d.key.handle s else s
  { s with intake.descriptors := s.intake.descriptors.map (fun e => (e.1, unawait d.key e.2)) }

/-- A deposit is dropped (R56): then the pages it held up are entered (R61) and STAGING_SPACE may be released (R53). -/
def dropDeposit (keep : Bool) (n : Nat) (d : Descriptor) (s : State) : State :=
  spaceCheck (enterReady Config.descriptors (dropCore keep n d s))

/-- Several deposits are dropped in one event (R32, R64): a complete page among them is dropped and not entered (assumption 9). -/
def dropDeposits (ds : List (Nat × Descriptor)) (s : State) : State :=
  let s := ds.foldl (fun s e => match e.2.state with
    | .dropped => freeDescriptor e.1 s
    | _ => dropCore false e.1 e.2 s) s
  spaceCheck (enterReady Config.descriptors s)

/-- A link reset ends a port's deposits (R64). -/
def resetDeposits (p : Port) (s : State) : State :=
  let s := dropDeposits (s.intake.descriptors.filter (fun e => e.2.holder == p)) s
  { s with intake.space := s.intake.space.set p false }

/-! ### The programmer (R59, R60) -/

/-- The programmer presents the next leaf of its run, chooses a run, or drops a descriptor at a 97th extent (R58 to R62); the first
argument bounds the descriptors dropped. -/
def programmer : Nat → State → State
  | 0, s => s
  | k + 1, s =>
    if s.intake.request != .none || s.programInFlight .intake || s.isStalled .intake then s
    else
      let s := match s.intake.run with
        | none => { s with intake.run := s.chooseRun }
        | some _ => s
      match s.intake.run with
      | none => s
      | some r => match s.descriptor r.descriptor with
        | none => s
        | some d =>
          let extents := s.provisional r.descriptor
          if Config.extentsPerVersion ≤ extents.length && !wouldExtend (s.frontStripe .intake) extents then
            programmer k (dropDeposit true r.descriptor d s)
          else match s.frontStripe .intake with
            | some _ => { s with intake.request := .pending }
            | none =>
              if s.mayOpen .intake then { openStripe .intake s with intake.request := .pending } else stall .intake s

/-- Intake's program completes WRITTEN (R59): the staging leaf is freed, the leaf is recorded and becomes live, the run goes on or
ends, STAGING_SPACE may be released, and a complete object is entered (R61). -/
def intakeWritten (op : ProgramOp) (s : State) : State :=
  match s.intake.run with
  | none => s
  | some r => match s.descriptor r.descriptor with
    | none => s
    | some d =>
      let d := { d with staged := d.staged.filter (fun l => l.leaf != op.leaf), programmed := d.programmed + 1 }
      let extents := recordLeaf (s.provisional r.descriptor) op.stripe op.place
      let leaves := r.leaves.filter (fun j => j != op.leaf)
      let s := liveRises op.stripe 1 (s.putDescriptor r.descriptor d)
      let s := { s with
        intake.provisional := tput s.intake.provisional r.descriptor extents,
        intake.run := if leaves.isEmpty then none else some { r with leaves := leaves },
        intake.request := .none }
      enterReady Config.descriptors (spaceCheck s)

/-- Intake's program completes FAILED: the same leaf is presented again (R59). -/
def intakeFailed (s : State) : State := { s with intake.request := .none }

end Sys2Proof.Machine
end

