-- ==== Sys2Proof/Machine/Relocation.lean ====
section
/-! DEFINITION. The relocation engine (chapter 5): movability, the choice of a victim, the extent copy and its commit, the end of a
round. -/

namespace Sys2Proof.Machine

/-! ### Movability and choice (R85 to R89) -/

/-- The extents of all versions in the catalog. -/
def State.catalogExtents (s : State) : List Extent :=
  s.catalog.objects.flatMap (fun e => e.2.versions.flatMap (·.extents))

/-- The stripes that hold an extent of a DAMAGED version. -/
def State.damagedStripes (s : State) : List Nat :=
  (s.catalog.objects.flatMap (fun e => (e.2.versions.filter (·.damaged)).flatMap (·.extents))).map (·.stripe)

/-- The stripes that hold provisional leaves of a descriptor or of a pass. -/
def State.provisionalStripes (s : State) : List Nat :=
  (s.intake.provisional.flatMap (·.2) ++ s.passes.output).map (·.stripe)

/-- Whether a stripe is movable (R86). -/
def State.movable (s : State) (n : Nat) : Bool :=
  let r := s.stripe n
  r.state == .full && decide (0 < r.live) && !s.provisionalStripes.contains n && !s.damagedStripes.contains n

/-- The movable stripes, in ascending number. -/
def State.movables (s : State) : List (Nat × Stripe) := s.store.stripes.filter (fun e => s.movable e.1)

/-- The first entry with the least value of a measure. -/
def leastBy (measure : Stripe → Nat) : List (Nat × Stripe) → Option (Nat × Stripe)
  | [] => none
  | e :: rest =>
    match leastBy measure rest with
    | none => some e
    | some b => if measure e.2 ≤ measure b.2 then some e else some b

/-- What a choice finds (R85): a victim with its cause, that reclaim is blocked, or nothing. -/
inductive Choice where
  | victim (stripe : Nat) (cause : RoundCause)
  | blocked
  | nothing
  deriving DecidableEq, Repr

/-- The choice: evacuation (R87), reclaim (R88) and refresh (R89), in that precedence. -/
def State.choose (s : State) : Choice :=
  let movables := s.movables
  match movables.find? (fun e => e.2.retirePending) with
  | some e => .victim e.1 .retire
  | none =>
    if s.storeLow then
      match leastBy (·.live) movables with
      | none => .nothing
      | some e => if e.2.live = Config.leavesPerStripe then .blocked else .victim e.1 .reclaim
    else
      let old := movables.filter (fun e => e.2.programDay + s.control.settings.retentionDays ≤ s.today)
      match leastBy (·.programDay) old with
      | none => .nothing
      | some e => .victim e.1 .refresh

/-! ### The extent copy (R90 to R92) -/

/-- An extent of a version that lies in a stripe, with what a copy record takes of it (R90). -/
structure Site where
  key : Key
  version : Nat
  serial : Nat
  index : Nat
  leafBase : Nat
  extent : Extent
  deriving DecidableEq, Repr

/-- The sites of an extent list in a stripe, with index and leaf base counted on from the given ones. -/
def sitesIn (n : Nat) (key : Key) (v : Version) : Nat → Nat → List Extent → List Site
  | _, _, [] => []
  | index, base, e :: rest =>
    let more := sitesIn n key v (index + 1) (base + e.count) rest
    if e.stripe = n then ⟨key, v.number, v.serial, index, base, e⟩ :: more else more

/-- The sites of all versions in a stripe. -/
def State.sites (s : State) (n : Nat) : List Site :=
  s.catalog.objects.flatMap (fun o => o.2.versions.flatMap (fun v => sitesIn n o.2.key v 0 0 v.extents))

/-- The site with the lowest first leaf (R90). -/
def lowestSite : List Site → Option Site
  | [] => none
  | e :: rest =>
    match lowestSite rest with
    | none => some e
    | some b => if e.extent.first ≤ b.extent.first then some e else some b

/-- The copy record made for a site (R90). -/
def copyOf (t : Site) : Copy :=
  { key := t.key, version := t.version, serial := t.serial, index := t.index, source := t.extent, leafBase := t.leafBase,
    dest := none, copied := 0, step := .fetchLow, low := [], high := [], request := .pending }

/-- Whether the catalog still holds the version of a copy with its source extent at the copy's index (R91, R92). -/
def State.copyValid (s : State) (c : Copy) : Bool :=
  match s.held c.key c.version c.serial with
  | some v => v.extents[c.index]? == some c.source
  | none => false

/-- The engine's round replaced. -/
def State.putRound (s : State) (r : Option Round) : State := { s with relocation.round := r }

/-- The engine looks for the next extent (R90), at the start of a round, at the end of each copy and, when PAUSED, at the guard line's
release: the round is complete, its victim is dropped, the engine is PAUSED, or a copy begins. -/
def lookNext (r : Round) (s : State) : State :=
  if (s.stripe r.victim).live = 0 ∨ !s.movable r.victim then s.putRound none
  else if s.store.guardAsserted then s.putRound (some { r with copy := none })
  else match lowestSite (s.sites r.victim) with
    | none => s.putRound none
    | some t => s.putRound (some { r with copy := some (copyOf t) })

/-- The reclaim-blocked flag is cleared once the free queue holds low mark stripes or more (R96). -/
def clearBlocked (s : State) : State := if s.storeLow then s else { s with relocation.blocked := false }

/-- A choice is made (R85, R96). One that finds no candidate leaves the reclaim-blocked flag as it is (assumption 20). -/
def makeChoice (s : State) : State :=
  if s.control.mode != .normal || s.store.guardAsserted then s
  else match s.choose with
    | .nothing => s
    | .blocked => { s with relocation.blocked := true }
    | .victim n cause =>
      lookNext ⟨n, cause, none⟩ { s with relocation := { round := some ⟨n, cause, none⟩, blocked := false } }

/-- The engine presents the program of the buffered leaf (R91, R92): the copy's first program decides where the extent lands, closing
the front's stripe when it has fewer leaves left than the extent (R18), opening another (R14), or stalling (R15). -/
def presentCopy (r : Round) (c : Copy) (s : State) : State :=
  if s.programInFlight .relocate || s.isStalled .relocate then s
  else
    let present := fun (n : Nat) (t : Stripe) (s : State) =>
      let dest := match c.dest with
        | some d => some d
        | none => some (n, t.written)
      s.putRound (some { r with copy := some { c with dest := dest, request := .pending } })
    let s := match s.frontStripe .relocate with
      | some (n, t) =>
        if c.copied = 0 ∧ Config.leavesPerStripe - t.written < c.source.count then
          s.mapStripe n (fun t => { t with state := .full })
        else s
      | none => s
    match s.frontStripe .relocate with
    | some (n, t) => present n t s
    | none =>
      if s.mayOpen .relocate then
        let s := openStripe .relocate s
        match s.frontStripe .relocate with
        | some (n, t) => present n t s
        | none => s
      else stall .relocate s

/-- One act of the engine: an IDLE engine makes a choice (R85), a PAUSED one keeps its victim and looks again once the guard line is
released (R90, R95), and a copy in step PROGRAM presents its program (R91, R92). -/
def engineOnce (s : State) : State :=
  match s.relocation.round with
  | none => makeChoice s
  | some r => match r.copy with
    | none => if s.store.guardAsserted then s else lookNext r s
    | some c => if c.step = .program ∧ c.request = .none then presentCopy r c s else s

/-- The relocation engine acts: at most the end of a round, a choice, and the start of its first copy. -/
def engine (s : State) : State := clearBlocked (engineOnce (engineOnce (clearBlocked s)))

/-! ### The end and the restart of a copy (R90 to R94) -/

/-- The copy in hand ends and the engine looks for the next extent (R90, R91, R92). -/
def endCopy (r : Round) (s : State) : State := lookNext { r with copy := none } s

/-- The fetch of a leaf is presented when the catalog still holds the copy's version and extent, and else the copy ends (R91). -/
def copyNext (r : Round) (c : Copy) (s : State) : State :=
  if s.copyValid c then s.putRound (some { r with copy := some { c with step := .fetchLow, request := .pending } })
  else endCopy r s

/-- What the removal of versions does to the copy in hand (chapter 5.4, R22): a request of it that was pending while the catalog held its
version and extent is withdrawn when the removal takes them, and the copy ends. One in flight completes, and the engine notices at the
next leaf's check or at the commit's (R91, R92; assumption 19). -/
def withdrawCopy (before s : State) : State :=
  match s.relocation.round with
  | none => s
  | some r => match r.copy with
    | none => s
    | some c => if c.request = .pending ∧ before.copyValid c ∧ !s.copyValid c then endCopy r s else s

/-! ### Completions (R91 to R94) -/

/-- The copy of the round in hand changed. -/
def mapCopy (g : Copy → Copy) (s : State) : State :=
  match s.relocation.round with
  | some r => s.putRound (some { r with copy := r.copy.map g })
  | none => s

/-- A fetch of the copy completes SOUND: its body is buffered and the next request follows (R91). -/
def copyFetched (w : Wing) (body : List Octet) (s : State) : State :=
  mapCopy (fun c => match w with
    | .low => { c with low := body, step := .fetchHigh, request := .pending }
    | .high => { c with high := body, step := .program, request := .none }) s

/-- An extent list with the entry at an index replaced in its own position (R39). -/
def replaceExtent (index : Nat) (e : Extent) (v : Version) : Version := { v with extents := v.extents.set index e }

/-- A copy is committed (R92): the version's extent is replaced and live moves between the stripes. -/
def commit (c : Copy) (dest : Nat × Nat) (s : State) : State :=
  match s.object c.key with
  | none => s
  | some o =>
    let e : Extent := ⟨dest.1, dest.2, c.source.count⟩
    let s := s.putObject (mapVersion c.version c.serial (replaceExtent c.index e) o)
    liveFalls c.source.stripe c.source.count (liveRises dest.1 c.source.count s)

/-- The copy's last program has completed WRITTEN: the copy is committed when the catalog still holds its version and extent (R92). -/
def commitCopy (c : Copy) (s : State) : State :=
  match c.dest with
  | some d => if s.copyValid c then commit c d s else s
  | none => s

/-- A program of the copy completes WRITTEN (R91, R92). -/
def copyWritten (s : State) : State :=
  match s.relocation.round with
  | none => s
  | some r => match r.copy with
    | none => s
    | some c =>
      let c := { c with copied := c.copied + 1, request := .none, low := [], high := [] }
      if c.copied = c.source.count then endCopy r (commitCopy c s) else copyNext r c s

/-- A program of the copy completes FAILED: the copy begins anew (R94). -/
def copyFailed (s : State) : State :=
  match s.relocation.round with
  | none => s
  | some r => match r.copy with
    | none => s
    | some c => copyNext r { c with copied := 0, dest := none, low := [], high := [] } s

end Sys2Proof.Machine
end

