-- ==== Sys2Proof/Machine/Arbiter.lean ====
section
/-! DEFINITION. The wing arbiter (chapter 1.6): the pending requests in rank order, the decision with its hold, and the start of an
operation. -/

namespace Sys2Proof.Machine

/-- A request pending at the arbiter, by its class and requester (R19). -/
inductive Claim where
  | streamFetch (p : Port) | intakeProgram | erase | copyFetch | copyProgram | passFetch | passProgram
  deriving DecidableEq, Repr

/-- Whether a claim wants both wings (R20). -/
def Claim.wide : Claim → Bool
  | .intakeProgram => true
  | .erase => true
  | .copyProgram => true
  | .passProgram => true
  | _ => false

/-- The port after a port in the order desk, bench, counter, wrapping (R19). -/
def portAfter : Port → Port
  | .desk => .bench
  | .bench => .counter
  | .counter => .desk

/-- The ports in the order in which their stream fetches rank, starting after the turn pointer (R19). -/
def turnOrder (turn : Port) : List Port := [portAfter turn, portAfter (portAfter turn), turn]

/-- The ACTIVE stream of a port. -/
def State.active (s : State) (p : Port) : Option Stream := (s.portStreams p).queue.head?

/-- The copy in hand. -/
def State.copy (s : State) : Option Copy := s.relocation.round.bind (·.copy)

/-- Whether a claim is pending. -/
def State.claims (s : State) : Claim → Bool
  | .streamFetch p => match s.active p with
    | some st => st.fetch == .pending
    | none => false
  | .intakeProgram => s.intake.request == .pending
  | .erase => s.store.eraseRequested
  | .copyFetch => match s.copy with
    | some c => c.request == .pending && c.step != .program
    | none => false
  | .copyProgram => match s.copy with
    | some c => c.request == .pending && c.step == .program
    | none => false
  | .passFetch => match s.streams.passSource with
    | some st => st.fetch == .pending
    | none => false
  | .passProgram => match s.passes.active with
    | some p => p.request == .pending
    | none => false

/-- The classes in rank order; intake programs rank above stream fetches while staging holds 64 leaves or more (R19). -/
def State.ranking (s : State) : List Claim :=
  let fetches := (turnOrder s.store.turn).map Claim.streamFetch
  let rest := [.erase, .copyFetch, .copyProgram, .passFetch, .passProgram]
  if Config.intakePromotion ≤ s.occupancy then .intakeProgram :: (fetches ++ rest) else fetches ++ .intakeProgram :: rest

/-- The wing a fetch claim wants (R20, R72, R91). -/
def State.wants (s : State) (c : Claim) : Wing :=
  match c with
  | .streamFetch p => match s.active p with
    | some st => wingOf ((nextSheet st).getD 0)
    | none => .low
  | .passFetch => match s.streams.passSource with
    | some st => wingOf ((nextSheet st).getD 0)
    | none => .low
  | _ => match s.copy with
    | some c => if c.step = .fetchHigh then .high else .low
    | none => .low

/-- Whether a wing carries no operation (R4). -/
def State.idle (s : State) (w : Wing) : Bool :=
  match s.store.wings, w with
  | .split a _, .low => a.isNone
  | .split _ b, .high => b.isNone
  | .both _, _ => false

/-- Whether a wing is idle and not held (R20). -/
def State.open_ (s : State) (w : Wing) : Bool := s.idle w && s.store.held != some w

/-- Whether a claim is pending and eligible: programs and erases are not while the guard line is asserted (R21). -/
def State.eligible (s : State) (c : Claim) : Bool := s.claims c && !(c.wide && s.store.guardAsserted)

/-- The winner (R20): the highest-ranked eligible claim that wants a wing that is idle and not held. -/
def State.winner (s : State) : Option Claim :=
  s.ranking.find? (fun c => s.eligible c && (if c.wide then s.open_ .low || s.open_ .high else s.open_ (s.wants c)))

/-- The highest-ranked eligible program or erase (R20). -/
def State.widest (s : State) : Option Claim := s.ranking.find? (fun c => s.eligible c && c.wide)

/-! ### Starting an operation (R4, R13, R19) -/

/-- A fetch is put on a wing. -/
def putFetch (w : Wing) (op : FetchOp) (s : State) : State :=
  match s.store.wings, w with
  | .split _ b, .low => { s with store.wings := .split (some op) b }
  | .split a _, .high => { s with store.wings := .split a (some op) }
  | .both _, _ => s

/-- The fetch of a stream's next sheet starts (R72, R73). -/
def startStreamFetch (owner : Fetcher) (st : Stream) (s : State) : State :=
  match nextSheet st with
  | none => s
  | some h =>
    match locate st.snapshot (h / 2) with
    | none => s
    | some (n, i) => putFetch (wingOf h) ⟨owner, st.key, st.version, h / 2, n, i⟩ s

/-- A fetch claim starts. -/
def startFetch (c : Claim) (s : State) : State :=
  match c with
  | .streamFetch p => match s.active p with
    | none => s
    | some st =>
      let s := startStreamFetch (.stream p) st s
      mapActive p (fun st => { st with fetch := .inFlight }) { s with store.turn := p }
  | .passFetch => match s.streams.passSource with
    | none => s
    | some st =>
      let s := startStreamFetch .passSource st s
      { s with streams.passSource := some { st with fetch := .inFlight } }
  | .copyFetch => match s.copy with
    | none => s
    | some c =>
      let op : FetchOp := ⟨.relocation, c.key, c.version, c.leafBase + c.copied, c.source.stripe, c.source.first + c.copied⟩
      mapCopy (fun c => { c with request := .inFlight }) (putFetch (s.wants .copyFetch) op s)
  | _ => s

/-- A leaf program starts on both wings: the front names the stripe and leaf, and the program-in-flight mark records them (R13). -/
def startProgram (f : Front) (key : Key) (version leaf : Nat) (data : List Octet) (s : State) : State :=
  match s.frontStripe f with
  | none => s
  | some (n, t) =>
    let op : ProgramOp := ⟨f, n, t.written, key, version, leaf, data, false⟩
    { s with store.wings := .both (.program op), store.mark := some (n, t.written) }

/-- A claim that wants both wings starts. -/
def startWide (c : Claim) (s : State) : State :=
  match c with
  | .intakeProgram => match s.intake.run with
    | none => s
    | some r => match s.descriptor r.descriptor, r.leaves with
      | some d, j :: _ =>
        let data := ((d.staged.find? (fun l => l.leaf == j)).map (·.octets)).getD []
        startProgram .intake d.key 0 j data { s with intake.request := .inFlight }
      | _, _ => s
  | .erase => match s.store.dirtyQueue with
    | [] => s
    | n :: _ => { s with store.wings := .both (.erase n), store.eraseRequested := false }
  | .copyProgram => match s.copy with
    | none => s
    | some c =>
      startProgram .relocate c.key c.version (c.leafBase + c.copied) (c.low ++ c.high)
        (mapCopy (fun c => { c with request := .inFlight }) s)
  | .passProgram => match s.passes.active with
    | none => s
    | some p =>
      startProgram .restore p.key (p.newNumber.getD 0) p.written p.leaf
        { s with passes.active := some { p with request := .inFlight } }
  | _ => s

/-! ### The decision (R20) -/

/-- Winners are started one after another, or a wing is held for a program or erase (R20); the first argument bounds the starts. -/
def decideLoop : Nat → State → State
  | 0, s => s
  | n + 1, s =>
    match s.winner with
    | none => s
    | some c =>
      if c.wide then
        if s.idle .low && s.idle .high then startWide c s
        else { s with store.held := some (if s.idle .low then .low else .high) }
      else decideLoop n (startFetch c s)

/-- The arbiter's decision (R20): a hold ends when no eligible program or erase is pending, or with the start of the highest-ranked one
once the other wing is idle. -/
def arbitrate (s : State) : State :=
  match s.store.held, s.widest with
  | some _, some c =>
    if s.idle .low && s.idle .high then startWide c { s with store.held := none } else decideLoop 2 s
  | _, _ => decideLoop 2 { s with store.held := none }

end Sys2Proof.Machine
end

