-- ==== Sys2Proof/Machine/Settle.lean ====
section
/-! DEFINITION. What an event brings about in the blocks once its own rule has acted, all within the event: stripes leave FULL, the
engines present their work, and the arbiter decides once (assumptions 6 and 7). -/

namespace Sys2Proof.Machine

/-- The ACTIVE stream of a port presents its next fetch (R73). -/
def presentStream (p : Port) (s : State) : State :=
  mapActive p (fun st => if wantsFetch st then { st with fetch := .pending } else st) s

/-- Whether the pass keeps its source stream from fetching: its output leaf is complete, or its program is pending or in flight (R105,
R111). -/
def State.sourceHeld (s : State) : Bool :=
  match s.passes.active with
  | some p => p.leafComplete || p.request != .none
  | none => false

/-- The PASS_SOURCE stream presents its next fetch (R73, R80, R105). -/
def presentSource (s : State) : State :=
  match s.streams.passSource with
  | some st =>
    if wantsFetch st && !s.sourceHeld then { s with streams.passSource := some { st with fetch := .pending } } else s
  | none => s

/-- One round of the blocks' own work, in the order of assumption 6; `kept` is how many entries of the dirty queue stood in it before the
event (R8). -/
def settleRound (kept : Nat) (s : State) : State :=
  let s := startPasses (Config.passQueue + 1) (leaveFull kept s)
  let s := programmer (Config.descriptors + 1) s
  let s := presentOutput (passTake (passTake s))
  engine s

/-- The stripes that leave FULL in the event, the erase engine, and the engines' work (assumption 6): the erase engine takes its head
before the event's stripes join the dirty queue and, when that left the queue empty, after all of them have joined it. -/
def settleBlocks (s : State) : State :=
  let s := eraseEngine s
  let kept := s.store.dirtyQueue.length
  let s := settleRound kept (settleRound kept (settleRound kept s))
  let joined := s.store.dirtyQueue.length
  let s := eraseEngine s
  settleRound (kept - (joined - s.store.dirtyQueue.length)) s

/-- The blocks' own work after an event, then one decision of the arbiter (assumptions 6 and 7). Nothing starts in START (R175). -/
def settle (s : State) : State :=
  if s.control.mode = .start then s
  else arbitrate (presentSource (presentStream .counter (presentStream .bench (presentStream .desk (settleBlocks s)))))

/-- The conditions that began to hold in an event are set pending (R168). In START none is: the pending sets are empty until the
conditions are judged at start-up's end (R175 step 4). -/
def judgeConditions (s : State) : State := if s.control.mode = .start then s else holdConditions s

/-- The end of an event that reaches the engines: the blocks settle, the conditions that hold are pending (R168), and the free
transmitters send (R179). -/
def conclude (s : State) : State := transmitAll (judgeConditions (settle s))

/-- A request whose rule may reach the engines or another port's streams. -/
def serveSettling (ports : List Port) (f : Frame) (rule : State → State × Answer) (s : State) : State :=
  serveWith conclude ports false f rule s

end Sys2Proof.Machine
end

