-- ==== Sys2Proof/Machine/Periods.lean ====
section
/-! DEFINITION. Billing periods and statements (chapter 10): SET_PERIOD_LENGTH, CLOSE_PERIOD, TAKE_STATEMENTS, RELEASE_STATEMENTS and the
mover. -/

namespace Sys2Proof.Machine

/-! ### SET_PERIOD_LENGTH (R154) -/

/-- SET_PERIOD_LENGTH's rule (R154). -/
def setPeriodLength (days : Nat) (s : State) : State × Answer :=
  if 366 < days then deny .badArgument s
  else ({ s with billing.length := days, billing.countdown := days }, ⟨.ok, be 2 days ++ be 2 days⟩)

/-- SET_PERIOD_LENGTH (R154). -/
def execSetPeriodLength (f : Frame) (days : Nat) (s : State) : Host.Outcome State Fault Refusal :=
  .next (serve counterOnly f (setPeriodLength days) s)

/-! ### The close (R155 to R157) -/

/-- Whether an account has a period figure that is not 0 or clear (R156). -/
def Account.hasFigures (a : Account) : Bool :=
  a.orders != 0 || a.pageCopies != 0 || a.photoCopies != 0 || a.charged != 0 || a.overflow

/-- An account with its period figures cleared (R156). -/
def Account.cleared (a : Account) : Account :=
  { a with orders := 0, pageCopies := 0, photoCopies := 0, charged := 0, overflow := false }

/-- Whether a contributor has a period figure that is not 0 or clear (R156). -/
def Contributor.hasFigures (c : Contributor) : Bool := c.accrual != 0 || c.photoOrders != 0 || c.overflow

/-- A contributor with its period figures cleared (R156). -/
def Contributor.cleared (c : Contributor) : Contributor := { c with accrual := 0, photoOrders := 0, overflow := false }

/-- A statement record of the current period, which ends now (R156, R163). -/
def State.statement (s : State) (id : Nat) (overflow extended : Bool) (figures : Figures) : Statement :=
  { figures := figures, period := s.billing.period, start := s.billing.start, finish := s.now, id := id, overflow := overflow,
    extended := extended }

/-- The ACCOUNT records of a close, in ascending id (R156). -/
def State.accountStatements (s : State) : List Statement :=
  (s.ledger.accounts.filter (fun e => e.2.hasFigures)).map (fun e =>
    s.statement e.1 e.2.overflow false (.account e.2.orders e.2.pageCopies e.2.photoCopies e.2.charged))

/-- The CONTRIBUTOR records of a close, in ascending id (R156). -/
def State.contributorStatements (s : State) : List Statement :=
  (s.ledger.contributors.filter (fun e => e.2.hasFigures)).map (fun e =>
    s.statement e.1 e.2.overflow false (.contributor e.2.photoOrders e.2.accrual))

/-- Total charged: the sum of the accounts' period charged (R153, R163). -/
def State.totalCharged (s : State) : Nat := (s.ledger.accounts.map (fun e => e.2.charged)).sum

/-- The HOUSE record of a close (R156, R163). -/
def State.houseStatement (s : State) : Statement :=
  s.statement 0 s.billing.overflow s.billing.extended (.house s.billing.revenue s.billing.reads s.totalCharged)

/-- The records a close latches (R156). -/
def State.closeRecords (s : State) : List Statement :=
  s.accountStatements ++ s.contributorStatements ++ [s.houseStatement]

/-- A close that takes place (R156). -/
def takeClose (s : State) : State :=
  let b := s.billing
  let records := s.closeRecords
  notify .periodClosed .counter
    { s with
      ledger.accounts := tmapD Account.formatted Account.cleared s.ledger.accounts,
      ledger.contributors := tmapD Contributor.formatted Contributor.cleared s.ledger.contributors,
      billing := { b with period := (b.period + 1) % 65536, start := s.now, extended := false, revenue := 0, reads := 0,
                          overflow := false, latch := records } }

/-- A close attempt (R155): the countdown is reloaded, and the close takes place or is refused for overrun (R157). -/
def closeAttempt (s : State) : State :=
  let s := { s with billing.countdown := s.billing.length }
  if s.billing.latch.isEmpty then takeClose s
  else notify .statementOverrun .counter { s with billing.extended := true }

/-- The answer of CLOSE_PERIOD, from the state before the attempt and the state after it (R155). -/
def closeAnswerOf (before after : State) : Answer :=
  if before.billing.latch.isEmpty then
    ⟨.ok, be 2 before.billing.period ++ stampOctets before.billing.start ++ stampOctets before.now
      ++ be 2 after.billing.latch.length⟩
  else ⟨.overrun, be 2 before.billing.latch.length⟩

/-- CLOSE_PERIOD's rule (R155). -/
def closePeriod (s : State) : State × Answer := (closeAttempt s, closeAnswerOf s (closeAttempt s))

/-- CLOSE_PERIOD (R155). -/
def execClosePeriod (f : Frame) (s : State) : Host.Outcome State Fault Refusal := .next (serve counterOnly f closePeriod s)

/-- The countdown's step at an accepted day mark (R154). -/
def stepCountdown (s : State) : State :=
  if s.billing.length = 0 then s
  else
    let s := { s with billing.countdown := s.billing.countdown - 1 }
    if s.billing.countdown = 0 then closeAttempt s else s

/-! ### The mover (R159) -/

/-- Whether the mover makes a move (R159): in every mode, from the end of start-up recovery on. -/
def State.mayMove (s : State) : Bool :=
  s.working && !s.billing.latch.isEmpty && decide (s.billing.queue.length < Config.statementQueue)

/-- A move (R159). -/
def moveStatement (s : State) : State :=
  match s.billing.latch with
  | [] => s
  | r :: rest =>
    { s with
      billing.latch := rest,
      billing.queue := s.billing.queue ++ [(s.billing.sequence, r)],
      billing.sequence := (s.billing.sequence + 1) % 2 ^ 32 }

/-- STATEMENT_MOVE (R159, R160): the queue is then not empty, so STATEMENTS_WAITING is pending for the counter port. -/
def execStatementMove (s : State) : Host.Outcome State Fault Refusal :=
  .next (if s.mayMove then notify .statementsWaiting .counter (moveStatement s) else s)

/-! ### TAKE_STATEMENTS and RELEASE_STATEMENTS (R161, R162) -/

/-- TAKE_STATEMENTS's rule (R161, R181; assumption 28). -/
def takeStatements (s : State) : State × Answer :=
  let b := s.billing
  if b.queue.isEmpty then (s, ⟨.empty, be 2 b.latch.length⟩)
  else
    (s, ⟨.ok, be 2 b.queue.length ++ be 2 b.latch.length ++ (b.queue.take Config.takeStatements).flatMap statementOctets⟩)

/-- TAKE_STATEMENTS (R161). -/
def execTakeStatements (f : Frame) (s : State) : Host.Outcome State Fault Refusal := .next (serve counterOnly f takeStatements s)

/-- RELEASE_STATEMENTS's rule (R162). -/
def releaseStatements (sequence : Nat) (s : State) : State × Answer :=
  let q := s.billing.queue
  match q.findIdx? (fun e => e.1 == sequence) with
  | none => (s, ⟨.offset, optional (q.head?.map (fun e => be 4 e.1))⟩)
  | some i =>
    ({ s with billing.queue := q.drop (i + 1) }, ⟨.ok, be 2 (i + 1) ++ be 2 (q.length - (i + 1))⟩)

/-- RELEASE_STATEMENTS (R162). -/
def execReleaseStatements (f : Frame) (sequence : Nat) (s : State) : Host.Outcome State Fault Refusal :=
  .next (serve counterOnly f (releaseStatements sequence) s)

end Sys2Proof.Machine
end

