-- ==== Sys2Proof/Machine/ClockEvents.lean ====
section
/-! DEFINITION. The archive clock (R165 to R167): SET_CLOCK, DAY_MARK, TICK, CLOCK_SATURATED, COUNTDOWN_EXPIRY. -/

namespace Sys2Proof.Machine

/-! ### SET_CLOCK (R167) -/

/-- SET_CLOCK's rule (R167). The clock as set, which the reply carries, is the day and the tick given, without the confirmed flag
(assumption 45). -/
def setClock (day tick : Nat) (s : State) : State × Answer :=
  if Config.maxDay < day ∨ Config.maxTick < tick then deny .badArgument s
  else ({ s with clock := { day := day, tick := tick, confirmed := true } }, ⟨.ok, stampOctets ⟨day, tick⟩⟩)

/-- SET_CLOCK (R167). -/
def execSetClock (f : Frame) (day tick : Nat) (s : State) : Host.Outcome State Fault Refusal :=
  .next (serveSettling deskOnly f (setClock day tick) s)

/-! ### Day marks (R154, R166) -/

/-- Whether a day mark is accepted (R166). -/
def State.acceptsMark (s : State) : Bool := s.working && (decide (Config.dayMarkTick ≤ s.clock.tick) || !s.clock.confirmed)

/-- An accepted day mark, with the countdown's step and the close attempt that may follow (R166, R154). -/
def acceptMark (s : State) : State :=
  stepCountdown { s with clock := { day := min (s.clock.day + 1) Config.maxDay, tick := 0, confirmed := true } }

/-- A pulse on the day mark line (R166). -/
def markDay (s : State) : State := if s.acceptsMark then conclude (acceptMark s) else s

/-- DAY_MARK (R166). -/
def execDayMark (s : State) : Host.Outcome State Fault Refusal := .next (markDay s)

/-- Whether the next accepted day mark brings the countdown to 0 (R154). -/
def State.countdownDue (s : State) : Bool := s.billing.length != 0 && decide (s.billing.countdown ≤ 1)

/-- COUNTDOWN_EXPIRY (R154; assumption 11): the accepted day mark at which the countdown reaches 0. -/
def execCountdownExpiry (s : State) : Host.Outcome State Fault Refusal := .next (if s.countdownDue then markDay s else s)

/-! ### The tick (R165) -/

/-- The tick rises by 1, or stays at its last value; CLOCK_LATE is set pending when it begins to hold (R165, R168). In START it holds
throughout, since the clock is unconfirmed. -/
def riseTick (s : State) : State :=
  let s' := { s with clock.tick := min (s.clock.tick + 1) Config.maxTick }
  if s'.clockLate && !s.clockLate then notifyAll .clockLate allPorts s' else s'

/-- TICK (R165). -/
def execTick (s : State) : Host.Outcome State Fault Refusal := .next (if s.running then riseTick s else s)

/-- CLOCK_SATURATED (R165; assumption 10): the rise that brings the tick to its last value. -/
def execClockSaturated (s : State) : Host.Outcome State Fault Refusal :=
  .next (if s.running && s.clock.tick + 1 == Config.maxTick then riseTick s else s)

end Sys2Proof.Machine
end

