-- ==== Sys2Proof/Machine/Deposits.lean ====
section
/-! DEFINITION. The requests of chapter 3: BEGIN_OBJECT, PUT_CHUNK, END_OBJECT, DROP_OBJECT. -/

namespace Sys2Proof.Machine

/-! ### BEGIN_OBJECT (R49 to R51) -/

/-- Whether a FILLING or ENDED descriptor holds a key (R49). -/
def State.keyStaged (s : State) (k : Key) : Bool := s.intake.descriptors.any (fun e => e.2.state != .dropped && e.2.key == k)

/-- Whether an ENDED descriptor of a port holds a key (R51). -/
def State.endedHolds (s : State) (p : Port) (k : Key) : Bool :=
  s.intake.descriptors.any (fun e => e.2.state == .ended && e.2.holder == p && e.2.key == k)

/-- Whether a photo's object record exists and is visible to a port (R51). -/
def State.photoEntered (s : State) (p : Port) (k : Key) : Bool :=
  match s.seeObject p k.wire with
  | .ok _ => true
  | .error _ => false

/-- Whether a placement photo exists for a port (R51). -/
def State.photoExists (s : State) (p : Port) (k : Key) : Bool := s.photoEntered p k || s.endedHolds p k

/-- The PHOTO keys a placement list names, when every entry is one (R49). -/
def photoKeys : List WireKey → Option (List Key)
  | [] => some []
  | w :: rest => match keyOf w, photoKeys rest with
    | some k, some ks => if k.kind = .photo then some (k :: ks) else none
    | _, _ => none

/-- Whether a placement list is one the kind may have (R49). -/
def placementsAllowed (k : Kind) (ks : List Key) : Bool :=
  match k with
  | .photo => ks.isEmpty
  | .page => decide (ks.length ≤ Config.placementsPerPage) && decide ks.Nodup

/-- The descriptor BEGIN_OBJECT opens (R50), waiting on the photos that exist in ENDED descriptors alone (R51). -/
def begunDescriptor (p : Port) (key : Key) (length : Nat) (rights : Rights) (contributor : Nat) (format : Format)
    (ks : List Key) (s : State) : Descriptor :=
  { holder := p, state := .filling, key := key, rights := rights, contributor := contributor, format := format, placements := ks,
    waits := ks.filter (fun k => !s.photoEntered p k), length := length, next := 0, register := crc32Start, staged := [],
    programmed := 0 }

/-- The sixth to tenth checks of R49, and the descriptor's number when they pass. -/
def State.beginChecks (s : State) (p : Port) (contributor : Nat) (ks : List Key) : Except Status Nat :=
  let n := firstFree 4 s.intake.descriptors
  if !ks.all (s.photoExists p) then .error .notFound
  else if contributor ≠ 0 ∧ (s.contributor contributor).state = .unused then .error .notFound
  else if s.control.mode = .preserve then .error .preserve
  else if Config.descriptorsPerPort ≤ (s.intake.descriptors.filter (fun e => e.2.holder == p)).length then .error .full
  else match n with
    | none => .error .full
    | some n =>
      if Config.objects ≤ s.catalog.objects.length + (s.intake.descriptors.filter (fun e => e.2.state != .dropped)).length
      then .error .full
      else .ok n
where
  /-- The lowest-numbered free descriptor (R48). -/
  firstFree (n : Nat) (t : Table Descriptor) : Option Nat := lowestFree n (t.map (·.1))

/-- BEGIN_OBJECT's rule (R49, R50). -/
def beginObject (p : Port) (h kind number length rights contributor format : Nat) (placements : List WireKey) (s : State) :
    State × Answer :=
  match s.see p h with
  | .error st => deny st s
  | .ok e =>
    if e.owner ≠ p then deny .notFound s
    else if e.state ≠ .opened then deny .wrongState s
    else match keyOf ⟨h, kind, number⟩ with
      | none => deny .badArgument s
      | some key =>
        if (s.object key).isSome || s.keyStaged key then deny .alreadyExists s
        else match rightsOf rights, formatOf format, photoKeys placements with
          | some rs, some fm, some ks =>
            if !(decide (1 ≤ length) && decide (length ≤ Config.maxBody) && decide (contributor ≤ 1023)
                && placementsAllowed key.kind ks) then deny .badArgument s
            else match s.beginChecks p contributor ks with
              | .error st => deny st s
              | .ok n =>
                (s.putDescriptor n (begunDescriptor p key length rs contributor fm ks s), ⟨.ok, be 1 n⟩)
          | _, _, _ => deny .badArgument s

/-- BEGIN_OBJECT (R49). -/
def execBeginObject (f : Frame) (h kind number length rights contributor format : Nat) (placements : List WireKey) (s : State) :
    Host.Outcome State Fault Refusal :=
  .next (serve deskAndBench f (beginObject f.port h kind number length rights contributor format placements) s)

/-! ### Naming a descriptor (R52, R54, R56, R57) -/

/-- The descriptor a request of a port names, when the port holds it. -/
def State.holding (s : State) (p : Port) (n : Nat) : Option Descriptor :=
  match s.descriptor n with
  | some d => if d.holder = p then some d else none
  | none => none

/-- A DROPPED descriptor is freed and its port told, with the drop cause EXTENTS and the object key (R57). -/
def tellDropped (n : Nat) (d : Descriptor) (s : State) : State × Answer :=
  (freeDescriptor n s, ⟨.aborted, be 1 1 ++ keyOctets d.key⟩)

/-! ### PUT_CHUNK (R52, R53) -/

/-- The offset of the first octet at or after an offset that begins a leaf of the body. -/
def nextLeafStart (offset : Nat) : Nat := (offset + Config.leafOctets - 1) / Config.leafOctets * Config.leafOctets

/-- Whether a chunk needs a new staging leaf (R52). -/
def needsLeaf (offset n : Nat) : Bool := decide (nextLeafStart offset < offset + n)

/-- Octets appended to the staged leaf that holds a leaf of the body. -/
def appendTo (leaf : Nat) (octets : List Octet) (l : StagedLeaf) : StagedLeaf :=
  if l.leaf = leaf then { l with octets := l.octets ++ octets } else l

/-- A descriptor after a chunk (R52): the octets before the next leaf's start fill the leaf in hand, and the others begin a new staging
leaf with an allocation sequence number (R47). -/
def takeChunk (data : List Octet) (sequence : Nat) (d : Descriptor) : Descriptor :=
  let start := nextLeafStart d.next
  let before := data.take (start - d.next)
  let after := data.drop (start - d.next)
  let staged := d.staged.map (appendTo (d.next / Config.leafOctets) before)
  let fresh := if after.isEmpty then [] else [(⟨start / Config.leafOctets, sequence, after⟩ : StagedLeaf)]
  { d with staged := staged ++ fresh, register := crc32Update d.register data, next := d.next + data.length }

/-- PUT_CHUNK's rule (R52, R53). -/
def putChunk (p : Port) (n offset : Nat) (data : List Octet) (s : State) : State × Answer :=
  match s.holding p n with
  | none => deny .notFound s
  | some d =>
    if d.state = .dropped then tellDropped n d s
    else if d.state ≠ .filling then deny .wrongState s
    else if s.control.mode = .preserve then deny .preserve s
    else if data.isEmpty || decide (Config.maxChunk < data.length) then deny .badArgument s
    else if offset ≠ d.next then (s, ⟨.offset, be 4 d.next⟩)
    else if d.length < offset + data.length then deny .badArgument s
    else if needsLeaf offset data.length && decide (Config.stagingLeaves ≤ s.occupancy) then
      ({ s with intake.space := s.intake.space.set p true }, plain .stagingFull)
    else
      let d' := takeChunk data s.intake.nextSequence d
      let s := s.putDescriptor n d'
      let taken := if needsLeaf offset data.length then 1 else 0
      ({ s with intake.nextSequence := s.intake.nextSequence + taken }, ⟨.ok, be 4 d'.next⟩)

/-- PUT_CHUNK (R52). -/
def execPutChunk (f : Frame) (n offset : Nat) (data : List Octet) (s : State) : Host.Outcome State Fault Refusal :=
  .next (serveSettling deskAndBench f (putChunk f.port n offset data) s)

/-! ### END_OBJECT and DROP_OBJECT (R54, R56) -/

/-- END_OBJECT's rule (R54). -/
def endObject (p : Port) (n : Nat) (check : BitVec 32) (s : State) : State × Answer :=
  match s.holding p n with
  | none => deny .notFound s
  | some d =>
    if d.state = .dropped then tellDropped n d s
    else if d.state ≠ .filling then deny .wrongState s
    else if d.next ≠ d.length then deny .badArgument s
    else if check ≠ crc32Check d.register then (dropDeposit false n d s, plain .checkMismatch)
    else (enterReady Config.descriptors (s.putDescriptor n { d with state := .ended }), plain .ok)

/-- END_OBJECT (R54). -/
def execEndObject (f : Frame) (n : Nat) (check : BitVec 32) (s : State) : Host.Outcome State Fault Refusal :=
  .next (serveSettling deskAndBench f (endObject f.port n check) s)

/-- DROP_OBJECT's rule (R56). -/
def dropObject (p : Port) (n : Nat) (s : State) : State × Answer :=
  match s.holding p n with
  | none => deny .notFound s
  | some d =>
    if d.state = .dropped then tellDropped n d s
    else (dropDeposit false n d s, plain .ok)

/-- DROP_OBJECT (R56). -/
def execDropObject (f : Frame) (n : Nat) (s : State) : Host.Outcome State Fault Refusal :=
  .next (serveSettling deskAndBench f (dropObject f.port n) s)

end Sys2Proof.Machine
end

