-- ==== Sys2Proof/Machine/Editions.lean ====
section
/-! DEFINITION. The requests of chapter 2: the editions' life, DISCARD_VERSION, FIND_EDITION and FIND_OBJECT. Each request has its rule, a
function of the port and the operands to the state and the answer, and its meaning, which serves the frame with that rule. -/

namespace Sys2Proof.Machine

/-! ### OPEN_EDITION (R27) -/

/-- The lowest number from `k` on that is no key of a table in key order. -/
def firstGap {α : Type} : Nat → Table α → Nat
  | k, [] => k
  | k, (j, _) :: rest => if j = k then firstGap (k + 1) rest else k

/-- Whether a port may open an edition of a date today (R27). -/
def dateOpens (p : Port) (today date : Nat) : Bool :=
  match p with
  | .desk => (date + 1 == today || date == today || date == today + 1) && decide (date ≤ Config.maxDay)
  | _ => decide (date + 2 ≤ today)

/-- Whether an edition key is in use (R26). -/
def State.keyInUse (s : State) (date number : Nat) : Bool :=
  s.catalog.editions.any (fun e => e.2.date == date && e.2.number == number)

/-- The record OPEN_EDITION makes (R27). -/
def openedEdition (p : Port) (date number : Nat) (now : Stamp) : Edition :=
  { date := date, number := number, origin := (if p = .desk then .current else .historical), owner := p, state := .opened,
    opened := now, release := none, published := none, outstanding := 0, pages := 0, photos := 0 }

/-- OPEN_EDITION's rule (R27). A key in use is answered EXISTS whichever port asks, also where R28 hides the edition from it (assumption 50). -/
def openEdition (p : Port) (date number : Nat) (s : State) : State × Answer :=
  let h := firstGap 0 s.catalog.editions
  if !(decide (number ≤ 7) && dateOpens p s.today date) then deny .badArgument s
  else if s.keyInUse date number then deny .alreadyExists s
  else if Config.editions ≤ h then deny .full s
  else (s.putEdition h (openedEdition p date number s.now), ⟨.ok, be 2 h⟩)

/-- OPEN_EDITION (R27). -/
def execOpenEdition (f : Frame) (date number : Nat) (s : State) : Host.Outcome State Fault Refusal :=
  .next (serve deskAndBench f (openEdition f.port date number) s)

/-! ### CLOSE_EDITION (R29) -/

/-- The staging descriptors of an edition in a state. -/
def State.depositsOf (s : State) (h : Nat) (st : DescriptorState) : Nat :=
  (s.intake.descriptors.filter (fun e => e.2.key.handle == h && e.2.state == st)).length

/-- The release stamp CLOSE_EDITION records: for a CURRENT edition the later of the stamp given and now (R29). -/
def closingRelease (origin : EditionOrigin) (given now : Stamp) : Option Stamp :=
  match origin with
  | .current => some (if earlier given now then now else given)
  | .historical => none

/-- The answer of an accepted CLOSE_EDITION: the state and the release stamp as applied (R29). -/
def closeAnswer (h : Nat) (s : State) : Answer :=
  match s.edition h with
  | some e => ⟨.ok, be 1 (editionStateCode e.state) ++ optional (e.release.map stampOctets)⟩
  | none => plain .ok

/-- CLOSE_EDITION's rule (R29, R30). -/
def closeEdition (p : Port) (h : Nat) (release : Stamp) (s : State) : State × Answer :=
  match s.see p h with
  | .error st => deny st s
  | .ok e =>
    if Config.maxTick < release.tick then deny .badArgument s
    else if e.state ≠ .opened then deny .wrongState s
    else if s.depositsOf h .filling ≠ 0 then deny .objectsOpen s
    else
      let n := s.depositsOf h .ended
      let s := s.putEdition h
        { e with state := .closing, release := closingRelease e.origin release s.now, outstanding := n }
      let s := if n = 0 then publish h s else s
      (s, closeAnswer h s)

/-- CLOSE_EDITION (R29). -/
def execCloseEdition (f : Frame) (h : Nat) (release : Stamp) (s : State) : Host.Outcome State Fault Refusal :=
  .next (serveSettling deskAndBench f (closeEdition f.port h release) s)

/-! ### ABANDON_EDITION (R32) -/

/-- The FILLING and ENDED descriptors of an edition. -/
def State.openDeposits (s : State) (h : Nat) : List (Nat × Descriptor) :=
  s.intake.descriptors.filter (fun e => e.2.key.handle == h && e.2.state != .dropped)

/-- ABANDON_EDITION's rule (R32). -/
def abandonEdition (p : Port) (h : Nat) (s : State) : State × Answer :=
  match s.see p h with
  | .error st => deny st s
  | .ok e =>
    if e.state ≠ .opened then deny .wrongState s
    else
      let t := removeObjects h (dropDeposits (s.openDeposits h) s)
      (withdrawCopy s { t with catalog.editions := tdel t.catalog.editions h }, plain .ok)

/-- ABANDON_EDITION (R32). -/
def execAbandonEdition (f : Frame) (h : Nat) (s : State) : Host.Outcome State Fault Refusal :=
  .next (serveSettling deskAndBench f (abandonEdition f.port h) s)

/-! ### WITHDRAW_EDITION, REINSTATE_EDITION, PURGE_EDITION (R33 to R35) -/

/-- WITHDRAW_EDITION's rule (R33): the orders of the edition's objects are released (R147) and its passes aborted (R109). -/
def withdrawEdition (p : Port) (h : Nat) (s : State) : State × Answer :=
  match s.see p h with
  | .error st => deny st s
  | .ok e =>
    if e.state ≠ .published then deny .wrongState s
    else
      let s := notifyAll .editionWithdrawn allPorts (s.putEdition h { e with state := .withdrawn })
      let s := releaseOrders (fun st _ => st.key.handle == h) .withdrawn (s.portStreams .counter).queue s
      (abortPasses (fun q => q.key.handle == h) .withdrawn s, plain .ok)

/-- WITHDRAW_EDITION (R33). -/
def execWithdrawEdition (f : Frame) (h : Nat) (s : State) : Host.Outcome State Fault Refusal :=
  .next (serveSettling deskOnly f (withdrawEdition f.port h) s)

/-- REINSTATE_EDITION's rule (R34). -/
def reinstateEdition (p : Port) (h : Nat) (s : State) : State × Answer :=
  match s.see p h with
  | .error st => deny st s
  | .ok e =>
    if e.state ≠ .withdrawn then deny .wrongState s
    else (notifyAll .editionPublished allPorts (s.putEdition h { e with state := .published }), plain .ok)

/-- REINSTATE_EDITION (R34). -/
def execReinstateEdition (f : Frame) (h : Nat) (s : State) : Host.Outcome State Fault Refusal :=
  .next (serve deskOnly f (reinstateEdition f.port h) s)

/-- PURGE_EDITION's rule (R35). -/
def purgeEdition (p : Port) (h : Nat) (s : State) : State × Answer :=
  match s.see p h with
  | .error st => deny st s
  | .ok e =>
    if e.state ≠ .withdrawn then deny .wrongState s
    else (withdrawCopy s ((removeObjects h s).putEdition h { e with state := .purged }), plain .ok)

/-- PURGE_EDITION (R35). -/
def execPurgeEdition (f : Frame) (h : Nat) (s : State) : Host.Outcome State Fault Refusal :=
  .next (serveSettling deskOnly f (purgeEdition f.port h) s)

/-! ### DISCARD_VERSION (R43) -/

/-- A version leaves its object's list (R43): its leaves cease to be live, and with its last version the object is removed (R42). -/
def removeVersion (o : Object) (v : Version) (s : State) : State :=
  let o' := { o with versions := o.versions.filter (fun x => x.number != v.number) }
  let s := extentsDie v.extents s
  if o'.versions.isEmpty then removeObject o' s else s.putObject o'

/-- DISCARD_VERSION's rule (R43). -/
def discardVersion (p : Port) (w : WireKey) (number : Nat) (s : State) : State × Answer :=
  match s.seeObject p w with
  | .error st => deny st s
  | .ok (e, o) =>
    if e.state ≠ .published ∧ e.state ≠ .withdrawn then deny .wrongState s
    else match o.version number with
      | none => deny .notFound s
      | some v =>
        if !v.damaged && v.origin == .deposit then deny .wrongState s
        else
          let best := Object.best { o with versions := o.versions.filter (fun x => x.number != v.number) }
          (withdrawCopy s (removeVersion o v s), ⟨.ok, optional (best.map (fun b => be 1 b.number))⟩)

/-- DISCARD_VERSION (R43). -/
def execDiscardVersion (f : Frame) (w : WireKey) (number : Nat) (s : State) : Host.Outcome State Fault Refusal :=
  .next (serveSettling benchOnly f (discardVersion f.port w number) s)

/-! ### FIND_EDITION and FIND_OBJECT (R44, R45) -/

/-- The handle an edition's name stands for: a key is looked up among the records in use (R44). -/
def State.handleOf (s : State) : EditionName → Option Nat
  | .handle h => some h
  | .key date number => (s.catalog.editions.find? (fun e => e.2.date == date && e.2.number == number)).map (·.1)

/-- The embargo flag that FIND_EDITION and FIND_OBJECT report for a PUBLISHED edition (R44, R45; assumption 41). -/
def State.embargoOctets (s : State) (e : Edition) : List Octet :=
  optional (if e.state = .published then some (flag (s.embargoed e)) else none)

/-- FIND_EDITION's figures (R44). -/
def State.editionOctets (s : State) (h : Nat) (e : Edition) : List Octet :=
  be 2 h ++ be 2 e.date ++ be 1 e.number ++ be 1 (editionOriginCode e.origin) ++ be 1 (portCode e.owner)
    ++ be 1 (editionStateCode e.state) ++ stampOctets e.opened ++ optional (e.release.map stampOctets)
    ++ optional (e.published.map stampOctets) ++ be 1 e.pages ++ be 2 e.photos
    ++ optional (if e.state = .opened ∨ e.state = .closing then some (be 1 e.outstanding) else none)
    ++ s.embargoOctets e

/-- FIND_EDITION's rule (R44). -/
def findEdition (p : Port) (name : EditionName) (s : State) : State × Answer :=
  match s.handleOf name with
  | none => deny .notFound s
  | some h => match s.see p h with
    | .error st => deny st s
    | .ok e => (s, ⟨.ok, s.editionOctets h e⟩)

/-- FIND_EDITION (R44). -/
def execFindEdition (f : Frame) (name : EditionName) (s : State) : Host.Outcome State Fault Refusal :=
  .next (serve allPorts f (findEdition f.port name) s)

/-- One version as FIND_OBJECT reports it (R45). -/
def versionOctets (v : Version) : List Octet :=
  be 1 v.number ++ be 1 (originCode v.origin) ++ be 1 (versionStateCode v.damaged) ++ be 4 v.length ++ be 4 v.check.toNat
    ++ optional (v.profile.map (fun q => be 1 q.1 ++ be 1 q.2)) ++ be 2 v.created
    ++ be 2 (v.extents.map (·.count)).sum ++ be 1 v.extents.length

/-- FIND_OBJECT's figures (R45). -/
def State.objectOctets (s : State) (e : Edition) (o : Object) : List Octet :=
  be 1 (editionStateCode e.state) ++ s.embargoOctets e ++ be 1 (rightsCode o.rights) ++ be 2 o.contributor
    ++ be 1 (formatCode o.format)
    ++ optional (if o.key.kind = .page then some (listOf (fun t => keyOctets t.photo ++ flag t.vacant) o.placements) else none)
    ++ optional (o.best.map (fun b => be 1 b.number)) ++ listOf versionOctets o.versions

/-- FIND_OBJECT's rule (R45). -/
def findObject (p : Port) (w : WireKey) (s : State) : State × Answer :=
  match s.seeObject p w with
  | .error st => deny st s
  | .ok (e, o) => (s, ⟨.ok, s.objectOctets e o⟩)

/-- FIND_OBJECT (R45). -/
def execFindObject (f : Frame) (w : WireKey) (s : State) : Host.Outcome State Fault Refusal :=
  .next (serve allPorts f (findObject f.port w) s)

end Sys2Proof.Machine
end

