-- ==== Sys2Proof/Machine/Accounts.lean ====
section
/-! DEFINITION. The requests of chapter 7: accounts, contributors, tariffs. -/

namespace Sys2Proof.Machine

/-! ### Accounts (R114 to R121) -/

/-- Whether an id names an account record 1..255. -/
def accountId (id : Nat) : Bool := decide (1 ≤ id) && decide (id ≤ 255)

/-- Whether a class and a credit limit are in range (R115, R117). -/
def termsInRange (tariffClass limit : Nat) : Bool := decide (tariffClass ≤ 3) && decide (limit ≤ Config.maxBalance)

/-- The record OPEN_ACCOUNT makes (R115): every figure is 0, also where the UNUSED record had counted the charge of an order of fee 0 that
outlived its account (assumption 49). -/
def openedAccount (tariffClass limit : Nat) : Account :=
  { Account.formatted with state := .opened, tariffClass := tariffClass, limit := limit }

/-- OPEN_ACCOUNT's rule (R115). -/
def openAccount (id tariffClass limit : Nat) (s : State) : State × Answer :=
  if !(accountId id && termsInRange tariffClass limit) then deny .badArgument s
  else if (s.account id).state ≠ .unused then deny .alreadyExists s
  else (s.putAccount id (openedAccount tariffClass limit), plain .ok)

/-- OPEN_ACCOUNT (R115). -/
def execOpenAccount (f : Frame) (id tariffClass limit : Nat) (s : State) : Host.Outcome State Fault Refusal :=
  .next (serve counterOnly f (openAccount id tariffClass limit) s)

/-- CREDIT_ACCOUNT's rule (R116). -/
def creditAccount (id amount : Nat) (s : State) : State × Answer :=
  let a := s.account id
  if !(accountId id && decide (1 ≤ amount) && decide (amount ≤ Config.maxBalance)) then deny .badArgument s
  else if a.state = .unused then deny .notFound s
  else if (Config.maxBalance : Int) < a.balance + amount then deny .overflow s
  else (s.putAccount id { a with balance := a.balance + amount }, ⟨.ok, beInt 5 (a.balance + amount)⟩)

/-- CREDIT_ACCOUNT (R116). -/
def execCreditAccount (f : Frame) (id amount : Nat) (s : State) : Host.Outcome State Fault Refusal :=
  .next (serve counterOnly f (creditAccount id amount) s)

/-- The applied limit: the greater of the requested limit and held − balance (R117). -/
def appliedLimit (a : Account) (requested : Nat) : Nat := max requested ((a.held : Int) - a.balance).toNat

/-- SET_ACCOUNT's rule (R117). -/
def setAccount (id tariffClass limit : Nat) (s : State) : State × Answer :=
  let a := s.account id
  if !(accountId id && termsInRange tariffClass limit) then deny .badArgument s
  else if a.state = .unused then deny .notFound s
  else
    let applied := appliedLimit a limit
    (s.putAccount id { a with tariffClass := tariffClass, limit := applied }, ⟨.ok, be 1 tariffClass ++ be 5 applied⟩)

/-- SET_ACCOUNT (R117). -/
def execSetAccount (f : Frame) (id tariffClass limit : Nat) (s : State) : Host.Outcome State Fault Refusal :=
  .next (serve counterOnly f (setAccount id tariffClass limit) s)

/-- Whether a stream is an order of an account. -/
def Stream.orders (st : Stream) (account : Nat) : Bool :=
  match st.kind with
  | .order o => o.account == account
  | _ => false

/-- SUSPEND_ACCOUNT's rule (R118, R148). -/
def suspendAccount (id : Nat) (s : State) : State × Answer :=
  let a := s.account id
  if !accountId id then deny .badArgument s
  else match a.state with
    | .unused => deny .notFound s
    | .suspended => deny .wrongState s
    | .opened =>
      let reserved := (s.portStreams .counter).queue.tail
      let s := s.putAccount id { a with state := .suspended }
      (releaseOrders (fun _ o => o.account == id) .suspended reserved s,
        ⟨.ok, be 1 (reserved.filter (fun st => st.orders id)).length⟩)

/-- SUSPEND_ACCOUNT (R118). -/
def execSuspendAccount (f : Frame) (id : Nat) (s : State) : Host.Outcome State Fault Refusal :=
  .next (serveSettling counterOnly f (suspendAccount id) s)

/-- REINSTATE_ACCOUNT's rule (R118). -/
def reinstateAccount (id : Nat) (s : State) : State × Answer :=
  let a := s.account id
  if !accountId id then deny .badArgument s
  else match a.state with
    | .unused => deny .notFound s
    | .opened => deny .wrongState s
    | .suspended => (s.putAccount id { a with state := .opened }, plain .ok)

/-- REINSTATE_ACCOUNT (R118). -/
def execReinstateAccount (f : Frame) (id : Nat) (s : State) : Host.Outcome State Fault Refusal :=
  .next (serve counterOnly f (reinstateAccount id) s)

/-- Whether an account's balance, held and period figures are all 0 and clear (R119). -/
def Account.settled (a : Account) : Bool :=
  a.balance == 0 && a.held == 0 && a.orders == 0 && a.pageCopies == 0 && a.photoCopies == 0 && a.charged == 0 && !a.overflow

/-- CLOSE_ACCOUNT's rule (R119). Orders of fee 0 leave held 0 and do not keep the record from closing; each runs on under its id (assumption
49). -/
def closeAccount (id : Nat) (s : State) : State × Answer :=
  let a := s.account id
  if !accountId id then deny .badArgument s
  else if a.state = .unused then deny .notFound s
  else if !a.settled then deny .wrongState s
  else (s.putAccount id Account.formatted, plain .ok)

/-- CLOSE_ACCOUNT (R119). -/
def execCloseAccount (f : Frame) (id : Nat) (s : State) : Host.Outcome State Fault Refusal :=
  .next (serve counterOnly f (closeAccount id) s)

/-- Period exposure: period charged plus held, over all accounts (R120). -/
def State.exposure (s : State) : Nat := (s.ledger.accounts.map (fun e => e.2.charged + e.2.held)).sum

/-- The RESERVED and STREAMING orders of an account (R138). -/
def State.ordersOf (s : State) (id : Nat) : Nat := ((s.portStreams .counter).queue.filter (fun st => st.orders id)).length

/-- The figures of an account record (R121; assumption 33). -/
def State.accountOctets (s : State) (id : Nat) : List Octet :=
  let a := s.account id
  be 1 (accountStateCode a.state) ++ be 1 a.tariffClass ++ beInt 5 a.balance ++ be 5 a.limit ++ be 5 a.held
    ++ be 1 (s.ordersOf id) ++ be 3 a.orders ++ be 3 a.pageCopies ++ be 3 a.photoCopies ++ be 5 a.charged ++ flag a.overflow

/-- The house figures with period exposure (R121, R153). -/
def State.houseOctets (s : State) : List Octet :=
  be 5 s.billing.revenue ++ be 3 s.billing.reads ++ flag s.billing.overflow ++ be 5 s.exposure

/-- FIND_ACCOUNT's rule (R121). -/
def findAccount (id : Nat) (s : State) : State × Answer :=
  if id = 0 then (s, ⟨.ok, s.houseOctets⟩)
  else if accountId id then (s, ⟨.ok, s.accountOctets id⟩)
  else deny .badArgument s

/-- FIND_ACCOUNT (R121). -/
def execFindAccount (f : Frame) (id : Nat) (s : State) : Host.Outcome State Fault Refusal :=
  .next (serve counterOnly f (findAccount id) s)

/-! ### Contributors (R122 to R124) -/

/-- Whether an id names a contributor record 1..1,023. -/
def contributorId (id : Nat) : Bool := decide (1 ≤ id) && decide (id ≤ 1023)

/-- State, share and period figures of a contributor (R123, R124), its period figures being its period accrual and its period photo
orders (R122). -/
def contributorOctets (c : Contributor) : List Octet :=
  be 1 (contributorStateCode c.state) ++ be 2 c.share ++ be 5 c.accrual ++ be 3 c.photoOrders

/-- REGISTER_CONTRIBUTOR's rule (R123). -/
def registerContributor (id : Nat) (s : State) : State × Answer :=
  let c := s.contributor id
  if !contributorId id then deny .badArgument s
  else if c.state ≠ .unused then deny .alreadyExists s
  else (s.putContributor id { c with state := .active, share := 0 }, plain .ok)

/-- REGISTER_CONTRIBUTOR (R123). -/
def execRegisterContributor (f : Frame) (id : Nat) (s : State) : Host.Outcome State Fault Refusal :=
  .next (serve deskOnly f (registerContributor id) s)

/-- SET_CONTRIBUTOR_STATE's rule (R123). -/
def setContributorState (id state : Nat) (s : State) : State × Answer :=
  let c := s.contributor id
  match settableStateOf state with
  | none => deny .badArgument s
  | some st =>
    if !contributorId id then deny .badArgument s
    else if c.state = .unused then deny .notFound s
    else
      let c := { c with state := st }
      (s.putContributor id c, ⟨.ok, contributorOctets c⟩)

/-- SET_CONTRIBUTOR_STATE (R123). -/
def execSetContributorState (f : Frame) (id state : Nat) (s : State) : Host.Outcome State Fault Refusal :=
  .next (serve deskOnly f (setContributorState id state) s)

/-- SET_SHARE's rule (R124). -/
def setShare (id share : Nat) (s : State) : State × Answer :=
  let c := s.contributor id
  if !(contributorId id && decide (share ≤ 1000)) then deny .badArgument s
  else if c.state = .unused then deny .notFound s
  else
    let c := { c with share := share }
    (s.putContributor id c, ⟨.ok, contributorOctets c⟩)

/-- SET_SHARE (R124). -/
def execSetShare (f : Frame) (id share : Nat) (s : State) : Host.Outcome State Fault Refusal :=
  .next (serve counterOnly f (setShare id share) s)

/-! ### Tariffs (R125, R126) -/

/-- Number of a cell: kind × 16 + usage × 4 + class, each counted from 0. -/
def cellIndex (k : Kind) (u : Usage) (c : Nat) : Nat := (kindCode k - 1) * 16 + (usageCode u - 1) * 4 + c

/-- The cell of a kind, a usage and a class (R125). -/
def State.cell (s : State) (k : Kind) (u : Usage) (c : Nat) : TariffCell :=
  tgetD TariffCell.formatted s.ledger.tariffs (cellIndex k u c)

/-- The state with a cell replaced. -/
def State.putCell (s : State) (k : Kind) (u : Usage) (c : Nat) (v : TariffCell) : State :=
  { s with ledger.tariffs := tset TariffCell.formatted s.ledger.tariffs (cellIndex k u c) v }

/-- The cell an action asks for: 1 is SET and 2 is CLEAR; nothing for another action or, with SET, for a value out of range (R125). With
CLEAR the other values are unused, and what stands in them is not read (assumption 48). -/
def requestedCell (action base copyUnit minimum : Nat) : Option TariffCell :=
  match action with
  | 1 =>
    if base ≤ 1000000 ∧ copyUnit ∈ [1, 10, 100, 1000] ∧ minimum ≤ 1000000 then some ⟨true, base, copyUnit, minimum⟩ else none
  | 2 => some TariffCell.formatted
  | _ => none

/-- A cell's figures: set flag, base fee, copy unit, minimum fee (R125). The minimum fee takes three octets, the fewest that its range needs,
although R180 also gives an amount of money five (assumption 33). -/
def cellOctets (c : TariffCell) : List Octet := flag c.isSet ++ be 3 c.base ++ be 2 c.copyUnit ++ be 3 c.minimum

/-- SET_TARIFF's rule (R125). -/
def setTariff (kind usage tariffClass action base copyUnit minimum : Nat) (s : State) : State × Answer :=
  match kindOf kind, usageOf usage, requestedCell action base copyUnit minimum with
  | some k, some u, some v =>
    if 3 < tariffClass then deny .badArgument s else (s.putCell k u tariffClass v, ⟨.ok, cellOctets v⟩)
  | _, _, _ => deny .badArgument s

/-- SET_TARIFF (R125). -/
def execSetTariff (f : Frame) (kind usage tariffClass action base copyUnit minimum : Nat) (s : State) :
    Host.Outcome State Fault Refusal :=
  .next (serve counterOnly f (setTariff kind usage tariffClass action base copyUnit minimum) s)

/-- Whether an age multiplier is in range (R126). -/
def multiplierInRange (m : Nat) : Bool := decide (100 ≤ m) && decide (m ≤ 5000)

/-- Whether the globals are in range (R126). -/
def Globals.inRange (g : Globals) : Bool :=
  multiplierInRange g.m0 && multiplierInRange g.m1 && multiplierInRange g.m2 && multiplierInRange g.m3
    && decide (g.r ≤ 1000000) && decide (g.p ≤ 1000)

/-- SET_TARIFF_GLOBALS's rule (R126). -/
def setTariffGlobals (g : Globals) (s : State) : State × Answer :=
  if g.inRange then ({ s with ledger.globals := g }, plain .ok) else deny .badArgument s

/-- SET_TARIFF_GLOBALS (R126). -/
def execSetTariffGlobals (f : Frame) (m0 m1 m2 m3 r p : Nat) (s : State) : Host.Outcome State Fault Refusal :=
  .next (serve counterOnly f (setTariffGlobals ⟨m0, m1, m2, m3, r, p⟩) s)

end Sys2Proof.Machine
end

