-- ==== Sys2Proof/Machine/Fee.lean ====
section
/-! DEFINITION. The fee unit (chapter 8) and the rights judgement (R127). -/

namespace Sys2Proof.Machine

/-! ### The stages of a fee (R129 to R135) -/

/-- Copy units U (R129). -/
def copyUnits (copies q : Nat) : Nat := (copies + q - 1) / q

/-- Age in days, 0 for an edition later than today (R130). -/
def ageOf (today date : Nat) : Nat := today - date

/-- Band of an age (R130). -/
def bandOf (age : Nat) : Nat := if age < 30 then 0 else if age < 365 then 1 else if age < 9125 then 2 else 3

/-- Multiplier of a band (R130). -/
def Globals.multiplier (g : Globals) (band : Nat) : Nat :=
  match band with
  | 0 => g.m0
  | 1 => g.m1
  | 2 => g.m2
  | _ => g.m3

/-- Aged amount A (R130). -/
def agedAmount (gross m : Nat) : Nat := (gross * m + 500) / 1000

/-- Applied surcharge (R131). -/
def surchargeOf (g : Globals) (origin : VersionOrigin) : Nat :=
  match origin with
  | .deposit => 0
  | .pass => g.r

/-- The fee before the cap: the greater of F0 and the minimum fee (R131). -/
def uncapped (aged surcharge minimum : Nat) : Nat := max (aged + surcharge) minimum

/-- Royalty base B (R132). -/
def royaltyBase (aged fee surcharge : Nat) : Nat := min aged (fee - surcharge)

/-- Each value once, in the order of first appearance. -/
def firsts : List Nat → List Nat
  | [] => []
  | x :: rest => x :: (firsts rest).filter (fun y => y != x)

/-- The parts of a pool: each sharing entry earns L div k for its photo's contributor, and each contributor is named once, in the order
of its first sharing entry, with the sum of its parts (R134). -/
def poolParts (pool : Nat) (sharing : List Nat) : List (Nat × Nat) :=
  (firsts sharing).map (fun c => (c, sharing.count c * (pool / sharing.length)))

/-- What a computation reads of the object and its contributors: for a PHOTO its contributor and that contributor's share, for a PAGE
the contributors of its sharing placements, in list order (R128, R133, R134). -/
inductive Sharers where
  | photo (contributor share : Nat)
  | page (sharing : List Nat)
  deriving DecidableEq, Repr

/-- The contributor parts taken from a royalty base (R133, R134). -/
def contributorParts (p : Nat) (base : Nat) : Sharers → List (Nat × Nat)
  | .photo 0 _ => []
  | .photo c share => [(c, base * share / 1000)]
  | .page sharing => poolParts (base * p / 1000) sharing

/-- The pool and the sharing count, for a PAGE with a sharing entry (R134, R135). -/
def poolOf (p base : Nat) : Sharers → Option (Nat × Nat)
  | .photo _ _ => none
  | .page sharing => if sharing.isEmpty then none else some (base * p / 1000, sharing.length)

/-- The inputs of a fee (R128). -/
structure FeeInputs where
  kind : Kind
  usage : Usage
  tariffClass : Nat
  copies : Nat
  cell : TariffCell
  today : Nat
  date : Nat
  version : Nat
  origin : VersionOrigin
  globals : Globals
  sharers : Sharers
  deriving DecidableEq, Repr

/-- The fee breakdown of inputs (R129 to R135). -/
def feeBreakdown (i : FeeInputs) : Breakdown :=
  let units := copyUnits i.copies i.cell.copyUnit
  let gross := units * i.cell.base
  let age := ageOf i.today i.date
  let aged := agedAmount gross (i.globals.multiplier (bandOf age))
  let surcharge := surchargeOf i.globals i.origin
  let whole := uncapped aged surcharge i.cell.minimum
  let fee := min whole Config.feeCap
  let base := royaltyBase aged fee surcharge
  let parts := contributorParts i.globals.p base i.sharers
  let pool := poolOf i.globals.p base i.sharers
  { kind := i.kind, usage := i.usage, tariffClass := i.tariffClass, copies := i.copies, version := i.version, origin := i.origin,
    units := units, gross := gross, age := age, band := bandOf age, aged := aged, surcharge := surcharge, fee := fee,
    capped := decide (Config.feeCap < whole), base := base, pool := pool.map (·.1), sharing := pool.map (·.2), parts := parts,
    house := fee - (parts.map (·.2)).sum }

/-! ### The inputs in a state (R128) -/

/-- The contributors of a page's sharing placements, in list order (R134). -/
def State.sharing (s : State) (o : Object) : List Nat :=
  o.placements.filterMap (fun t =>
    if t.vacant then none
    else match s.object t.photo with
      | none => none
      | some ph => if ph.contributor = 0 then none else some ph.contributor)

/-- What a computation reads of an object's contributors (R128). -/
def State.sharers (s : State) (o : Object) : Sharers :=
  match o.key.kind with
  | .photo => .photo o.contributor (s.contributor o.contributor).share
  | .page => .page (s.sharing o)

/-- The breakdown of a sale in a state (R128). -/
def State.breakdown (s : State) (a : Account) (e : Edition) (o : Object) (u : Usage) (copies : Nat) (v : Version) : Breakdown :=
  feeBreakdown
    { kind := o.key.kind, usage := u, tariffClass := a.tariffClass, copies := copies, cell := s.cell o.key.kind u a.tariffClass,
      today := s.today, date := e.date, version := v.number, origin := v.origin, globals := s.ledger.globals,
      sharers := s.sharers o }

/-! ### The rights judgement (R127) -/

/-- A failing case of the rights judgement: its position in R127's table, and for a placement case the position of the first failing
entry, counted from 1 (assumption 15). -/
structure RightsFailure where
  case_ : Nat
  entry : Option Nat
  deriving DecidableEq, Repr

/-- Whether a contributor is not the house and BARRED. -/
def State.barred (s : State) (id : Nat) : Bool := id != 0 && (s.contributor id).state == .barred

/-- Position of the first entry, counted from 1, that is not vacant and whose photo a predicate picks. -/
def State.firstEntry (s : State) (pick : Object → Bool) (ts : List Placement) : Option Nat :=
  (ts.findIdx? (fun t => !t.vacant && (match s.object t.photo with | some o => pick o | none => false))).map (· + 1)

/-- The rights judgement: the first failing case in the order of R127's table, or nothing for an object that passes. -/
def State.judgeRights (s : State) (o : Object) : Option RightsFailure :=
  if o.rights = .noReprint then some ⟨1, none⟩
  else if s.barred o.contributor then some ⟨2, none⟩
  else match s.firstEntry (fun ph => ph.rights == .noReprint) o.placements with
    | some i => some ⟨3, some i⟩
    | none => match s.firstEntry (fun ph => s.barred ph.contributor) o.placements with
      | some i => some ⟨4, some i⟩
      | none => none

/-- The payload of a RIGHTS reply (assumption 15). -/
def rightsOctets (r : RightsFailure) : List Octet := be 1 r.case_ ++ optional (r.entry.map (be 1))

end Sys2Proof.Machine
end

