-- ==== Sys2Proof/Machine/Sales.lean ====
section
/-! DEFINITION. QUOTE (R136), ORDER (R139, R140) and the charge of an order (R143). -/

namespace Sys2Proof.Machine

/-! ### The checks QUOTE and ORDER share (R136, R139) -/

/-- What a sale is about once the checks up to the best version have passed. -/
structure Sale where
  edition : Edition
  object : Object
  version : Version
  breakdown : Breakdown
  deriving DecidableEq, Repr

/-- The first check: the account id, the usage, the copies, the kind and number (R136, R139). -/
def saleArguments (account : Nat) (w : WireKey) (usage copies : Nat) : Option Usage :=
  match usageOf usage with
  | none => none
  | some u =>
    if accountId account && decide (1 ≤ copies) && decide (copies ≤ 65535) && (keyOf w).isSome then some u else none

/-- The checks from the rights judgement to the best version, and the fee of a sale that passes them (R136, R139). -/
def State.priceObject (s : State) (account : Nat) (e : Edition) (o : Object) (u : Usage) (copies : Nat) :
    Except Answer Sale :=
  let a := s.account account
  match s.judgeRights o with
  | some r => .error ⟨.rights, rightsOctets r⟩
  | none =>
    if !(s.cell o.key.kind u a.tariffClass).isSet then .error (plain .noTariff)
    else match o.best with
      | none => .error (plain .damaged)
      | some v => .ok ⟨e, o, v, s.breakdown a e o u copies v⟩

/-- The breakdown's octets (R135). -/
def breakdownOctets (b : Breakdown) : List Octet :=
  be 1 (kindCode b.kind) ++ be 1 (usageCode b.usage) ++ be 1 b.tariffClass ++ be 2 b.copies ++ be 1 b.version
    ++ be 1 (originCode b.origin) ++ be 2 b.units ++ be 5 b.gross ++ be 2 b.age ++ be 1 b.band ++ be 5 b.aged ++ be 3 b.surcharge
    ++ be 4 b.fee ++ flag b.capped ++ be 4 b.base ++ optional (b.pool.map (be 4)) ++ optional (b.sharing.map (be 1))
    ++ listOf (fun (e : Nat × Nat) => be 2 e.1 ++ be 4 e.2) b.parts ++ be 4 b.house

/-! ### QUOTE (R136) -/

/-- QUOTE's rule (R136). -/
def quote (account : Nat) (w : WireKey) (usage copies : Nat) (s : State) : State × Answer :=
  match saleArguments account w usage copies with
  | none => deny .badArgument s
  | some u =>
    if (s.account account).state = .unused then deny .notFound s
    else match s.seeObject .counter w with
      | .error st => deny st s
      | .ok (e, o) =>
        if e.state ≠ .published then deny .notFound s
        else match s.priceObject account e o u copies with
          | .error a => (s, a)
          | .ok q => (s, ⟨.ok, breakdownOctets q.breakdown ++ flag (s.embargoed e)⟩)

/-- QUOTE (R136). -/
def execQuote (f : Frame) (account : Nat) (w : WireKey) (usage copies : Nat) (s : State) : Host.Outcome State Fault Refusal :=
  .next (serve counterOnly f (quote account w usage copies) s)

/-! ### ORDER (R139, R140) -/

/-- Whether a reservation of a fee is granted (R120). -/
def State.reservable (s : State) (a : Account) (fee : Nat) : Bool :=
  decide (-(a.limit : Int) ≤ a.balance - a.held - fee) && decide (s.exposure + fee ≤ Config.maxExposure)

/-- An order is accepted (R140). -/
def acceptOrder (account id : Nat) (q : Sale) (s : State) : State :=
  let a := s.account account
  let s := s.putAccount account { a with held := a.held + q.breakdown.fee }
  let part : OrderPart := ⟨account, q.breakdown, none⟩
  acceptStream .counter (newStream id (.order part) q.object.key q.version 0 q.version.length) s

/-- The figures of an ACCEPTED reply (R140), the fee in four octets, the fewest that its range needs, although R180 also gives an amount of
money five (assumption 33). -/
def acceptedOctets (id ahead : Nat) (q : Sale) : List Octet :=
  be 1 id ++ be 4 q.breakdown.fee ++ be 1 q.version.number ++ be 1 (originCode q.version.origin) ++ be 1 ahead

/-- The figures of a FUNDS reply (R139). -/
def State.fundsOctets (s : State) (a : Account) (fee : Nat) : List Octet :=
  be 4 fee ++ beInt 5 a.balance ++ be 5 a.held ++ be 5 a.limit ++ be 5 s.exposure

/-- The queue check, the funds test and the acceptance (R139, R140). -/
def State.placeOrder (s : State) (account : Nat) (q : Sale) : State × Answer :=
  let a := s.account account
  let ps := s.portStreams .counter
  if !ps.hasRoom then deny .queueFull s
  else match ps.freeId with
    | none => deny .queueFull s
    | some id =>
      if !s.reservable a q.breakdown.fee then (s, ⟨.funds, s.fundsOctets a q.breakdown.fee⟩)
      else (acceptOrder account id q s, ⟨.accepted, acceptedOctets id ps.queue.length q⟩)

/-- ORDER's rule (R139, R140). -/
def order (account : Nat) (w : WireKey) (usage copies : Nat) (s : State) : State × Answer :=
  match saleArguments account w usage copies with
  | none => deny .badArgument s
  | some u => match (s.account account).state with
    | .unused => deny .notFound s
    | .suspended => deny .suspended s
    | .opened => match s.seeObject .counter w with
      | .error st => deny st s
      | .ok (e, o) =>
        if e.state ≠ .published then deny .notFound s
        else if s.embargoed e then deny .embargoed s
        else match s.priceObject account e o u copies with
          | .error a => (s, a)
          | .ok q => s.placeOrder account q

/-- ORDER (R139). -/
def execOrder (f : Frame) (account : Nat) (w : WireKey) (usage copies : Nat) (s : State) : Host.Outcome State Fault Refusal :=
  .next (serveSettling counterOnly f (order account w usage copies) s)

/-! ### The charge (R143) -/

/-- An account's record after a charge (R143, R114). The record is the one with the order's account id, whatever its state: when the account
was closed under an order of fee 0, the UNUSED record counts it (assumption 49). -/
def chargedAccount (b : Breakdown) (a : Account) : Account :=
  let orders := rise24 a.orders 1
  let pages := if b.kind = .page then rise24 a.pageCopies b.copies else (a.pageCopies, false)
  let photos := if b.kind = .photo then rise24 a.photoCopies b.copies else (a.photoCopies, false)
  { a with
    balance := a.balance - b.fee, held := a.held - b.fee, orders := orders.1, pageCopies := pages.1, photoCopies := photos.1,
    charged := a.charged + b.fee, overflow := a.overflow || orders.2 || pages.2 || photos.2 }

/-- A contributor's period accrual rises by its bound part (R143). -/
def accrue (e : Nat × Nat) (s : State) : State :=
  let c := s.contributor e.1
  s.putContributor e.1 { c with accrual := c.accrual + e.2 }

/-- A photo order is counted for a contributor that is not the house (R143, R122). -/
def countPhotoOrder (id : Nat) (s : State) : State :=
  if id = 0 then s
  else
    let c := s.contributor id
    let r := rise24 c.photoOrders 1
    s.putContributor id { c with photoOrders := r.1, overflow := c.overflow || r.2 }

/-- The contributor of a sold PHOTO: the one its breakdown names, or the house (R133). -/
def photoContributor (b : Breakdown) : Nat :=
  match b.kind, b.parts with
  | .photo, e :: _ => e.1
  | _, _ => 0

/-- What the charge of an order changes in the tables (R143). -/
def chargeOrder (o : OrderPart) (s : State) : State :=
  let s := s.putAccount o.account (chargedAccount o.breakdown (s.account o.account))
  let s := o.breakdown.parts.foldl (fun s e => accrue e s) s
  let s := countPhotoOrder (photoContributor o.breakdown) s
  { s with billing.revenue := s.billing.revenue + o.breakdown.house }

/-- A stream of a port completes (R75): a READ ends OK and counts a house read, an ORDER is charged and ends CHARGED. -/
def completeStream (p : Port) (st : Stream) (s : State) : State :=
  match st.kind with
  | .order o => endStream p st st.kind (some .charged) (chargeOrder o s)
  | k =>
    let r := rise24 s.billing.reads 1
    let s := { s with billing.reads := r.1, billing.overflow := s.billing.overflow || r.2 }
    endStream p st k (some .ok) s

end Sys2Proof.Machine
end

