-- ==== Sys2Proof/Machine/LinkEvents.lean ====
section
/-! DEFINITION. The frames that are no request and the events of the links (chapter 12, R74, R75). -/

namespace Sys2Proof.Machine

/-! ### Frames that are no request (R176 to R178) -/

/-- A frame answered by the link unit itself: `idle` when no request is in progress, `late` through the refusal slot (R177). -/
def answerFrame (p : Port) (tag : Octet) (idle late : Status) (s : State) : State :=
  if !s.receives p then s
  else if s.inProgress p then transmit p (refuse p tag late s)
  else transmit p (reply p tag (plain idle) s)

/-- Whether a code is that of a request: 0x01..0x2E (R178). -/
def requestCode (code : Octet) : Bool := decide (1 ≤ code.toNat) && decide (code.toNat ≤ 0x2E)

/-- UNKNOWN_REQUEST (R178). -/
def execUnknownRequest (p : Port) (tag code : Octet) (s : State) : Host.Outcome State Fault Refusal :=
  .next (if requestCode code then s else answerFrame p tag .unknownRequest .busy s)

/-- BAD_FRAME (R176, R177). -/
def execBadFrame (p : Port) (tag : Octet) (s : State) : Host.Outcome State Fault Refusal :=
  .next (answerFrame p tag .badFrame .badFrame s)

/-- BUSY (R177): a frame that arrives while a request is in progress. -/
def execBusy (p : Port) (tag : Octet) (malformed : Bool) (s : State) : Host.Outcome State Fault Refusal :=
  .next (if s.inProgress p then answerFrame p tag .busy (if malformed then .badFrame else .busy) s else s)

/-! ### Transmissions that complete (R74, R75, R177, R179) -/

/-- A link unit after the transmission of a reply or refusal (R177). -/
def Link.replied (l : Link) : Slot → Link
  | .request => { l with request := none, sending := none }
  | .refusal => { l with refusal := none, sending := none }

/-- REPLY_SENT (R179). -/
def execReplySent (p : Port) (s : State) : Host.Outcome State Fault Refusal :=
  .next (match (s.links.get p).sending with
    | some (.reply slot) => transmit p { s with links := s.links.set p ((s.links.get p).replied slot) }
    | _ => s)

/-- The transmitter of a port is free. -/
def freeTransmitter (p : Port) (s : State) : State :=
  { s with links := s.links.set p { s.links.get p with sending := none } }

/-- Whether the last octet of a stream's window has been sent (R75). -/
def Stream.done (st : Stream) : Bool := decide (st.offset + st.size ≤ st.position)

/-- A stream of the queue replaced by its successor under the same id. -/
def replaceStream (st : Stream) (x : Stream) : Stream := if x.id = st.id then st else x

/-- A data frame's octets count in position and delivered of the stream that sent it, which completes with its last octet (R74, R75,
R76). -/
def creditFrame (p : Port) (id n : Nat) (s : State) : State :=
  let ps := s.portStreams p
  match ps.queue.find? (fun st => st.id == id) with
  | some st =>
    let st := advance n st
    let s := s.putPortStreams p { ps with queue := ps.queue.map (replaceStream st) }
    if st.done then completeStream p st s else s
  | none =>
    let late := fun (st : Stream) => if st.id = id then { st with position := st.position + n } else st
    s.putPortStreams p { ps with ended := ps.ended.map late }

/-- DATA_FRAME_SENT (R74). -/
def execDataFrameSent (p : Port) (s : State) : Host.Outcome State Fault Refusal :=
  .next (match (s.links.get p).sending with
    | some (.data id _ octets) => conclude (creditFrame p id octets.length (freeTransmitter p s))
    | _ => s)

/-- An ENDED stream is freed with its id (R74). -/
def freeStream (p : Port) (id : Nat) (s : State) : State :=
  let ps := s.portStreams p
  s.putPortStreams p { ps with ended := ps.ended.filter (fun st => st.id != id) }

/-- END_FRAME_SENT (R74). -/
def execEndFrameSent (p : Port) (s : State) : Host.Outcome State Fault Refusal :=
  .next (match (s.links.get p).sending with
    | some (.ending id) => conclude (freeStream p id (freeTransmitter p s))
    | _ => s)

/-! ### LINK_RESET and BREAK_END (R183) -/

/-- A port's deposits and, for the bench port, its passes end (R64, R109). -/
def resetWork (p : Port) (s : State) : State :=
  match p with
  | .desk => resetDeposits .desk s
  | .bench => resetPasses (resetDeposits .bench s)
  | .counter => s

/-- A port's pending set is cleared, its mask holds all kinds and its mailbox is empty (R169, R171). -/
def resetBoard (p : Port) (s : State) : State :=
  { s with notices := s.notices.set p NoticeBoard.reset, mailboxes := s.mailboxes.set p none }

/-- The effects of a link reset (R183), in the order in which R183 gives them (assumption 34). -/
def resetPort (p : Port) (s : State) : State :=
  let s := { s with links := s.links.set p { Link.reset with breakHeld := true } }
  resetBoard p (resetWork p (resetStreams p s))

/-- The conditions that stand for a port that is reset in START are pending again (R169); those of the other ports are judged at
start-up's end (R175 step 4). -/
def holdInStart (p : Port) (s : State) : State := if s.control.mode = .start then holdFor p s else s

/-- LINK_RESET (R183; assumption 24): the conditions that stand for the port are pending again, in START at once and else as the event is
concluded (R169). -/
def execLinkReset (p : Port) (s : State) : Host.Outcome State Fault Refusal :=
  .next (if s.running then conclude (holdInStart p (resetPort p s)) else s)

/-- BREAK_END (R183). -/
def execBreakEnd (p : Port) (s : State) : Host.Outcome State Fault Refusal :=
  .next (if s.running then transmit p { s with links := s.links.set p { s.links.get p with breakHeld := false } } else s)

end Sys2Proof.Machine
end

