-- ==== Sys2Proof/Machine/Reading.lean ====
section
/-! DEFINITION. The requests of chapter 4: READ and CANCEL_STREAM. -/

namespace Sys2Proof.Machine

/-- The effective length of a window on a body of a length, when the window is allowed (R71). -/
def effectiveLength (body offset window : Nat) : Option Nat :=
  if body ≤ offset then none
  else if window = 0 then some (body - offset)
  else if window ≤ body - offset then some window
  else none

/-- READ's rule (R71). -/
def readObject (p : Port) (w : WireKey) (version : Source) (offset window : Nat) (s : State) : State × Answer :=
  match s.seeObject p w with
  | .error st => deny st s
  | .ok (_, o) => match o.choose version with
    | .error st => deny st s
    | .ok v => match effectiveLength v.length offset window with
      | none => deny .badArgument s
      | some size =>
        if !(s.portStreams p).hasRoom then deny .queueFull s
        else match (s.portStreams p).freeId with
          | none => deny .queueFull s
          | some id =>
            (acceptStream p (newStream id .read o.key v offset size) s, ⟨.accepted, be 1 id ++ be 1 v.number ++ be 4 size⟩)

/-- READ (R71). -/
def execRead (f : Frame) (w : WireKey) (version : Source) (offset window : Nat) (s : State) :
    Host.Outcome State Fault Refusal :=
  .next (serveSettling deskAndBench f (readObject f.port w version offset window) s)

/-- CANCEL_STREAM's rule (R78, R146). -/
def cancelStream (p : Port) (id : Nat) (s : State) : State × Answer :=
  match (s.portStreams p).queue.find? (fun st => st.id == id) with
  | some st => (cutStream p st .aborted .cancelStream s, plain .ok)
  | none =>
    if (s.portStreams p).ended.any (fun st => st.id == id) then deny .wrongState s else deny .notFound s

/-- CANCEL_STREAM (R78). -/
def execCancelStream (f : Frame) (id : Nat) (s : State) : Host.Outcome State Fault Refusal :=
  .next (serveSettling allPorts f (cancelStream f.port id) s)

end Sys2Proof.Machine
end

