-- ==== Sys2Proof/Machine/Operating.lean ====
section
/-! DEFINITION. Operating control, notices and mailboxes (chapter 11): SET_OPERATING, RESUME_WRITES, TAKE_NOTICES, SET_NOTICE_MASK,
POST_MESSAGE, TAKE_MESSAGE. -/

namespace Sys2Proof.Machine

/-! ### SET_OPERATING and RESUME_WRITES (R172, R174) -/

/-- The settings a SET_OPERATING names, when all are in range (R172). -/
def requestedSettings (lowMark retentionDays retireLimit retireAction damageAction : Nat) : Option Settings :=
  match failSafeOf retireAction, failSafeOf damageAction with
  | some ra, some da =>
    if 16 ≤ lowMark ∧ lowMark ≤ 512 ∧ 90 ≤ retentionDays ∧ retentionDays ≤ 3650 ∧ 16 ≤ retireLimit ∧ retireLimit ≤ 1024 then
      some ⟨lowMark, retentionDays, retireLimit, ra, da⟩
    else none
  | _, _ => none

/-- The settings' octets (R172). -/
def settingsOctets (o : Settings) : List Octet :=
  be 2 o.lowMark ++ be 2 o.retentionDays ++ be 2 o.retireLimit ++ be 1 (failSafeCode o.retireAction)
    ++ be 1 (failSafeCode o.damageAction)

/-- SET_OPERATING's rule (R172): the retire comparison is made in the same event (R173). -/
def setOperating (lowMark retentionDays retireLimit retireAction damageAction : Nat) (s : State) : State × Answer :=
  match requestedSettings lowMark retentionDays retireLimit retireAction damageAction with
  | none => deny .badArgument s
  | some o => (judgeRetire { s with control.settings := o }, ⟨.ok, settingsOctets o⟩)

/-- SET_OPERATING (R172). -/
def execSetOperating (f : Frame) (lowMark retentionDays retireLimit retireAction damageAction : Nat) (s : State) :
    Host.Outcome State Fault Refusal :=
  .next (serveSettling deskOnly f (setOperating lowMark retentionDays retireLimit retireAction damageAction) s)

/-- RESUME_WRITES's rule (R174). -/
def resumeWrites (s : State) : State × Answer :=
  if s.control.mode ≠ .preserve then (s, plain .ok)
  else if s.retireCondition && s.control.settings.retireAction == .preserve then deny .wrongState s
  else (notifyAll .modeChanged allPorts { s with control.mode := .normal, control.cause := none }, plain .ok)

/-- RESUME_WRITES (R174). -/
def execResumeWrites (f : Frame) (s : State) : Host.Outcome State Fault Refusal :=
  .next (serveSettling deskOnly f resumeWrites s)

/-! ### TAKE_NOTICES and SET_NOTICE_MASK (R168, R169) -/

/-- The state with a port's pending set replaced. -/
def State.putPending (s : State) (p : Port) (n : NoticeSet) : State :=
  { s with notices := s.notices.set p { s.notices.get p with pending := n } }

/-- The state with a port's mask replaced. -/
def State.putMask (s : State) (p : Port) (n : NoticeSet) : State :=
  { s with notices := s.notices.set p { s.notices.get p with mask := n } }

/-- TAKE_NOTICES's rule (R169): the set is cleared, and each condition that holds is pending again (R168). -/
def takeNotices (p : Port) (s : State) : State × Answer :=
  (s.putPending p (s.standing p), ⟨.ok, noticeSetOctets (s.notices.get p).pending ++ [s.standingOctet p]⟩)

/-- TAKE_NOTICES (R169). -/
def execTakeNotices (f : Frame) (s : State) : Host.Outcome State Fault Refusal :=
  .next (serve allPorts f (takeNotices f.port) s)

/-- SET_NOTICE_MASK's rule (R169); bits that stand for no kind are not read (assumption 27). -/
def setNoticeMask (p : Port) (kinds : BitVec 16) (s : State) : State × Answer :=
  (s.putMask p (kinds.setWidth 13), ⟨.ok, noticeSetOctets (kinds.setWidth 13)⟩)

/-- SET_NOTICE_MASK (R169). -/
def execSetNoticeMask (f : Frame) (kinds : BitVec 16) (s : State) : Host.Outcome State Fault Refusal :=
  .next (serve allPorts f (setNoticeMask f.port kinds) s)

/-! ### POST_MESSAGE and TAKE_MESSAGE (R170, R171) -/

/-- A message is delivered to a port's mailbox (R170). -/
def deliver (m : Message) (p : Port) (s : State) : State :=
  notify .message p { s with mailboxes := s.mailboxes.set p (some m) }

/-- POST_MESSAGE's rule (R170). -/
def postMessage (p : Port) (targets : BitVec 8) (text : List Octet) (s : State) : State × Answer :=
  let ts := portsOf targets
  if ts.isEmpty || ts.contains p || text.isEmpty || decide (Config.maxText < text.length) then deny .badArgument s
  else if ts.any (fun t => (s.mailboxes.get t).isSome) then deny .mailboxFull s
  else (ts.foldl (fun s t => deliver ⟨p, text⟩ t s) s, plain .ok)

/-- POST_MESSAGE (R170). -/
def execPostMessage (f : Frame) (targets : BitVec 8) (text : List Octet) (s : State) : Host.Outcome State Fault Refusal :=
  .next (serve allPorts f (postMessage f.port targets text) s)

/-- TAKE_MESSAGE's rule (R171). -/
def takeMessage (p : Port) (s : State) : State × Answer :=
  match s.mailboxes.get p with
  | none => deny .empty s
  | some m =>
    ({ s with mailboxes := s.mailboxes.set p none }, ⟨.ok, be 1 (portCode m.sender) ++ be 1 m.text.length ++ m.text⟩)

/-- TAKE_MESSAGE (R171). -/
def execTakeMessage (f : Frame) (s : State) : Host.Outcome State Fault Refusal :=
  .next (serve allPorts f (takeMessage f.port) s)

end Sys2Proof.Machine
end

