-- ==== Sys2Proof/Machine/Reports.lean ====
section
/-! DEFINITION. IDENTIFY (R185) and STATUS (R186, with R23, R66, R83, R97, R113 and R152). -/

namespace Sys2Proof.Machine

/-! ### IDENTIFY (R185) -/

/-- A text given by its character codes, preceded by its length octet. -/
def textOctets (t : List Nat) : List Octet := be 1 t.length ++ t.map (BitVec.ofNat 8)

/-- The texts NORDHEM and RUGELLO AE3, the silicon revision, the geometry and the capacities, in the order of R185's table. The
texts are sent in ASCII, since the manual names no character code (assumption 47). -/
def identityOctets : List Octet :=
  textOctets [0x4E, 0x4F, 0x52, 0x44, 0x48, 0x45, 0x4D]
    ++ textOctets [0x52, 0x55, 0x47, 0x45, 0x4C, 0x4C, 0x4F, 0x20, 0x41, 0x45, 0x33]
    ++ be 1 3
    ++ [Config.stripes, Config.leavesPerStripe, Config.sheetOctets, Config.sheetTagOctets, Config.editions, Config.objects,
        Config.maxBody, Config.versionsPerObject, Config.extentsPerVersion, Config.placementsPerPage, Config.stagingLeaves,
        Config.descriptors, Config.descriptorsPerPort, Config.maxChunk, Config.waitingStreams, Config.streamIds, Config.passQueue,
        256, 1024, 32, Config.statementQueue, 1279, Config.maxPayload].flatMap (be 4)

/-- IDENTIFY's rule (R185). -/
def identify (s : State) : State × Answer := (s, ⟨.ok, identityOctets⟩)

/-- IDENTIFY (R185). -/
def execIdentify (f : Frame) (s : State) : Host.Outcome State Fault Refusal := .next (serveAlways f identify s)

/-! ### STATUS (R186; assumption 32) -/

/-- Operating (R175, R172). -/
def State.operatingOctets (s : State) : List Octet :=
  be 1 (modeCode s.control.mode) ++ optional (s.control.cause.map (fun c => be 1 (preserveCauseCode c)))
    ++ be 1 (startCauseCode s.control.startCause) ++ flag s.retireCondition ++ settingsOctets s.control.settings

/-- Clock (R165). -/
def State.clockOctets (s : State) : List Octet := stampOctets s.now ++ flag s.clock.confirmed ++ flag s.saturated

/-- The erase counts of the stripes not RETIRED; the unlisted stripes are as formatted (R23, R24). -/
def State.eraseCounts (s : State) : List Nat :=
  ((s.store.stripes.filter (fun e => e.2.state != .retired)).map (fun e => e.2.eraseCount))
    ++ (if s.store.stripes.length < Config.stripes then [Stripe.formatted.eraseCount] else [])

/-- The earliest program day among FULL stripes (R23). -/
def State.oldestProgramDay (s : State) : Option Nat :=
  ((s.store.stripes.filter (fun e => e.2.state == .full)).map (fun e => e.2.programDay)).min?

/-- A front's OPEN stripe and its written count (R23). -/
def State.frontOctets (s : State) (f : Front) : List Octet :=
  optional ((s.frontStripe f).map (fun e => be 2 e.1 ++ be 1 e.2.written))

/-- The stalled fronts as a set of names (R23). -/
def State.stalledOctets (s : State) : List Octet :=
  be 1 ((if s.isStalled .intake then 1 else 0) + (if s.isStalled .restore then 2 else 0)
    + (if s.isStalled .relocate then 4 else 0))

/-- Store (R23). -/
def State.storeOctets (s : State) : List Octet :=
  be 2 s.store.freeQueue.length ++ be 2 s.store.dirtyQueue.length ++ be 2 s.retiredTotal
    ++ optional (s.eraseCounts.min?.map (be 2)) ++ optional (s.eraseCounts.max?.map (be 2))
    ++ optional (s.oldestProgramDay.map (be 2)) ++ s.frontOctets .intake ++ s.frontOctets .restore ++ s.frontOctets .relocate
    ++ s.stalledOctets ++ flag s.store.guardAsserted

/-- A held descriptor (R66). -/
def State.descriptorOctets (s : State) (n : Nat) (d : Descriptor) : List Octet :=
  be 1 (portCode d.holder) ++ be 1 (descriptorStateCode d.state) ++ keyOctets d.key ++ be 4 d.length ++ be 4 d.next
    ++ be 1 d.staged.length ++ be 1 d.readyLeaves.length ++ be 2 d.programmed ++ be 1 (s.provisional n).length
    ++ flag (d.complete && !d.waits.isEmpty) ++ optional (if d.state = .dropped then some (be 1 1) else none)

/-- Intake (R66). The leaves of the run not yet written are sent as a counted list of their indices in the body, not as their number
(assumption 32). -/
def State.intakeOctets (s : State) : List Octet :=
  be 1 s.occupancy ++ flag (decide (Config.intakePromotion ≤ s.occupancy)) ++ flag s.intake.space.desk ++ flag s.intake.space.bench
    ++ (List.range 4).flatMap (fun n => optional ((s.descriptor n).map (s.descriptorOctets n)))
    ++ optional (s.intake.run.map (fun r => be 1 r.descriptor ++ listOf (be 2) r.leaves))

/-- Position of a stream's kind (R68). -/
def streamKindCode : StreamKind → Nat
  | .read => 1
  | .order _ => 2
  | .passSource => 3

/-- Position of a fetch's standing: none, PENDING or IN_FLIGHT (R68). -/
def fetchCode : Req → Nat
  | .none => 1
  | .pending => 2
  | .inFlight => 3

/-- The ACTIVE stream of a port (R83). -/
def activeOctets (st : Stream) : List Octet :=
  be 1 st.id ++ be 1 (streamKindCode st.kind) ++ keyOctets st.key ++ be 1 st.version ++ be 4 st.offset ++ be 4 st.size
    ++ be 4 st.position ++ be 4 st.delivered ++ be 1 (fetchCode st.fetch)

/-- Streams (R83). -/
def State.streamOctets (s : State) : List Octet :=
  allPorts.flatMap (fun p => optional ((s.active p).map activeOctets))
    ++ allPorts.flatMap (fun p => listOf (fun st => be 1 st.id ++ be 1 (streamKindCode st.kind)) (s.portStreams p).queue.tail)
    ++ allPorts.flatMap (fun p =>
        listOf (fun st => be 1 st.id ++ be 1 (statusCode (st.final.getD .ok))) (s.portStreams p).ended)
    ++ allPorts.flatMap (fun p => be 1 (Config.streamIds - (s.portStreams p).ids.length))
    ++ optional (s.streams.passSource.map (fun st => keyOctets st.key ++ be 1 st.version ++ be 4 st.position ++ be 4 st.length))
    ++ be 1 (portCode s.store.turn)

/-- Position of a round's cause (R84). -/
def roundCauseCode : RoundCause → Nat
  | .retire => 1
  | .reclaim => 2
  | .refresh => 3

/-- Position of a copy's step (R84). -/
def copyStepCode : CopyStep → Nat
  | .fetchLow => 1
  | .fetchHigh => 2
  | .program => 3

/-- Position of the engine's state: IDLE, COPYING or PAUSED (R84). -/
def engineCode : Option Round → Nat
  | none => 1
  | some r => match r.copy with
    | some _ => 2
    | none => 3

/-- A copy (R97). -/
def copyOctets (c : Copy) : List Octet :=
  keyOctets c.key ++ be 1 c.version ++ extentOctets c.source ++ optional (c.dest.map (fun d => be 2 d.1 ++ be 1 d.2))
    ++ be 1 c.copied ++ be 1 (copyStepCode c.step)

/-- The FULL stripes with live above 0 that hold an extent of a DAMAGED version (R97). -/
def State.unmovable (s : State) : Nat :=
  (s.store.stripes.filter (fun e => e.2.state == .full && decide (0 < e.2.live) && s.damagedStripes.contains e.1)).length

/-- The FULL stripes with retire-pending set (R97). -/
def State.pendingRetirement (s : State) : Nat :=
  (s.store.stripes.filter (fun e => e.2.state == .full && e.2.retirePending)).length

/-- Relocation (R97). -/
def State.relocationOctets (s : State) : List Octet :=
  be 1 (engineCode s.relocation.round)
    ++ optional (s.relocation.round.map (fun r =>
        be 2 r.victim ++ be 1 (roundCauseCode r.cause) ++ be 1 (s.stripe r.victim).live))
    ++ optional (s.copy.map copyOctets) ++ flag s.relocation.blocked ++ be 2 s.control.settings.lowMark
    ++ be 2 s.control.settings.retentionDays ++ be 2 s.unmovable ++ be 2 s.pendingRetirement

/-- The active pass (R113). -/
def State.activePassOctets (s : State) (p : Pass) : List Octet :=
  be 1 p.id ++ keyOctets p.key ++ optional (p.bound.map (fun b => be 1 b.version)) ++ be 1 (passModeCode p.mode)
    ++ be 1 (passPhaseCode p.phase) ++ flag (s.isStalled .restore) ++ optional (p.newNumber.map (be 1)) ++ be 2 p.written
    ++ be 1 s.passes.output.length

/-- Passes (R113). -/
def State.passOctets (s : State) : List Octet :=
  optional (s.passes.active.map s.activePassOctets) ++ listOf (fun p => be 1 p.id ++ keyOctets p.key) s.passes.queue
    ++ be 1 (histogramStateCode s.passes.histogram.state) ++ optional (s.passes.histogram.pass.map (be 1))
    ++ be 1 (passOutcomeCode s.passes.result.outcome)

/-- Billing, in the order of R152's sentence on STATUS, which puts the sequence counter last; R186 speaks of the order of the rule's table, where
it stands sixth and the latch and the queue do not (assumption 32). -/
def State.billingOctets (s : State) : List Octet :=
  let b := s.billing
  be 2 b.period ++ stampOctets b.start ++ be 2 b.length ++ be 2 b.countdown ++ flag b.extended ++ be 2 b.latch.length
    ++ be 2 b.queue.length ++ be 4 b.sequence

/-- Notices and mailboxes, for the requesting port (R186). -/
def State.noticeOctets (s : State) (p : Port) : List Octet :=
  noticeSetOctets (s.notices.get p).pending ++ noticeSetOctets (s.notices.get p).mask ++ [s.standingOctet p]
    ++ allPorts.flatMap (fun q => flag (s.mailboxes.get q).isSome)

/-- STATUS's rule (R186). -/
def statusReport (p : Port) (s : State) : State × Answer :=
  (s, ⟨.ok, s.operatingOctets ++ s.clockOctets ++ s.storeOctets ++ s.intakeOctets ++ s.streamOctets ++ s.relocationOctets
    ++ s.passOctets ++ s.billingOctets ++ s.noticeOctets p⟩)

/-- STATUS (R186). -/
def execStatus (f : Frame) (s : State) : Host.Outcome State Fault Refusal := .next (serveAlways f (statusReport f.port) s)

end Sys2Proof.Machine
end

