-- ==== Sys2Proof/Machine/Restoration.lean ====
section
/-! DEFINITION. The requests of chapter 6: SUBMIT_PASS, CANCEL_PASS, PASS_RESULT, TAKE_SURVEY. -/

namespace Sys2Proof.Machine

/-! ### SUBMIT_PASS (R99, R100) -/

/-- The first check of R100: the mode, when every argument is in range. -/
def passArguments (source : Source) (mode stride low high k p : Nat) : Option PassMode :=
  let sourceOk := match source with
    | .number n => decide (n ≤ 255)
    | .best => true
  let common := decide (stride ∈ [1, 4, 16, 64]) && decide (low ≤ 100) && decide (high ≤ 100) && sourceOk
  match passModeOf mode with
  | none => none
  | some .survey => if common then some .survey else none
  | some .manual => if common && decide (p ≤ 255) && decide (k + Config.minSpan ≤ p) then some .manual else none

/-- The ids of the passes that exist (R99). -/
def State.passIds (s : State) : List Nat :=
  s.passes.queue.map (·.id) ++ (match s.passes.active with | some p => [p.id] | none => [])

/-- The first id from the counter's value upward, wrapping, that no pass holds (R99). -/
def State.nextPassId (s : State) : Nat :=
  (((List.range 256).map (fun i => (s.passes.nextId + i) % 256)).find? (fun i => !s.passIds.contains i)).getD s.passes.nextId

/-- The record SUBMIT_PASS makes (R98, R100). -/
def submittedPass (id : Nat) (key : Key) (source : Source) (mode : PassMode) (stride low high k p : Nat) : Pass :=
  { id := id, key := key, source := source, bound := none, mode := mode, stride := stride, low := low, high := high,
    profile := (match mode with | .manual => some (k, p) | .survey => none), phase := .queued, newNumber := none, leaf := [],
    written := 0, register := crc32Start, request := .none }

/-- SUBMIT_PASS's rule (R100); a pass that finds none active starts in the same event (R99), as the blocks settle. -/
def submitPass (w : WireKey) (source : Source) (mode stride low high k p : Nat) (s : State) : State × Answer :=
  match passArguments source mode stride low high k p with
  | none => deny .badArgument s
  | some m => match s.passChecks w source with
    | .error c => deny (passCauseStatus c) s
    | .ok (o, _) =>
      if s.control.mode = .preserve then deny .preserve s
      else if Config.passQueue ≤ s.passes.queue.length then deny .queueFull s
      else
        let id := s.nextPassId
        let pass := submittedPass id o.key source m stride low high k p
        ({ s with passes.queue := s.passes.queue ++ [pass], passes.nextId := (id + 1) % 256 },
          ⟨.accepted, be 1 id ++ be 1 s.passes.queue.length⟩)

/-- SUBMIT_PASS (R100). -/
def execSubmitPass (f : Frame) (w : WireKey) (source : Source) (mode stride low high k p : Nat) (s : State) :
    Host.Outcome State Fault Refusal :=
  .next (serveSettling benchOnly f (submitPass w source mode stride low high k p) s)

/-! ### CANCEL_PASS (R109) -/

/-- CANCEL_PASS's rule (R109). -/
def cancelPass (id : Nat) (s : State) : State × Answer :=
  if s.passIds.contains id then (abortPasses (fun q => q.id == id) .cancelled s, plain .ok) else deny .notFound s

/-- CANCEL_PASS (R109). -/
def execCancelPass (f : Frame) (id : Nat) (s : State) : Host.Outcome State Fault Refusal :=
  .next (serveSettling benchOnly f (cancelPass id) s)

/-! ### PASS_RESULT and TAKE_SURVEY (R112, R113) -/

/-- PASS_RESULT's rule (R112). -/
def passResult (s : State) : State × Answer := (s, ⟨.ok, passResultOctets s.passes.result⟩)

/-- PASS_RESULT (R112). -/
def execPassResult (f : Frame) (s : State) : Host.Outcome State Fault Refusal := .next (serve benchOnly f passResult s)

/-- The histogram's figures (R113; assumption 39). -/
def histogramOctets (h : Histogram) : List Octet :=
  be 1 (histogramStateCode h.state) ++ optional (h.pass.map (be 1)) ++ be 4 h.samples ++ flag h.overflow ++ h.bins.flatMap (be 3)

/-- TAKE_SURVEY's rule (R113). -/
def takeSurvey (s : State) : State × Answer := (s, ⟨.ok, histogramOctets s.passes.histogram⟩)

/-- TAKE_SURVEY (R113). -/
def execTakeSurvey (f : Frame) (s : State) : Host.Outcome State Fault Refusal := .next (serve benchOnly f takeSurvey s)

end Sys2Proof.Machine
end

