-- ==== Sys2Proof/Machine/StoreEvents.lean ====
section
/-! DEFINITION. The completions of the store's operations (R3, R4, R11, R16, R17) and the store guard line (R21). -/

namespace Sys2Proof.Machine

/-! ### SHEET_FETCH_COMPLETE (R3) -/

/-- The operation on a wing and the state with that wing idle. -/
def takeFetch (w : Wing) (s : State) : Option (FetchOp × State) :=
  match s.store.wings, w with
  | .split (some op) b, .low => some (op, { s with store.wings := .split none b })
  | .split a (some op), .high => some (op, { s with store.wings := .split a none })
  | _, _ => none

/-- The body sheet that a fetch of a leaf on a wing brings (R72). -/
def bodySheet (leaf : Nat) (w : Wing) : Nat := 2 * leaf + (match w with | .low => 0 | .high => 1)

/-- The end of the active pass's work when its source is DAMAGED (R110). -/
def passSourceDamaged (s : State) : State :=
  match s.passes.active with
  | some p => endActive p .damaged none s
  | none => endPassSource s

/-- A requester receives a SOUND sheet (R73, R91). -/
def soundFetch (op : FetchOp) (w : Wing) (body : List Octet) (s : State) : State :=
  match op.owner with
  | .ceased => s
  | .stream p => mapActive p (takeSheet (bodySheet op.leaf w) body) s
  | .passSource => { s with streams.passSource := s.streams.passSource.map (takeSheet (bodySheet op.leaf w) body) }
  | .relocation => copyFetched w body s

/-- A requester receives the verdict DAMAGED: it reports to the catalog and ends its work (R40, R77, R93, R110). -/
def damagedFetch (op : FetchOp) (s : State) : State :=
  match op.owner with
  | .ceased => s
  | .stream p => match s.active p with
    | none => s
    | some st => reportDamage st.key st.version st.serial (cutStream p st .damaged .damaged) s
  | .passSource => match s.streams.passSource with
    | none => s
    | some st => reportDamage st.key st.version st.serial passSourceDamaged s
  | .relocation => match s.copy with
    | none => s
    | some c => reportDamage c.key c.version c.serial (fun s => s.putRound none) s

/-- A fetch completes with the sheet the flash delivers (R3). -/
def fetchDone (w : Wing) (delivered : Option Sheet) (op : FetchOp) (s : State) : State :=
  let sheet := delivered.getD (s.sheetAt op.stripe op.place w)
  if sound op.key op.version op.leaf w sheet then soundFetch op w sheet.body s else damagedFetch op s

/-- SHEET_FETCH_COMPLETE (R3; assumption 36). -/
def execSheetFetchComplete (w : Wing) (delivered : Option Sheet) (s : State) : Host.Outcome State Fault Refusal :=
  .next (match takeFetch w s with
    | none => s
    | some (op, s) => conclude (fetchDone w delivered op s))

/-! ### LEAF_PROGRAM_WRITTEN and LEAF_PROGRAM_FAILED (R16, R17) -/

/-- The program in flight and the state with both wings idle and the program-in-flight mark cleared. -/
def takeProgram (s : State) : Option (ProgramOp × State) :=
  match s.store.wings with
  | .both (.program op) => some (op, { s with store.wings := .split none none, store.mark := none })
  | _ => none

/-- A stripe's record after a program WRITTEN (R16). -/
def writtenStripe (r : Stripe) : Stripe :=
  { r with written := r.written + 1, state := if r.written + 1 = Config.leavesPerStripe then .full else r.state }

/-- A stripe's record after a program FAILED (R17). -/
def failedStripe (r : Stripe) : Stripe := { r with written := r.written + 1, state := .full, retirePending := true }

/-- The feeder records a written leaf (R59, R91, R105). -/
def feedWritten (op : ProgramOp) (s : State) : State :=
  if op.ceased then s
  else match op.front with
    | .intake => intakeWritten op s
    | .restore => passWritten op s
    | .relocate => copyWritten s

/-- The feeder learns of a failed program (R59, R94, R105). -/
def feedFailed (op : ProgramOp) (s : State) : State :=
  if op.ceased then s
  else match op.front with
    | .intake => intakeFailed s
    | .restore => passFailed s
    | .relocate => copyFailed s

/-- A program completes WRITTEN (R16). -/
def programWritten (op : ProgramOp) (s : State) : State := feedWritten op ((writeLeaf op s).mapStripe op.stripe writtenStripe)

/-- A program completes FAILED (R17). -/
def programFailed (op : ProgramOp) (s : State) : State :=
  feedFailed op ((loseLeaf op.stripe op.place s).mapStripe op.stripe failedStripe)

/-- LEAF_PROGRAM_WRITTEN (R16). -/
def execLeafProgramWritten (s : State) : Host.Outcome State Fault Refusal :=
  .next (match takeProgram s with
    | none => s
    | some (op, s) => conclude (programWritten op s))

/-- LEAF_PROGRAM_FAILED (R17). -/
def execLeafProgramFailed (s : State) : Host.Outcome State Fault Refusal :=
  .next (match takeProgram s with
    | none => s
    | some (op, s) => conclude (programFailed op s))

/-! ### STRIPE_ERASE_COMPLETE (R11) -/

/-- The stripe being erased and the state with both wings idle and the stripe out of the dirty queue. -/
def takeErase (s : State) : Option (Nat × State) :=
  match s.store.wings with
  | .both (.erase n) =>
    some (n, { s with store.wings := .split none none, store.dirtyQueue := s.store.dirtyQueue.erase n })
  | _ => none

/-- A stripe's record after an erase ERASED (R11). -/
def erasedStripe (r : Stripe) : Stripe :=
  { r with state := .free, written := 0, live := 0, eraseCount := r.eraseCount + 1, retirePending := false }

/-- An erase completes ERASED (R11, R15). -/
def eraseDone (n : Nat) (s : State) : State :=
  let s := (eraseLeaves n s).mapStripe n erasedStripe
  examineStalled { s with store.freeQueue := s.store.freeQueue ++ [n] }

/-- An erase completes FAILED (R11). -/
def eraseFailed (n : Nat) (s : State) : State := retireStripe n (loseStripe n s)

/-- STRIPE_ERASE_COMPLETE (R11). -/
def execStripeEraseComplete (erased : Bool) (s : State) : Host.Outcome State Fault Refusal :=
  .next (match takeErase s with
    | none => s
    | some (n, s) => conclude (if erased then eraseDone n s else eraseFailed n s))

/-! ### The store guard line (R21) -/

/-- The level of the store guard line; the blocks follow it while the part works (R21, R95; assumption 22). -/
def guardLine (level : Bool) (s : State) : State :=
  let s := { s with store.guardAsserted := level }
  if s.working then conclude s else s

/-- STORE_GUARD_ASSERTED (R21). -/
def execStoreGuardAsserted (s : State) : Host.Outcome State Fault Refusal := .next (guardLine true s)

/-- STORE_GUARD_RELEASED (R21). -/
def execStoreGuardReleased (s : State) : Host.Outcome State Fault Refusal := .next (guardLine false s)

end Sys2Proof.Machine
end

