-- ==== Sys2Proof/Machine/Supply.lean ====
section
/-! DEFINITION. Power, the reset line and start-up (R24, R25, R46, R65, R113, R164, R165, R175, R184). -/

namespace Sys2Proof.Machine

/-! ### Power loss and the reset line (R184) -/

/-- The flash after an operation in flight is cut off (assumption 5). -/
def cutOperation (s : State) : State :=
  match s.store.wings with
  | .both (.program op) => loseLeaf op.stripe op.place s
  | .both (.erase n) => loseStripe n s
  | .split _ _ => s

/-- Every reader count becomes 0 (R5, R25). -/
def clearReaders (t : Table Stripe) : Table Stripe := tmapD Stripe.formatted (fun r => { r with readers := 0 }) t

/-- What power loss and the reset line leave: the retentive state, and every volatile field as its rule gives. The program-in-flight
mark, the provisional records and the pass output record stand for start-up (R5, R65, R106). -/
def loseVolatile (s : State) : State :=
  let s := cutOperation s
  { s with
    store.stripes := clearReaders s.store.stripes, store.stalled := [], store.wings := .split none none, store.held := none,
    store.turn := .counter, store.eraseRequested := false,
    intake := { Intake.reset with provisional := s.intake.provisional },
    streams := .reset,
    relocation := .reset,
    passes := { Passes.reset with output := s.passes.output },
    clock := { day := s.clock.day, tick := 0, confirmed := false },
    notices := ⟨.reset, .reset, .reset⟩,
    mailboxes := ⟨none, none, none⟩,
    links := ⟨.reset, .reset, .reset⟩,
    control.mode := .start, control.cause := none }

/-- POWER_LOSS (R184). -/
def execPowerLoss (s : State) : Host.Outcome State Fault Refusal :=
  .next (if s.control.powered then { loseVolatile s with control.powered := false } else s)

/-- RESET_LINE_ASSERTED (R175, R184; assumption 23). -/
def execResetLineAsserted (s : State) : Host.Outcome State Fault Refusal :=
  .next (if s.control.resetLine then s else { loseVolatile s with control.resetLine := true })

/-! ### The beginning of start-up (R175) -/

/-- Start-up begins with its cause. -/
def startUp (cause : StartCause) (s : State) : State := { s with control.mode := .start, control.startCause := cause }

/-- POWER_APPLIED (R175; assumption 23). -/
def execPowerApplied (s : State) : Host.Outcome State Fault Refusal :=
  .next (if s.control.powered then s
    else
      let s := { s with control.powered := true }
      if s.control.resetLine then s else startUp .power s)

/-- RESET_LINE_RELEASED (R175; assumption 23). -/
def execResetLineReleased (s : State) : Host.Outcome State Fault Refusal :=
  .next (if s.control.resetLine then
      let s := { s with control.resetLine := false }
      if s.control.powered then startUp .resetLine s else s
    else s)

/-! ### Format (R24, R175 step 1) -/

/-- Format: every table, queue, setting and counter takes its format value, and the format mark is written. The level of the
guard line, the links and what the flash holds are no table of the catalog memory and stay. -/
def format (s : State) : State :=
  { s with
    store := { Store.reset with
      dirtyQueue := List.range Config.stripes, flash := s.store.flash, lost := s.store.lost,
      guardAsserted := s.store.guardAsserted },
    catalog := { editions := [], objects := [], serial := 0 },
    intake := .reset, streams := .reset, relocation := .reset, passes := .reset, ledger := .reset, billing := .reset,
    notices := ⟨.reset, .reset, .reset⟩, mailboxes := ⟨none, none, none⟩,
    clock.day := 0,
    control.settings := .reset, control.startCause := .format, control.formatted := true }

/-! ### Recovery (R25, R46, R65, R113, R175 step 2) -/

/-- A stripe's record at start-up: OPEN becomes FULL, and no reader counts (R25). -/
def recoveredStripe (r : Stripe) : Stripe :=
  { r with state := (match r.state with | .opened _ => .full | x => x), readers := 0 }

/-- The store is recovered (R25). -/
def recoverStore (s : State) : State :=
  let s := { s with store.stripes := tmapD Stripe.formatted recoveredStripe s.store.stripes }
  match s.store.mark with
  | none => s
  | some (n, _) => { s.mapStripe n (fun r => { r with written := r.written + 1 }) with store.mark := none }

/-- An edition is recovered (R46). -/
def recoverEdition (h : Nat) (e : Edition) (s : State) : State :=
  match e.state with
  | .closing => if e.outstanding = 0 then publish h s else returnToOpen h s
  | _ => s

/-- The catalog is recovered (R46). -/
def recoverCatalog (s : State) : State := s.catalog.editions.foldl (fun s e => recoverEdition e.1 e.2 s) s

/-- Intake's provisional records and the pass output record are recovered (R65, R113). -/
def recoverOutputs (s : State) : State :=
  let s := s.intake.provisional.foldl (fun s e => extentsDie e.2 s) s
  let s := extentsDie s.passes.output s
  { s with intake.provisional := [], passes.output := [] }

/-- Held becomes 0 on every account (R114). -/
def clearHeld (s : State) : State :=
  { s with ledger.accounts := tmapD Account.formatted (fun a => { a with held := 0 }) s.ledger.accounts }

/-- Recovery (R175 step 2): the FULL stripes left with live 0 leave FULL at its end (R8). -/
def recover (s : State) : State :=
  leaveFull s.store.dirtyQueue.length (clearHeld (recoverOutputs (recoverCatalog (recoverStore s))))

/-! ### The end of start-up (R175 steps 4 and 5) -/

/-- The retire condition is judged and the mode leaves START (R175 step 5). -/
def leaveStart (s : State) : State :=
  let worn := s.retireCondition && s.control.settings.retireAction == .preserve
  notifyAll .modeChanged allPorts
    { s with
      control.mode := (if worn then .preserve else .normal), control.cause := (if worn then some .retire else none) }

/-- The clock keeps its day, with tick 0 and unconfirmed (R165, R175 step 3). It is so while the catalog is recovered too, which publishes
at the recorded day with tick 0 (R46; assumption 40). -/
def restartClock (s : State) : State := { s with clock := ⟨s.clock.day, 0, false⟩ }

/-- Start-up's steps 1 to 3 (R175): a formatted part recovers, another is formatted. -/
def recoverOrFormat (s : State) : State :=
  if s.control.formatted then recover (restartClock s) else format (restartClock s)

/-- START_UP_END (R175). -/
def execStartUpEnd (s : State) : Host.Outcome State Fault Refusal :=
  .next (if s.running && s.control.mode == .start then conclude (leaveStart (holdConditions (recoverOrFormat s))) else s)

end Sys2Proof.Machine
end

