-- ==== Sys2Proof/Machine/Dispatch.lean ====
section
/-! DEFINITION. One arm per command: the direct call of its meaning. -/

namespace Sys2Proof.Machine

/-- A command's effect on everything but the queue. -/
def exec (i : Instr) (s : State) : Host.Outcome State Fault Refusal :=
  match i with
  | .openEdition f date number => Sys2Proof.Machine.execOpenEdition f date number s
  | .beginObject f h kind number length rights contributor format placements => Sys2Proof.Machine.execBeginObject f h kind number length rights contributor format placements s
  | .putChunk f n offset data => Sys2Proof.Machine.execPutChunk f n offset data s
  | .endObject f n check => Sys2Proof.Machine.execEndObject f n check s
  | .dropObject f n => Sys2Proof.Machine.execDropObject f n s
  | .closeEdition f h release => Sys2Proof.Machine.execCloseEdition f h release s
  | .abandonEdition f h => Sys2Proof.Machine.execAbandonEdition f h s
  | .read f key version offset length => Sys2Proof.Machine.execRead f key version offset length s
  | .withdrawEdition f h => Sys2Proof.Machine.execWithdrawEdition f h s
  | .reinstateEdition f h => Sys2Proof.Machine.execReinstateEdition f h s
  | .purgeEdition f h => Sys2Proof.Machine.execPurgeEdition f h s
  | .registerContributor f id => Sys2Proof.Machine.execRegisterContributor f id s
  | .setContributorState f id state => Sys2Proof.Machine.execSetContributorState f id state s
  | .setClock f day tick => Sys2Proof.Machine.execSetClock f day tick s
  | .setOperating f lowMark retentionDays retireLimit retireAction damageAction => Sys2Proof.Machine.execSetOperating f lowMark retentionDays retireLimit retireAction damageAction s
  | .resumeWrites f => Sys2Proof.Machine.execResumeWrites f s
  | .submitPass f key source mode stride low high k p => Sys2Proof.Machine.execSubmitPass f key source mode stride low high k p s
  | .cancelPass f id => Sys2Proof.Machine.execCancelPass f id s
  | .passResult f => Sys2Proof.Machine.execPassResult f s
  | .takeSurvey f => Sys2Proof.Machine.execTakeSurvey f s
  | .discardVersion f key version => Sys2Proof.Machine.execDiscardVersion f key version s
  | .openAccount f id tariffClass limit => Sys2Proof.Machine.execOpenAccount f id tariffClass limit s
  | .setAccount f id tariffClass limit => Sys2Proof.Machine.execSetAccount f id tariffClass limit s
  | .creditAccount f id amount => Sys2Proof.Machine.execCreditAccount f id amount s
  | .suspendAccount f id => Sys2Proof.Machine.execSuspendAccount f id s
  | .reinstateAccount f id => Sys2Proof.Machine.execReinstateAccount f id s
  | .closeAccount f id => Sys2Proof.Machine.execCloseAccount f id s
  | .findAccount f id => Sys2Proof.Machine.execFindAccount f id s
  | .setShare f id share => Sys2Proof.Machine.execSetShare f id share s
  | .setTariff f kind usage tariffClass action base copyUnit minimum => Sys2Proof.Machine.execSetTariff f kind usage tariffClass action base copyUnit minimum s
  | .setTariffGlobals f m0 m1 m2 m3 r p => Sys2Proof.Machine.execSetTariffGlobals f m0 m1 m2 m3 r p s
  | .setPeriodLength f days => Sys2Proof.Machine.execSetPeriodLength f days s
  | .quote f account key usage copies => Sys2Proof.Machine.execQuote f account key usage copies s
  | .order f account key usage copies => Sys2Proof.Machine.execOrder f account key usage copies s
  | .closePeriod f => Sys2Proof.Machine.execClosePeriod f s
  | .takeStatements f => Sys2Proof.Machine.execTakeStatements f s
  | .releaseStatements f sequence => Sys2Proof.Machine.execReleaseStatements f sequence s
  | .findEdition f name => Sys2Proof.Machine.execFindEdition f name s
  | .findObject f key => Sys2Proof.Machine.execFindObject f key s
  | .cancelStream f id => Sys2Proof.Machine.execCancelStream f id s
  | .status f => Sys2Proof.Machine.execStatus f s
  | .identify f => Sys2Proof.Machine.execIdentify f s
  | .takeNotices f => Sys2Proof.Machine.execTakeNotices f s
  | .setNoticeMask f kinds => Sys2Proof.Machine.execSetNoticeMask f kinds s
  | .postMessage f targets text => Sys2Proof.Machine.execPostMessage f targets text s
  | .takeMessage f => Sys2Proof.Machine.execTakeMessage f s
  | .unknownRequest p tag code => Sys2Proof.Machine.execUnknownRequest p tag code s
  | .badFrame p tag => Sys2Proof.Machine.execBadFrame p tag s
  | .busy p tag malformed => Sys2Proof.Machine.execBusy p tag malformed s
  | .replySent p => Sys2Proof.Machine.execReplySent p s
  | .dataFrameSent p => Sys2Proof.Machine.execDataFrameSent p s
  | .endFrameSent p => Sys2Proof.Machine.execEndFrameSent p s
  | .sheetFetchComplete wing delivered => Sys2Proof.Machine.execSheetFetchComplete wing delivered s
  | .leafProgramWritten => Sys2Proof.Machine.execLeafProgramWritten s
  | .leafProgramFailed => Sys2Proof.Machine.execLeafProgramFailed s
  | .stripeEraseComplete erased => Sys2Proof.Machine.execStripeEraseComplete erased s
  | .dayMark => Sys2Proof.Machine.execDayMark s
  | .tick => Sys2Proof.Machine.execTick s
  | .clockSaturated => Sys2Proof.Machine.execClockSaturated s
  | .countdownExpiry => Sys2Proof.Machine.execCountdownExpiry s
  | .storeGuardAsserted => Sys2Proof.Machine.execStoreGuardAsserted s
  | .storeGuardReleased => Sys2Proof.Machine.execStoreGuardReleased s
  | .linkReset p => Sys2Proof.Machine.execLinkReset p s
  | .breakEnd p => Sys2Proof.Machine.execBreakEnd p s
  | .powerLoss => Sys2Proof.Machine.execPowerLoss s
  | .resetLineAsserted => Sys2Proof.Machine.execResetLineAsserted s
  | .powerApplied => Sys2Proof.Machine.execPowerApplied s
  | .resetLineReleased => Sys2Proof.Machine.execResetLineReleased s
  | .startUpEnd => Sys2Proof.Machine.execStartUpEnd s
  | .statementMove => Sys2Proof.Machine.execStatementMove s

end Sys2Proof.Machine
end

