-- ==== Sys2Proof/WellFormed.lean ====
section
/-! DEFINITION. Which terms of `Instr` stand for something that can arrive: the operands of a request are numbers its fields can carry in
the octets R180 gives them, lists and texts are as long as a frame admits (R176), and an event's operands are ones the event can have.
Whether a field is in the range its rule asks for is a check of the rule, not of this file. -/

namespace Sys2Proof

/-- Whether a number fits in `n` octets. -/
def fitsIn (n v : Nat) : Bool := decide (v < 256 ^ n)

/-- An object key's fields fit (R180). -/
def WireKey.wf (k : WireKey) : Bool := fitsIn 2 k.handle && fitsIn 1 k.kind && fitsIn 2 k.number

/-- A version named by number fits in its octet (R180). -/
def Source.wf : Source → Bool
  | .number n => fitsIn 1 n
  | .best => true

/-- A stamp's fields fit (R180). -/
def Stamp.wf (t : Stamp) : Bool := fitsIn 2 t.day && fitsIn 3 t.tick

/-- An edition's name fits (R44, R180). -/
def EditionName.wf : EditionName → Bool
  | .handle h => fitsIn 2 h
  | .key date number => fitsIn 2 date && fitsIn 1 number

/-- A delivered sheet has the body octets and the tag octets of a sheet (R1; assumption 42). -/
def Sheet.wf (x : Sheet) : Bool :=
  decide (x.body.length = Config.sheetOctets) && decide (x.beyond.length = Config.sheetTagOctets - Config.tagRecordOctets)

/-- Whether a command is one that can arrive. -/
def Instr.wf : Instr → Bool
  | .openEdition _ date number => fitsIn 2 date && fitsIn 1 number
  | .beginObject _ h kind number length rights contributor format placements =>
    fitsIn 2 h && fitsIn 1 kind && fitsIn 2 number && fitsIn 4 length && fitsIn 1 rights && fitsIn 2 contributor && fitsIn 1 format
      && fitsIn 1 placements.length && placements.all WireKey.wf
  | .putChunk _ n offset data => fitsIn 1 n && fitsIn 4 offset && decide (data.length + 7 ≤ Config.maxPayload)
  | .endObject _ n _ => fitsIn 1 n
  | .dropObject _ n => fitsIn 1 n
  | .closeEdition _ h release => fitsIn 2 h && release.wf
  | .abandonEdition _ h => fitsIn 2 h
  | .read _ key version offset length => key.wf && version.wf && fitsIn 4 offset && fitsIn 4 length
  | .withdrawEdition _ h => fitsIn 2 h
  | .reinstateEdition _ h => fitsIn 2 h
  | .purgeEdition _ h => fitsIn 2 h
  | .registerContributor _ id => fitsIn 2 id
  | .setContributorState _ id state => fitsIn 2 id && fitsIn 1 state
  | .setClock _ day t => fitsIn 2 day && fitsIn 3 t
  | .setOperating _ lowMark retentionDays retireLimit retireAction damageAction =>
    fitsIn 2 lowMark && fitsIn 2 retentionDays && fitsIn 2 retireLimit && fitsIn 1 retireAction && fitsIn 1 damageAction
  | .resumeWrites _ => true
  | .submitPass _ key source mode stride low high k p =>
    key.wf && source.wf && fitsIn 1 mode && fitsIn 1 stride && fitsIn 1 low && fitsIn 1 high && fitsIn 1 k && fitsIn 1 p
  | .cancelPass _ id => fitsIn 1 id
  | .passResult _ => true
  | .takeSurvey _ => true
  | .discardVersion _ key version => key.wf && fitsIn 1 version
  | .openAccount _ id tariffClass limit => fitsIn 1 id && fitsIn 1 tariffClass && fitsIn 5 limit
  | .setAccount _ id tariffClass limit => fitsIn 1 id && fitsIn 1 tariffClass && fitsIn 5 limit
  | .creditAccount _ id amount => fitsIn 1 id && fitsIn 5 amount
  | .suspendAccount _ id => fitsIn 1 id
  | .reinstateAccount _ id => fitsIn 1 id
  | .closeAccount _ id => fitsIn 1 id
  | .findAccount _ id => fitsIn 1 id
  | .setShare _ id share => fitsIn 2 id && fitsIn 2 share
  | .setTariff _ kind usage tariffClass action base copyUnit minimum =>
    fitsIn 1 kind && fitsIn 1 usage && fitsIn 1 tariffClass && fitsIn 1 action && fitsIn 3 base && fitsIn 2 copyUnit
      && fitsIn 3 minimum
  | .setTariffGlobals _ m0 m1 m2 m3 r p => fitsIn 2 m0 && fitsIn 2 m1 && fitsIn 2 m2 && fitsIn 2 m3 && fitsIn 3 r && fitsIn 2 p
  | .setPeriodLength _ days => fitsIn 2 days
  | .quote _ account key usage copies => fitsIn 1 account && key.wf && fitsIn 1 usage && fitsIn 2 copies
  | .order _ account key usage copies => fitsIn 1 account && key.wf && fitsIn 1 usage && fitsIn 2 copies
  | .closePeriod _ => true
  | .takeStatements _ => true
  | .releaseStatements _ sequence => fitsIn 4 sequence
  | .findEdition _ name => name.wf
  | .findObject _ key => key.wf
  | .cancelStream _ id => fitsIn 1 id
  | .status _ => true
  | .identify _ => true
  | .takeNotices _ => true
  | .setNoticeMask _ _ => true
  | .postMessage _ _ text => fitsIn 1 text.length
  | .takeMessage _ => true
  | .unknownRequest _ _ code => decide (code.toNat = 0) || decide (0x2E < code.toNat)
  | .badFrame _ _ => true
  | .busy _ _ _ => true
  | .replySent _ => true
  | .dataFrameSent _ => true
  | .endFrameSent _ => true
  | .sheetFetchComplete _ delivered => (delivered.map Sheet.wf).getD true
  | .leafProgramWritten => true
  | .leafProgramFailed => true
  | .stripeEraseComplete _ => true
  | .dayMark => true
  | .tick => true
  | .clockSaturated => true
  | .countdownExpiry => true
  | .storeGuardAsserted => true
  | .storeGuardReleased => true
  | .linkReset _ => true
  | .breakEnd _ => true
  | .powerLoss => true
  | .resetLineAsserted => true
  | .powerApplied => true
  | .resetLineReleased => true
  | .startUpEnd => true
  | .statementMove => true

end Sys2Proof
end

