-- ==== Sys2Proof/Machine/Receive.lean ====
section
/-! DEFINITION. The receive side of a link (R176, R178, R180): the octets of a frame, the codes of the requests, the fields of each
request's payload, and the command that an arriving frame is. The commands' sender applies them to the state (`hear`);
no command of the table is a single octet (assumption 31). -/

namespace Sys2Proof.Machine

/-! ### Codes (R178) -/

/-- The code of a request, and 0 for a command that is no request (R178: 0x00 is unassigned). -/
def requestCodeOf : Instr → Nat
  | .openEdition _ _ _ => 0x01
  | .beginObject _ _ _ _ _ _ _ _ _ => 0x02
  | .putChunk _ _ _ _ => 0x03
  | .endObject _ _ _ => 0x04
  | .dropObject _ _ => 0x05
  | .closeEdition _ _ _ => 0x06
  | .abandonEdition _ _ => 0x07
  | .read _ _ _ _ _ => 0x08
  | .withdrawEdition _ _ => 0x09
  | .reinstateEdition _ _ => 0x0A
  | .purgeEdition _ _ => 0x0B
  | .registerContributor _ _ => 0x0C
  | .setContributorState _ _ _ => 0x0D
  | .setClock _ _ _ => 0x0E
  | .setOperating _ _ _ _ _ _ => 0x0F
  | .resumeWrites _ => 0x10
  | .submitPass _ _ _ _ _ _ _ _ _ => 0x11
  | .cancelPass _ _ => 0x12
  | .passResult _ => 0x13
  | .takeSurvey _ => 0x14
  | .discardVersion _ _ _ => 0x15
  | .openAccount _ _ _ _ => 0x16
  | .setAccount _ _ _ _ => 0x17
  | .creditAccount _ _ _ => 0x18
  | .suspendAccount _ _ => 0x19
  | .reinstateAccount _ _ => 0x1A
  | .closeAccount _ _ => 0x1B
  | .findAccount _ _ => 0x1C
  | .setShare _ _ _ => 0x1D
  | .setTariff _ _ _ _ _ _ _ _ => 0x1E
  | .setTariffGlobals _ _ _ _ _ _ _ => 0x1F
  | .setPeriodLength _ _ => 0x20
  | .quote _ _ _ _ _ => 0x21
  | .order _ _ _ _ _ => 0x22
  | .closePeriod _ => 0x23
  | .takeStatements _ => 0x24
  | .releaseStatements _ _ => 0x25
  | .findEdition _ _ => 0x26
  | .findObject _ _ => 0x27
  | .cancelStream _ _ => 0x28
  | .status _ => 0x29
  | .identify _ => 0x2A
  | .takeNotices _ => 0x2B
  | .setNoticeMask _ _ => 0x2C
  | .postMessage _ _ _ => 0x2D
  | .takeMessage _ => 0x2E
  | .unknownRequest _ _ _ => 0
  | .badFrame _ _ => 0
  | .busy _ _ _ => 0
  | .replySent _ => 0
  | .dataFrameSent _ => 0
  | .endFrameSent _ => 0
  | .sheetFetchComplete _ _ => 0
  | .leafProgramWritten => 0
  | .leafProgramFailed => 0
  | .stripeEraseComplete _ => 0
  | .dayMark => 0
  | .tick => 0
  | .clockSaturated => 0
  | .countdownExpiry => 0
  | .storeGuardAsserted => 0
  | .storeGuardReleased => 0
  | .linkReset _ => 0
  | .breakEnd _ => 0
  | .powerLoss => 0
  | .resetLineAsserted => 0
  | .powerApplied => 0
  | .resetLineReleased => 0
  | .startUpEnd => 0
  | .statementMove => 0

/-! ### Payloads (R180) -/

/-- An object key in 5 octets (R180). -/
def wireOctets (k : WireKey) : List Octet := be 2 k.handle ++ be 1 k.kind ++ be 2 k.number

/-- A placement list: a count of entries in 1 octet, then the keys (R180). -/
def keysOctets (ks : List WireKey) : List Octet := be 1 ks.length ++ ks.flatMap wireOctets

/-- A choice between a number and BEST: a selector octet, then a number octet (R180). -/
def sourceOctets : Source → List Octet
  | .number n => be 1 0 ++ be 1 n
  | .best => be 1 1 ++ be 1 0

/-- An edition's name: a selector octet, 1 for a handle and 2 for a key (assumption 16), then handle, date and edition number, each
present in either case and 0 where it is unused (R44, R180). -/
def nameOctets : EditionName → List Octet
  | .handle h => be 1 1 ++ be 2 h ++ be 2 0 ++ be 1 0
  | .key date number => be 1 2 ++ be 2 0 ++ be 2 date ++ be 1 number

/-- The payload of a request: the fields its rule names, in the order in which the rule names them (R180). The minimum fee of SET_TARIFF and
the surcharge r of SET_TARIFF_GLOBALS take three octets, the fewest that their ranges need, although R180 also gives an amount of money
five (assumption 33). -/
def payloadOf : Instr → List Octet
  | .openEdition _ date number => be 2 date ++ be 1 number
  | .beginObject _ h kind number length rights contributor format placements => be 2 h ++ be 1 kind ++ be 2 number ++ be 4 length ++ be 1 rights ++ be 2 contributor ++ be 1 format ++ keysOctets placements
  | .putChunk _ n offset data => be 1 n ++ be 4 offset ++ be 2 data.length ++ data
  | .endObject _ n check => be 1 n ++ be 4 check.toNat
  | .dropObject _ n => be 1 n
  | .closeEdition _ h release => be 2 h ++ stampOctets release
  | .abandonEdition _ h => be 2 h
  | .read _ key version offset length => wireOctets key ++ sourceOctets version ++ be 4 offset ++ be 4 length
  | .withdrawEdition _ h => be 2 h
  | .reinstateEdition _ h => be 2 h
  | .purgeEdition _ h => be 2 h
  | .registerContributor _ id => be 2 id
  | .setContributorState _ id state => be 2 id ++ be 1 state
  | .setClock _ day tick => be 2 day ++ be 3 tick
  | .setOperating _ lowMark retentionDays retireLimit retireAction damageAction => be 2 lowMark ++ be 2 retentionDays ++ be 2 retireLimit ++ be 1 retireAction ++ be 1 damageAction
  | .resumeWrites _ => []
  | .submitPass _ key source mode stride low high k p => wireOctets key ++ sourceOctets source ++ be 1 mode ++ be 1 stride ++ be 1 low ++ be 1 high ++ be 1 k ++ be 1 p
  | .cancelPass _ id => be 1 id
  | .passResult _ => []
  | .takeSurvey _ => []
  | .discardVersion _ key version => wireOctets key ++ be 1 version
  | .openAccount _ id tariffClass limit => be 1 id ++ be 1 tariffClass ++ be 5 limit
  | .setAccount _ id tariffClass limit => be 1 id ++ be 1 tariffClass ++ be 5 limit
  | .creditAccount _ id amount => be 1 id ++ be 5 amount
  | .suspendAccount _ id => be 1 id
  | .reinstateAccount _ id => be 1 id
  | .closeAccount _ id => be 1 id
  | .findAccount _ id => be 1 id
  | .setShare _ id share => be 2 id ++ be 2 share
  | .setTariff _ kind usage tariffClass action base copyUnit minimum => be 1 kind ++ be 1 usage ++ be 1 tariffClass ++ be 1 action ++ be 3 base ++ be 2 copyUnit ++ be 3 minimum
  | .setTariffGlobals _ m0 m1 m2 m3 r p => be 2 m0 ++ be 2 m1 ++ be 2 m2 ++ be 2 m3 ++ be 3 r ++ be 2 p
  | .setPeriodLength _ days => be 2 days
  | .quote _ account key usage copies => be 1 account ++ wireOctets key ++ be 1 usage ++ be 2 copies
  | .order _ account key usage copies => be 1 account ++ wireOctets key ++ be 1 usage ++ be 2 copies
  | .closePeriod _ => []
  | .takeStatements _ => []
  | .releaseStatements _ sequence => be 4 sequence
  | .findEdition _ name => nameOctets name
  | .findObject _ key => wireOctets key
  | .cancelStream _ id => be 1 id
  | .status _ => []
  | .identify _ => []
  | .takeNotices _ => []
  | .setNoticeMask _ kinds => be 2 kinds.toNat
  | .postMessage _ targets text => be 1 targets.toNat ++ be 1 text.length ++ text
  | .takeMessage _ => []
  | .unknownRequest _ _ _ => []
  | .badFrame _ _ => []
  | .busy _ _ _ => []
  | .replySent _ => []
  | .dataFrameSent _ => []
  | .endFrameSent _ => []
  | .sheetFetchComplete _ _ => []
  | .leafProgramWritten => []
  | .leafProgramFailed => []
  | .stripeEraseComplete _ => []
  | .dayMark => []
  | .tick => []
  | .clockSaturated => []
  | .countdownExpiry => []
  | .storeGuardAsserted => []
  | .storeGuardReleased => []
  | .linkReset _ => []
  | .breakEnd _ => []
  | .powerLoss => []
  | .resetLineAsserted => []
  | .powerApplied => []
  | .resetLineReleased => []
  | .startUpEnd => []
  | .statementMove => []

/-! ### Reading a payload -/

/-- A reader takes fields from the front of a payload, or finds it too short. -/
abbrev Reading (α : Type) := StateT (List Octet) Option α

/-- The next octets as an unsigned integer, most significant first (R180). -/
def readNat : Nat → Reading Nat
  | 0 => pure 0
  | n + 1 => do
    let o ← readOctet
    let v ← readNat n
    pure (o.toNat * 256 ^ n + v)
where
  /-- The next octet. -/
  readOctet : Reading Octet := fun os => match os with
    | [] => none
    | o :: rest => some (o, rest)

/-- The next `n` octets. -/
def readOctets (n : Nat) : Reading (List Octet) := fun os =>
  if os.length < n then none else some (os.take n, os.drop n)

/-- A 4-octet check. -/
def readCheck : Reading (BitVec 32) := do pure (BitVec.ofNat 32 (← readNat 4))

/-- A set of notice kinds in 2 octets. -/
def readMask : Reading (BitVec 16) := do pure (BitVec.ofNat 16 (← readNat 2))

/-- A set of ports in 1 octet. -/
def readPorts : Reading (BitVec 8) := do pure (BitVec.ofNat 8 (← readNat 1))

/-- A stamp. -/
def readStamp : Reading Stamp := do
  let day ← readNat 2
  let tick ← readNat 3
  pure ⟨day, tick⟩

/-- An object key. -/
def readKey : Reading WireKey := do
  let handle ← readNat 2
  let kind ← readNat 1
  let number ← readNat 2
  pure ⟨handle, kind, number⟩

/-- `n` object keys. -/
def readKeyList : Nat → Reading (List WireKey)
  | 0 => pure []
  | n + 1 => do
    let k ← readKey
    let ks ← readKeyList n
    pure (k :: ks)

/-- A placement list. -/
def readKeys : Reading (List WireKey) := do readKeyList (← readNat 1)

/-- A number or BEST; another selector is no field of a request (assumption 26). -/
def readSource : Reading Source := do
  let selector ← readNat 1
  let number ← readNat 1
  match selector with
  | 0 => pure (.number number)
  | 1 => pure .best
  | _ => failure

/-- An edition's name, whose fields are all present (R180): what stands in the unused ones is not read (assumption 48), and another selector
is no field of a request (assumption 26). -/
def readName : Reading EditionName := do
  let selector ← readNat 1
  let handle ← readNat 2
  let date ← readNat 2
  let number ← readNat 1
  match selector with
  | 1 => pure (.handle handle)
  | 2 => pure (.key date number)
  | _ => failure

/-- The fields of the request with a code (R178, R180). -/
def readRequest (f : Frame) (code : Nat) : Reading Instr :=
  match code with
  | 0x01 => do
    let date ← readNat 2
    let number ← readNat 1
    pure (.openEdition f date number)
  | 0x02 => do
    let h ← readNat 2
    let kind ← readNat 1
    let number ← readNat 2
    let length ← readNat 4
    let rights ← readNat 1
    let contributor ← readNat 2
    let format ← readNat 1
    let placements ← readKeys
    pure (.beginObject f h kind number length rights contributor format placements)
  | 0x03 => do
    let n ← readNat 1
    let offset ← readNat 4
    let count ← readNat 2
    let data ← readOctets count
    pure (.putChunk f n offset data)
  | 0x04 => do
    let n ← readNat 1
    let check ← readCheck
    pure (.endObject f n check)
  | 0x05 => do pure (.dropObject f (← readNat 1))
  | 0x06 => do
    let h ← readNat 2
    let release ← readStamp
    pure (.closeEdition f h release)
  | 0x07 => do pure (.abandonEdition f (← readNat 2))
  | 0x08 => do
    let key ← readKey
    let version ← readSource
    let offset ← readNat 4
    let length ← readNat 4
    pure (.read f key version offset length)
  | 0x09 => do pure (.withdrawEdition f (← readNat 2))
  | 0x0A => do pure (.reinstateEdition f (← readNat 2))
  | 0x0B => do pure (.purgeEdition f (← readNat 2))
  | 0x0C => do pure (.registerContributor f (← readNat 2))
  | 0x0D => do
    let id ← readNat 2
    let state ← readNat 1
    pure (.setContributorState f id state)
  | 0x0E => do
    let day ← readNat 2
    let tick ← readNat 3
    pure (.setClock f day tick)
  | 0x0F => do
    let lowMark ← readNat 2
    let retentionDays ← readNat 2
    let retireLimit ← readNat 2
    let retireAction ← readNat 1
    let damageAction ← readNat 1
    pure (.setOperating f lowMark retentionDays retireLimit retireAction damageAction)
  | 0x10 => pure (.resumeWrites f)
  | 0x11 => do
    let key ← readKey
    let source ← readSource
    let mode ← readNat 1
    let stride ← readNat 1
    let low ← readNat 1
    let high ← readNat 1
    let k ← readNat 1
    let p ← readNat 1
    pure (.submitPass f key source mode stride low high k p)
  | 0x12 => do pure (.cancelPass f (← readNat 1))
  | 0x13 => pure (.passResult f)
  | 0x14 => pure (.takeSurvey f)
  | 0x15 => do
    let key ← readKey
    let version ← readNat 1
    pure (.discardVersion f key version)
  | 0x16 => do
    let id ← readNat 1
    let tariffClass ← readNat 1
    let limit ← readNat 5
    pure (.openAccount f id tariffClass limit)
  | 0x17 => do
    let id ← readNat 1
    let tariffClass ← readNat 1
    let limit ← readNat 5
    pure (.setAccount f id tariffClass limit)
  | 0x18 => do
    let id ← readNat 1
    let amount ← readNat 5
    pure (.creditAccount f id amount)
  | 0x19 => do pure (.suspendAccount f (← readNat 1))
  | 0x1A => do pure (.reinstateAccount f (← readNat 1))
  | 0x1B => do pure (.closeAccount f (← readNat 1))
  | 0x1C => do pure (.findAccount f (← readNat 1))
  | 0x1D => do
    let id ← readNat 2
    let share ← readNat 2
    pure (.setShare f id share)
  | 0x1E => do
    let kind ← readNat 1
    let usage ← readNat 1
    let tariffClass ← readNat 1
    let action ← readNat 1
    let base ← readNat 3
    let copyUnit ← readNat 2
    let minimum ← readNat 3
    pure (.setTariff f kind usage tariffClass action base copyUnit minimum)
  | 0x1F => do
    let m0 ← readNat 2
    let m1 ← readNat 2
    let m2 ← readNat 2
    let m3 ← readNat 2
    let r ← readNat 3
    let p ← readNat 2
    pure (.setTariffGlobals f m0 m1 m2 m3 r p)
  | 0x20 => do pure (.setPeriodLength f (← readNat 2))
  | 0x21 => do
    let account ← readNat 1
    let key ← readKey
    let usage ← readNat 1
    let copies ← readNat 2
    pure (.quote f account key usage copies)
  | 0x22 => do
    let account ← readNat 1
    let key ← readKey
    let usage ← readNat 1
    let copies ← readNat 2
    pure (.order f account key usage copies)
  | 0x23 => pure (.closePeriod f)
  | 0x24 => pure (.takeStatements f)
  | 0x25 => do pure (.releaseStatements f (← readNat 4))
  | 0x26 => do pure (.findEdition f (← readName))
  | 0x27 => do pure (.findObject f (← readKey))
  | 0x28 => do pure (.cancelStream f (← readNat 1))
  | 0x29 => pure (.status f)
  | 0x2A => pure (.identify f)
  | 0x2B => pure (.takeNotices f)
  | 0x2C => do pure (.setNoticeMask f (← readMask))
  | 0x2D => do
    let targets ← readPorts
    let count ← readNat 1
    let text ← readOctets count
    pure (.postMessage f targets text)
  | 0x2E => pure (.takeMessage f)
  | _ => failure

/-- The request with a code, of a frame whose payload does not match its fields: its operands are not read (R178 step 4). -/
def misfit (f : Frame) (code : Nat) : Instr :=
  match code with
  | 0x01 => .openEdition f 0 0
  | 0x02 => .beginObject f 0 0 0 0 0 0 0 []
  | 0x03 => .putChunk f 0 0 []
  | 0x04 => .endObject f 0 0
  | 0x05 => .dropObject f 0
  | 0x06 => .closeEdition f 0 ⟨0, 0⟩
  | 0x07 => .abandonEdition f 0
  | 0x08 => .read f ⟨0, 0, 0⟩ .best 0 0
  | 0x09 => .withdrawEdition f 0
  | 0x0A => .reinstateEdition f 0
  | 0x0B => .purgeEdition f 0
  | 0x0C => .registerContributor f 0
  | 0x0D => .setContributorState f 0 0
  | 0x0E => .setClock f 0 0
  | 0x0F => .setOperating f 0 0 0 0 0
  | 0x10 => .resumeWrites f
  | 0x11 => .submitPass f ⟨0, 0, 0⟩ .best 0 0 0 0 0 0
  | 0x12 => .cancelPass f 0
  | 0x13 => .passResult f
  | 0x14 => .takeSurvey f
  | 0x15 => .discardVersion f ⟨0, 0, 0⟩ 0
  | 0x16 => .openAccount f 0 0 0
  | 0x17 => .setAccount f 0 0 0
  | 0x18 => .creditAccount f 0 0
  | 0x19 => .suspendAccount f 0
  | 0x1A => .reinstateAccount f 0
  | 0x1B => .closeAccount f 0
  | 0x1C => .findAccount f 0
  | 0x1D => .setShare f 0 0
  | 0x1E => .setTariff f 0 0 0 0 0 0 0
  | 0x1F => .setTariffGlobals f 0 0 0 0 0 0
  | 0x20 => .setPeriodLength f 0
  | 0x21 => .quote f 0 ⟨0, 0, 0⟩ 0 0
  | 0x22 => .order f 0 ⟨0, 0, 0⟩ 0 0
  | 0x23 => .closePeriod f
  | 0x24 => .takeStatements f
  | 0x25 => .releaseStatements f 0
  | 0x26 => .findEdition f (.handle 0)
  | 0x27 => .findObject f ⟨0, 0, 0⟩
  | 0x28 => .cancelStream f 0
  | 0x29 => .status f
  | 0x2A => .identify f
  | 0x2B => .takeNotices f
  | 0x2C => .setNoticeMask f 0
  | 0x2D => .postMessage f 0 []
  | 0x2E => .takeMessage f
  | _ => .unknownRequest f.port f.tag (BitVec.ofNat 8 code)

/-- The command that a well-formed frame is (R178): a request with its fields, a request whose payload does not match them, or an unknown
request. -/
def commandOf (p : Port) (tag code : Octet) (payload : List Octet) : Instr :=
  match (readRequest ⟨p, tag, true⟩ code.toNat).run payload with
  | some (i, []) => i
  | _ => misfit ⟨p, tag, false⟩ code.toNat

/-! ### Frames (R176) -/

/-- A request frame's octets (R180). -/
def requestFrame (tag code : Octet) (payload : List Octet) : List Octet :=
  let body := tag :: code :: (be 2 payload.length ++ payload)
  0xC3#8 :: body ++ be 2 (crc16 body).toNat

/-- What an arriving octet completes (R176): a frame that is taken, or one answered BAD_FRAME. -/
inductive Arrival where
  | taken (tag code : Octet) (payload : List Octet)
  | bad (tag : Octet)
  deriving DecidableEq, Repr

/-- The length a frame's header announces. -/
def announced (got : List Octet) : Nat := (got.getD 2 0#8).toNat * 256 + (got.getD 3 0#8).toNat

/-- A complete frame, judged by its check (R176). -/
def judgeFrame (got : List Octet) : Arrival :=
  let n := 4 + announced got
  if be 2 (crc16 (got.take n)).toNat = got.drop n then
    .taken (got.getD 0 0#8) (got.getD 1 0#8) ((got.take n).drop 4)
  else .bad (got.getD 0 0#8)

/-- One octet arrives (R176). -/
def receiveOctet (r : Reception) (o : Octet) : Reception × Option Arrival :=
  match r with
  | .hunting => if o = 0xC3#8 then (.partly [], none) else (.hunting, none)
  | .partly got =>
    let got := got ++ [o]
    if got.length < 4 then (.partly got, none)
    else if Config.maxPayload < announced got then (.hunting, some (.bad (got.getD 0 0#8)))
    else if got.length < 4 + announced got + 2 then (.partly got, none)
    else (.hunting, some (judgeFrame got))

/-- The frames that octets complete, in order, and where the link unit then stands (R176). -/
def receiveOctets (r : Reception) : List Octet → Reception × List Arrival
  | [] => (r, [])
  | o :: rest =>
    let step := receiveOctet r o
    let more := receiveOctets step.1 rest
    (more.1, step.2.toList ++ more.2)

/-- The command an arrival is on a port (R176, R178). -/
def arrivalCommand (p : Port) : Arrival → Instr
  | .taken tag code payload => commandOf p tag code payload
  | .bad tag => .badFrame p tag

/-- An octet arrives on a port's receive line (R176): the link unit hunts, holds it as part of a frame, or has received a frame whole,
whose command is then the next to run. While the link unit receives none the octet is lost (R183, R184). The commands' sender applies
it; no row of the table is a single octet (assumption 31). -/
def hear (p : Port) (o : Octet) (s : State) : State :=
  if !s.receives p then s
  else
    let r := receiveOctet (s.links.get p).reception o
    { s with
      links := s.links.set p { s.links.get p with reception := r.1 },
      pending := (r.2.map (arrivalCommand p)).toList ++ s.pending }

end Sys2Proof.Machine
end

