-- ==== Sys2Proof/Safety.lean ====
section
/-! DEFINITION. The terms in which claims are stated: what it takes for a request to be admitted, what an answered request leaves, and
the invariants that every event keeps. -/

namespace Sys2Proof.Machine

/-! ### Requests -/

/-- The frame a request came in; nothing for a command that is no request. -/
def frameOf : Instr → Option Frame
  | .openEdition f _ _ => some f
  | .beginObject f _ _ _ _ _ _ _ _ => some f
  | .putChunk f _ _ _ => some f
  | .endObject f _ _ => some f
  | .dropObject f _ => some f
  | .closeEdition f _ _ => some f
  | .abandonEdition f _ => some f
  | .read f _ _ _ _ => some f
  | .withdrawEdition f _ => some f
  | .reinstateEdition f _ => some f
  | .purgeEdition f _ => some f
  | .registerContributor f _ => some f
  | .setContributorState f _ _ => some f
  | .setClock f _ _ => some f
  | .setOperating f _ _ _ _ _ => some f
  | .resumeWrites f => some f
  | .submitPass f _ _ _ _ _ _ _ _ => some f
  | .cancelPass f _ => some f
  | .passResult f => some f
  | .takeSurvey f => some f
  | .discardVersion f _ _ => some f
  | .openAccount f _ _ _ => some f
  | .setAccount f _ _ _ => some f
  | .creditAccount f _ _ => some f
  | .suspendAccount f _ => some f
  | .reinstateAccount f _ => some f
  | .closeAccount f _ => some f
  | .findAccount f _ => some f
  | .setShare f _ _ => some f
  | .setTariff f _ _ _ _ _ _ _ => some f
  | .setTariffGlobals f _ _ _ _ _ _ => some f
  | .setPeriodLength f _ => some f
  | .quote f _ _ _ _ => some f
  | .order f _ _ _ _ => some f
  | .closePeriod f => some f
  | .takeStatements f => some f
  | .releaseStatements f _ => some f
  | .findEdition f _ => some f
  | .findObject f _ => some f
  | .cancelStream f _ => some f
  | .status f => some f
  | .identify f => some f
  | .takeNotices f => some f
  | .setNoticeMask f _ => some f
  | .postMessage f _ _ => some f
  | .takeMessage f => some f
  | .unknownRequest _ _ _ => none
  | .badFrame _ _ => none
  | .busy _ _ _ => none
  | .replySent _ => none
  | .dataFrameSent _ => none
  | .endFrameSent _ => none
  | .sheetFetchComplete _ _ => none
  | .leafProgramWritten => none
  | .leafProgramFailed => none
  | .stripeEraseComplete _ => none
  | .dayMark => none
  | .tick => none
  | .clockSaturated => none
  | .countdownExpiry => none
  | .storeGuardAsserted => none
  | .storeGuardReleased => none
  | .linkReset _ => none
  | .breakEnd _ => none
  | .powerLoss => none
  | .resetLineAsserted => none
  | .powerApplied => none
  | .resetLineReleased => none
  | .startUpEnd => none
  | .statementMove => none

/-- The ports a request is permitted to, by its code: R178's table read along its rows, eight, eight, five, sixteen and nine requests. -/
def permittedTo (code : Nat) : List Port :=
  if code ≤ 0x08 then deskAndBench
  else if code ≤ 0x10 then deskOnly
  else if code ≤ 0x15 then benchOnly
  else if code ≤ 0x25 then counterOnly
  else allPorts

/-- A port that takes a frame as its request in progress: its link unit receives frames and has none in progress (R177). -/
abbrev Listening (p : Port) (s : State) : Prop := s.receives p = true ∧ s.inProgress p = false

/-- A request that passes the screening of R178 and reaches its own rule. -/
abbrev Admitted (ports : List Port) (f : Frame) (s : State) : Prop :=
  Listening f.port s ∧ f.port ∈ ports ∧ s.control.mode ≠ .start ∧ f.fits = true

/-- What a request that reaches no engine leaves: its reply is made and its port's transmitter, when free, sends (R179). -/
def answered (f : Frame) (a : Answer) (s : State) : State := transmit f.port (reply f.port f.tag a s)

/-- What a request that may reach the engines leaves: its reply is made, and the event is concluded. -/
def concluded (f : Frame) (a : Answer) (s : State) : State := conclude (reply f.port f.tag a s)

/-! ### What a command may reach -/

/-- The parts of the state that claims about all commands speak of: the account, contributor and tariff tables, the billing unit, the
clock, the operating settings, the mailboxes, the enable masks, and what the flash holds. -/
inductive Part where
  | ledger | billing | clock | settings | mailboxes | masks | flash
  deriving DecidableEq, Repr

/-- The parts a command's rules let it change. -/
def reach : Instr → List Part
  | .openEdition _ _ _ => []
  | .beginObject _ _ _ _ _ _ _ _ _ => []
  | .putChunk _ _ _ _ => []
  | .endObject _ _ _ => []
  | .dropObject _ _ => []
  | .closeEdition _ _ _ => []
  | .abandonEdition _ _ => []
  | .read _ _ _ _ _ => []
  | .withdrawEdition _ _ => [.ledger]
  | .reinstateEdition _ _ => []
  | .purgeEdition _ _ => []
  | .registerContributor _ _ => [.ledger]
  | .setContributorState _ _ _ => [.ledger]
  | .setClock _ _ _ => [.clock]
  | .setOperating _ _ _ _ _ _ => [.settings]
  | .resumeWrites _ => []
  | .submitPass _ _ _ _ _ _ _ _ _ => []
  | .cancelPass _ _ => []
  | .passResult _ => []
  | .takeSurvey _ => []
  | .discardVersion _ _ _ => []
  | .openAccount _ _ _ _ => [.ledger]
  | .setAccount _ _ _ _ => [.ledger]
  | .creditAccount _ _ _ => [.ledger]
  | .suspendAccount _ _ => [.ledger]
  | .reinstateAccount _ _ => [.ledger]
  | .closeAccount _ _ => [.ledger]
  | .findAccount _ _ => []
  | .setShare _ _ _ => [.ledger]
  | .setTariff _ _ _ _ _ _ _ _ => [.ledger]
  | .setTariffGlobals _ _ _ _ _ _ _ => [.ledger]
  | .setPeriodLength _ _ => [.billing]
  | .quote _ _ _ _ _ => []
  | .order _ _ _ _ _ => [.ledger]
  | .closePeriod _ => [.ledger, .billing]
  | .takeStatements _ => []
  | .releaseStatements _ _ => [.billing]
  | .findEdition _ _ => []
  | .findObject _ _ => []
  | .cancelStream _ _ => [.ledger]
  | .status _ => []
  | .identify _ => []
  | .takeNotices _ => []
  | .setNoticeMask _ _ => [.masks]
  | .postMessage _ _ _ => [.mailboxes]
  | .takeMessage _ => [.mailboxes]
  | .unknownRequest _ _ _ => []
  | .badFrame _ _ => []
  | .busy _ _ _ => []
  | .replySent _ => []
  | .dataFrameSent _ => [.ledger, .billing]
  | .endFrameSent _ => []
  | .sheetFetchComplete _ _ => [.ledger]
  | .leafProgramWritten => [.flash]
  | .leafProgramFailed => [.flash]
  | .stripeEraseComplete _ => [.flash]
  | .dayMark => [.ledger, .billing, .clock]
  | .tick => [.clock]
  | .clockSaturated => [.clock]
  | .countdownExpiry => [.ledger, .billing, .clock]
  | .storeGuardAsserted => []
  | .storeGuardReleased => []
  | .linkReset _ => [.ledger, .mailboxes, .masks]
  | .breakEnd _ => []
  | .powerLoss => [.clock, .mailboxes, .masks, .flash]
  | .resetLineAsserted => [.clock, .mailboxes, .masks, .flash]
  | .powerApplied => []
  | .resetLineReleased => []
  | .startUpEnd => [.ledger, .billing, .clock, .settings, .mailboxes, .masks]
  | .statementMove => [.billing]

/-- A part of the state is the same in two states. -/
def samePart (s t : State) : Part → Prop
  | .ledger => t.ledger = s.ledger
  | .billing => t.billing = s.billing
  | .clock => t.clock = s.clock
  | .settings => t.control.settings = s.control.settings
  | .mailboxes => t.mailboxes = s.mailboxes
  | .masks => ∀ p, (t.notices.get p).mask = (s.notices.get p).mask
  | .flash => t.store.flash = s.store.flash

/-! ### Invariants of the links (R177, R179, R183) -/

/-- A link unit's replies are each in one place, and a held break leaves it nothing, no frame received in part among it. -/
structure LinkOk (l : Link) : Prop where
  once : l.waiting.Nodup
  request : l.request.isSome = true ↔ (Slot.request ∈ l.waiting ∨ l.sending = some (.reply .request))
  refusal : l.refusal.isSome = true ↔ (Slot.refusal ∈ l.waiting ∨ l.sending = some (.reply .refusal))
  requestApart : Slot.request ∈ l.waiting → l.sending ≠ some (.reply .request)
  refusalApart : Slot.refusal ∈ l.waiting → l.sending ≠ some (.reply .refusal)
  broken : l.breakHeld = true → l.waiting = [] ∧ l.sending = none ∧ l.reception = .hunting

/-- A free transmitter has nothing to send, unless a break is held (R179). -/
abbrev TransmitterOk (p : Port) (s : State) : Prop :=
  (s.links.get p).breakHeld = true ∨ (s.links.get p).sending.isSome = true
    ∨ ((s.links.get p).waiting = [] ∧ streamFrame (s.streams.ports.get p) = none)

/-- Every link unit is in order. -/
structure LinksOk (s : State) : Prop where
  links : ∀ p, LinkOk (s.links.get p)
  transmitters : ∀ p, TransmitterOk p s

/-! ### Invariants of the notices (R168) -/

/-- While the part works, every condition that holds for a port is pending there. -/
abbrev NoticesOk (s : State) : Prop :=
  s.working = true → ∀ p ∈ allPorts, s.standing p &&& ~~~(s.notices.get p).pending = 0#13

/-! ### Invariants of the statements (R158, R160) -/

/-- Whether a statement record is of kind HOUSE. -/
def Figures.isHouse : Figures → Bool
  | .house _ _ _ => true
  | _ => false

/-- The queue holds at most 512 records with consecutive sequence numbers that end just below the counter, and a latch that is not
empty ends with a HOUSE record. -/
structure StatementsOk (s : State) : Prop where
  bound : s.billing.queue.length ≤ Config.statementQueue
  counter : s.billing.sequence < 2 ^ 32
  numbers : ∀ e ∈ s.billing.queue, e.1 < 2 ^ 32
  consecutive : ∀ i (h : i < s.billing.queue.length),
    (s.billing.queue[i].1 + (s.billing.queue.length - i)) % 2 ^ 32 = s.billing.sequence
  house : ∀ r ∈ s.billing.latch.getLast?, r.figures.isHouse = true

/-! ### Invariants of operating control, the clock and the settings -/

/-- The settings are in R172's ranges. -/
abbrev Settings.inRange (o : Settings) : Prop :=
  (16 ≤ o.lowMark ∧ o.lowMark ≤ 512) ∧ (90 ≤ o.retentionDays ∧ o.retentionDays ≤ 3650) ∧ (16 ≤ o.retireLimit ∧ o.retireLimit ≤ 1024)

/-- The clock, the settings, the globals and the countdown are in their ranges, a part that does not work is in START, and a preserve
cause is present in PRESERVE alone. -/
structure OperatingOk (s : State) : Prop where
  day : s.clock.day ≤ Config.maxDay
  tick : s.clock.tick ≤ Config.maxTick
  settings : s.control.settings.inRange
  globals : s.ledger.globals.inRange = true
  length : s.billing.length ≤ 366
  countdown : s.billing.countdown ≤ s.billing.length
  idle : s.running = false → s.control.mode = .start
  cause : s.control.cause.isSome = true ↔ s.control.mode = .preserve

/-! ### Invariants of the tables (R5, R26, R36, R48, R65, R114, R122, R125) -/

/-- An object key's handle and number are in range (R26, R36). -/
abbrev Key.inRange (k : Key) : Prop := k.handle < Config.editions ∧ numberInRange k.kind k.number = true

/-- The extents that name live leaves: of the catalog's versions, of the provisional records and of the pass output record (R5). -/
def State.liveExtents (s : State) : List Extent :=
  s.catalogExtents ++ s.intake.provisional.flatMap (·.2) ++ s.passes.output

/-- The stripe that a program or an erase in flight acts on. -/
def Wings.target : Wings → Option Nat
  | .both (.program op) => some op.stripe
  | .both (.erase n) => some n
  | .split _ _ => none

/-- The stripe numbers that the state holds: of the table's records, of the queues, of the program-in-flight mark, of an operation in
flight, of the live extents, of the PASS_SOURCE stream's snapshot and of the copy's destination. -/
def State.stripeNumbers (s : State) : List Nat :=
  s.store.stripes.map (·.1) ++ s.store.freeQueue ++ s.store.dirtyQueue ++ (s.store.mark.map (·.1)).toList
    ++ s.store.wings.target.toList ++ s.liveExtents.map (·.stripe)
    ++ s.streams.passSource.toList.flatMap (fun st => st.snapshot.map (·.stripe))
    ++ (s.copy.bind (fun c => c.dest.map (·.1))).toList

/-- An order in a queue names an account record and contributor records (R114, R122). -/
def namesRecords (st : Stream) : Prop :=
  match st.kind with
  | .order o => (1 ≤ o.account ∧ o.account ≤ 255) ∧ ∀ x ∈ o.breakdown.parts, 1 ≤ x.1 ∧ x.1 ≤ 1023
  | _ => True

/-- Every table is in the one form that stands for its contents, and its keys are in range. -/
structure TablesOk (s : State) : Prop where
  stripes : Table.Canonical Stripe.formatted s.store.stripes
  stripeNumbers : ∀ n ∈ s.stripeNumbers, n < Config.stripes
  flash : Memory.wf s.store.flash
  editions : Table.Ordered s.catalog.editions
  handles : ∀ e ∈ s.catalog.editions, e.1 < Config.editions
  objects : Table.Ordered s.catalog.objects
  objectKeys : ∀ e ∈ s.catalog.objects, e.1 = e.2.key.code ∧ e.2.key.inRange
  credits : ∀ e ∈ s.catalog.objects, e.2.contributor ≤ 1023
  descriptors : Table.Ordered s.intake.descriptors
  numbers : ∀ e ∈ s.intake.descriptors, e.1 < Config.descriptors
  deposits : ∀ e ∈ s.intake.descriptors, e.2.key.inRange ∧ e.2.contributor ≤ 1023
  provisional : Table.Ordered s.intake.provisional
  records : ∀ e ∈ s.intake.provisional, e.1 < Config.descriptors
  accounts : Table.Canonical Account.formatted s.ledger.accounts
  accountIds : ∀ e ∈ s.ledger.accounts, 1 ≤ e.1 ∧ e.1 ≤ 255
  contributors : Table.Canonical Contributor.formatted s.ledger.contributors
  contributorIds : ∀ e ∈ s.ledger.contributors, 1 ≤ e.1 ∧ e.1 ≤ 1023
  orders : ∀ p, ∀ st ∈ (s.streams.ports.get p).queue, namesRecords st
  tariffs : Table.Canonical TariffCell.formatted s.ledger.tariffs
  cells : ∀ e ∈ s.ledger.tariffs, e.1 < 32

/-! ### Invariants of the money (R114, R120, R135, R153) -/

/-- The fees of an account's orders in a queue. -/
def feesIn (account : Nat) (q : List Stream) : Nat :=
  (q.map (fun st => match st.kind with
    | .order o => if o.account = account then o.breakdown.fee else 0
    | _ => 0)).sum

/-- A fee equals its house share and its contributor parts (R135). -/
abbrev Breakdown.balanced (b : Breakdown) : Prop := b.house + (b.parts.map (·.2)).sum = b.fee

/-- An order in a queue is on an account's record and its breakdown is balanced. -/
def soundOrder (st : Stream) : Prop :=
  match st.kind with
  | .order o => 1 ≤ o.account ∧ o.account ≤ 255 ∧ o.breakdown.balanced
  | _ => True

/-- Whether a stream is an order. -/
def Stream.isOrder (st : Stream) : Bool :=
  match st.kind with
  | .order _ => true
  | _ => false

/-- The accruals of all contributors. -/
def State.totalAccrued (s : State) : Nat := (s.ledger.contributors.map (fun e => e.2.accrual)).sum

/-- The money is in order: held is what the orders hold, no account is past its limit, no order's parts differ from its fee, and what
the accounts were charged is what the house and the contributors received. -/
structure MoneyOk (s : State) : Prop where
  idle : s.running = false → s.control.mode = .start
  accounts : Table.Canonical Account.formatted s.ledger.accounts
  ids : ∀ e ∈ s.ledger.accounts, 1 ≤ e.1 ∧ e.1 ≤ 255
  contributors : Table.Canonical Contributor.formatted s.ledger.contributors
  shares : ∀ e ∈ s.ledger.contributors, e.2.share ≤ 1000
  pool : s.ledger.globals.p ≤ 1000
  deskOrders : ∀ st ∈ s.streams.ports.desk.queue, st.isOrder = false
  benchOrders : ∀ st ∈ s.streams.ports.bench.queue, st.isOrder = false
  orders : ∀ st ∈ s.streams.ports.counter.queue, soundOrder st
  names : (s.streams.ports.counter.queue.map (·.id)).Nodup
  start : s.control.mode = .start → s.streams.ports.counter.queue = []
  held : s.control.mode ≠ .start → ∀ id ≤ 255, (s.account id).held = feesIn id s.streams.ports.counter.queue
  unused : ∀ id ≤ 255, (s.account id).state = .unused → (s.account id).charged = 0
  unheld : s.control.mode ≠ .start → ∀ id ≤ 255, (s.account id).state = .unused → (s.account id).held = 0
  limits : ∀ id ≤ 255, -((s.account id).limit : Int) ≤ (s.account id).balance - (s.account id).held
  widths : ∀ id ≤ 255, (s.account id).limit ≤ Config.maxBalance ∧ (s.account id).balance ≤ Config.maxBalance
  exposure : s.exposure ≤ Config.maxExposure
  books : s.totalCharged = s.billing.revenue + s.totalAccrued

/-! ### Invariants of the readers (R70, R76) -/

/-- The streams that hold a snapshot: the records in the queues and the PASS_SOURCE stream (R67, R70). -/
def State.readerStreams (s : State) : List Stream :=
  s.streams.ports.desk.queue ++ s.streams.ports.bench.queue ++ s.streams.ports.counter.queue ++ s.streams.passSource.toList

/-- The stream snapshots that name a stripe. -/
def State.snapshotsOn (s : State) (n : Nat) : Nat :=
  (s.readerStreams.filter (fun st => (snapshotStripes st.snapshot).contains n)).length

/-- The ids of a queue's streams are distinct. -/
abbrev PortStreams.distinct (ps : PortStreams) : Prop := (ps.queue.map (·.id)).Nodup

/-- Every stripe's reader count is the number of stream snapshots that name the stripe. -/
structure ReadersOk (s : State) : Prop where
  idle : s.running = false → s.control.mode = .start
  stripes : Table.Canonical Stripe.formatted s.store.stripes
  desk : s.streams.ports.desk.distinct
  bench : s.streams.ports.bench.distinct
  counter : s.streams.ports.counter.distinct
  start : s.control.mode = .start → s.readerStreams = []
  source : s.passes.active = none → s.streams.passSource = none
  readers : ∀ n, (s.stripe n).readers = s.snapshotsOn n

/-! ### Invariants of the wings (R4, R5, R10, R22) -/

/-- The stripe and leaf of the program in flight. -/
def Wings.programmed : Wings → Option (Nat × Nat)
  | .both (.program op) => some (op.stripe, op.place)
  | _ => none

/-- The stripe of the erase in flight. -/
def Wings.erasing : Wings → Option Nat
  | .both (.erase n) => some n
  | _ => none

/-- The mark names the program in flight, the erase in flight is of the dirty queue's head, and START leaves the wings idle. -/
structure WingsOk (s : State) : Prop where
  idle : s.running = false → s.control.mode = .start
  start : s.control.mode = .start → s.store.wings = .split none none ∧ s.store.eraseRequested = false
  mark : s.control.mode ≠ .start → s.store.mark = s.store.wings.programmed
  head : ∀ n, s.store.wings.erasing = some n → s.store.dirtyQueue.head? = some n ∧ s.store.eraseRequested = false
  request : s.store.eraseRequested = true → s.store.dirtyQueue ≠ []

/-! ### Invariants of the stripe table and its queues (R5, R6, R7, R13, R39, R92) -/

/-- The fetch in flight on a wing. -/
def Wings.fetching : Wings → Wing → Option FetchOp
  | .split a _, .low => a
  | .split _ b, .high => b
  | .both _, _ => none

/-- An extent names at least one leaf and lies inside one stripe (R39). -/
abbrev Extent.fits (e : Extent) : Prop := 1 ≤ e.count ∧ e.first + e.count ≤ Config.leavesPerStripe

/-- The copy in hand has a destination from its first program's presentation on (R92): leaves of the RELOCATE front's stripe that hold
what has been copied, that no live leaf lies among, and that have room for the whole extent. -/
structure CopyOk (c : Copy) (s : State) : Prop where
  source : c.source.fits
  placed : c.dest.isSome = true ↔ 0 < c.copied ∨ (c.step = .program ∧ c.request ≠ .none)
  room : ∀ d, c.dest = some d → (s.stripe d.1).state = .opened .relocate ∧ (s.stripe d.1).written = d.2 + c.copied ∧
    (s.stripe d.1).live ≤ d.2 ∧ c.copied < c.source.count ∧ d.2 + c.source.count ≤ Config.leavesPerStripe

/-- The laws of a formatted part's stripe table: the queues hold the FREE and the DIRTY stripes, each once; a front holds at most one OPEN
stripe, which has a leaf left; live is at most written, and written at most 96. With them stand the program, the erase, the fetch
and the copy in hand, whose completions move the counts. -/
structure StripeTableOk (s : State) : Prop where
  freeOnce : s.store.freeQueue.Nodup
  free : ∀ n < Config.stripes, n ∈ s.store.freeQueue ↔ (s.stripe n).state = .free
  dirtyOnce : s.store.dirtyQueue.Nodup
  dirty : ∀ n < Config.stripes, n ∈ s.store.dirtyQueue ↔ (s.stripe n).state = .dirty
  fronts : ∀ f m n, (s.stripe m).state = .opened f → (s.stripe n).state = .opened f → m = n
  levels : ∀ n, (s.stripe n).live ≤ (s.stripe n).written ∧ (s.stripe n).written ≤ Config.leavesPerStripe
  open_ : ∀ n f, (s.stripe n).state = .opened f → (s.stripe n).written < Config.leavesPerStripe
  blank : ∀ n, (s.stripe n).state = .free → (s.stripe n).written = 0
  dead : ∀ n, (s.stripe n).state = .dirty → (s.stripe n).live = 0
  stalledOnce : s.store.stalled.Nodup
  stalled : ∀ f ∈ s.store.stalled, ∀ n, (s.stripe n).state ≠ .opened f
  extents : ∀ e ∈ s.liveExtents, e.fits
  mark : s.control.mode ≠ .start → s.store.mark = s.store.wings.programmed
  cut : s.control.mode = .start → ∀ x ∈ s.store.mark, ∃ f, (s.stripe x.1).state = .opened f
  program : ∀ op, s.store.wings = .both (.program op) →
    (s.stripe op.stripe).state = .opened op.front ∧ op.place = (s.stripe op.stripe).written
  erase : ∀ n, s.store.wings.erasing = some n → n ∈ s.store.dirtyQueue
  copy : ∀ c, s.copy = some c → CopyOk c s
  fed : ∀ op, s.store.wings = .both (.program op) → op.front = .relocate →
    (op.ceased = false → ∃ c, s.copy = some c ∧ c.step = .program ∧ c.request = .inFlight) ∧
    (op.ceased = true → ∀ c, s.copy = some c → c.dest = none)
  fetched : ∀ w op, s.store.wings.fetching w = some op → op.owner = .relocation →
    ∃ c, s.copy = some c ∧ c.request = .inFlight ∧ c.step = (match w with | .low => .fetchLow | .high => .fetchHigh)

/-- The stripe table and its queues are in order once the part is formatted; until then, and in START, nothing is in hand. -/
structure StripesOk (s : State) : Prop where
  tables : TablesOk s
  idle : s.running = false → s.control.mode = .start
  unformatted : s.control.formatted = false → s.control.mode = .start
  start : s.control.mode = .start → s.store.wings = .split none none ∧ s.relocation.round = none ∧ s.store.stalled = []
  table : s.control.formatted = true → StripeTableOk s

/-! ### Invariants of the catalog (R38, R39) -/

/-- The leaves an extent list names. -/
def leavesIn (es : List Extent) : Nat := (es.map (·.count)).sum

/-- An object has 1 to 4 versions with strictly rising numbers, none past its last number, and each version's extents hold the leaves of
its body (R38, R39). -/
structure ObjectOk (o : Object) : Prop where
  count : 1 ≤ o.versions.length ∧ o.versions.length ≤ Config.versionsPerObject
  rising : (o.versions.map (·.number)).Pairwise (· < ·)
  last : o.lastNumber ≤ 255 ∧ ∀ v ∈ o.versions, v.number ≤ o.lastNumber
  leaves : ∀ v ∈ o.versions, 1 ≤ v.length ∧ leavesIn v.extents = leavesOf v.length

/-- Every object is in order, and so are the deposits and the pass that will enter versions: what each has had programmed is what its
provisional record or output record names, and the new number of a pass is above its object's last number. -/
structure CatalogOk (s : State) : Prop where
  tables : TablesOk s
  idle : s.running = false → s.control.mode = .start
  objects : ∀ x ∈ s.catalog.objects, ObjectOk x.2
  start : s.control.mode = .start → s.intake.descriptors = [] ∧ s.passes.active = none ∧ s.passes.queue = []
  deposits : ∀ x ∈ s.intake.descriptors, 1 ≤ x.2.length ∧
    leavesIn (s.provisional x.1) = if x.2.state = .dropped then 0 else x.2.programmed
  records : s.control.mode ≠ .start → ∀ n, s.descriptor n = none → leavesIn (s.provisional n) = 0
  run : ∀ r ∈ s.intake.run, ∀ d, s.descriptor r.descriptor = some d → d.state ≠ .dropped
  output : s.control.mode ≠ .start → (s.passes.active = none → s.passes.output = []) ∧
    ∀ p, s.passes.active = some p → leavesIn s.passes.output = p.written
  written : ∀ p, s.passes.active = some p → ∀ b, p.bound = some b → p.written < leavesOf b.length
  queued : ∀ p ∈ s.passes.queue, p.written = 0
  number : ∀ p, s.passes.active = some p → ∀ n, p.newNumber = some n → (1 ≤ n ∧ n ≤ 255) ∧
    ∀ o, s.object p.key = some o → o.lastNumber < n ∧ o.versions.length < Config.versionsPerObject

/-! ### Invariants of staging, the stream queues and the pass queue (R47, R48, R67, R99) -/

/-- Staging holds at most 80 leaves and 3 descriptors of a port; a port's queue holds at most 5 streams, and its streams distinct ids
below 16; the pass queue holds at most 4 passes, and the passes distinct ids below 256. -/
structure QueuesOk (s : State) : Prop where
  descriptors : Table.Ordered s.intake.descriptors
  staging : s.occupancy ≤ Config.stagingLeaves
  held : ∀ p, (s.intake.descriptors.filter (fun e => e.2.holder == p)).length ≤ Config.descriptorsPerPort
  streams : ∀ p, (s.streams.ports.get p).queue.length ≤ Config.waitingStreams + 1
  streamIds : ∀ p, (s.streams.ports.get p).ids.Nodup ∧ ∀ i ∈ (s.streams.ports.get p).ids, i < Config.streamIds
  passes : s.passes.queue.length ≤ Config.passQueue
  passIds : s.passIds.Nodup ∧ ∀ i ∈ s.passIds, i < 256

end Sys2Proof.Machine
end

