-- ==== Sys2Proof/Certificates/Slice0/Obligations.lean ====
section
/-! DEFINITION. The statements, drawn from the manual's rules. Each docstring names the rules it formalises, and the log entry where a
clause is the model's choice. -/

open Sys2Proof Sys2Proof.Machine

/-! ### The machine and the links -/

/-- The command at the front of the queue acts on the state with the queue's rest. That an empty queue leaves the part as it is, is the
model's choice (assumption 1). -/
def Obligations.StepRunsTheFrontCommand : Prop :=
  (∀ (c : Instr) (rest : List Instr) (s : State), s.pending = c :: rest → step s = exec c { s with pending := rest }) ∧
  (∀ s : State, s.pending = [] → step s = .next s)

/-- Every command, in every state, answers a next state, with the waiting commands as they were. That commands wait in a queue is the
model's choice (assumption 1), and so is that an event that cannot happen in a state leaves the state as it is (assumption 2). -/
def Obligations.EveryCommandAnswersNext : Prop :=
  ∀ (c : Instr) (s : State), ∃ t, exec c s = .next t ∧ t.pending = s.pending

/-- R177, R178, R182, R183, R184: a request is not received while its port's link unit receives none, is refused BUSY while a request
is in progress, and is otherwise screened for permission, START and its payload's length, in that order; a reply of the screening is
empty. When a link unit receives none, that every request command meets BUSY alike, and that a command carries its payload's fit, are
the model's (assumptions 12, 13 and 25). -/
def Obligations.RequestsAreScreenedInOrder : Prop :=
  ∀ (c : Instr) (f : Frame) (s : State), frameOf c = some f →
    let p := f.port
    let always := requestCodeOf c = 0x29 ∨ requestCodeOf c = 0x2A
    (s.receives p = false → exec c s = .next s) ∧
    (s.receives p = true → s.inProgress p = true → exec c s = .next (transmit p (refuse p f.tag .busy s))) ∧
    (Listening p s → p ∉ permittedTo (requestCodeOf c) → exec c s = .next (answered f ⟨.notPermitted, []⟩ s)) ∧
    (Listening p s → p ∈ permittedTo (requestCodeOf c) → s.control.mode = .start → ¬always →
      exec c s = .next (answered f ⟨.starting, []⟩ s)) ∧
    (Listening p s → p ∈ permittedTo (requestCodeOf c) → (s.control.mode = .start → always) → f.fits = false →
      exec c s = .next (answered f ⟨.badArgument, []⟩ s))

/-- R176, R177, R178: a malformed frame is answered BAD_FRAME and an unknown code UNKNOWN_REQUEST; while a request is in progress the answer
goes to the refusal slot, which keeps the refusal it holds. R177, R179, R183: when a reply has been sent its slot is empty and the oldest
waiting reply is sent next; with none waiting the earliest-ended stream's end frame is. When a break ends, the link unit is free to receive
and send again. What the command BUSY stands for, and that a whole frame's command leaves the link unit hunting, are the model's
(assumptions 12 and 31). -/
def Obligations.FramesAreAnsweredAndRepliesSent : Prop :=
  (∀ (p : Port) (tag code : Octet) (s : State), s.receives p = true →
     (s.inProgress p = false →
       exec (.badFrame p tag) s = .next (transmit p (reply p tag ⟨.badFrame, []⟩ s)) ∧
       (code.toNat = 0 ∨ 0x2E < code.toNat →
         exec (.unknownRequest p tag code) s = .next (transmit p (reply p tag ⟨.unknownRequest, []⟩ s)))) ∧
     (s.inProgress p = true →
       exec (.badFrame p tag) s = .next (transmit p (refuse p tag .badFrame s)) ∧
       exec (.busy p tag true) s = .next (transmit p (refuse p tag .badFrame s)) ∧
       exec (.busy p tag false) s = .next (transmit p (refuse p tag .busy s)) ∧
       ((s.links.get p).refusal.isSome = true → ∀ st,
         refuse p tag st s = { s with links := s.links.set p { s.links.get p with reception := .hunting } }))) ∧
  (∀ (p : Port) (s : State),
     let l := s.links.get p
     let withLink : Link → State := fun x => { s with links := s.links.set p x }
     (∀ (slot next : Slot) (rest : List Slot), l.sending = some (.reply slot) → l.waiting = next :: rest → l.breakHeld = false →
       exec (.replySent p) s = .next (withLink { l.replied slot with waiting := rest, sending := some (.reply next) })) ∧
     (∀ (slot : Slot) (st : Stream) (rest : List Stream), l.sending = some (.reply slot) → l.waiting = [] →
       l.breakHeld = false → (s.streams.ports.get p).ended = st :: rest →
       exec (.replySent p) s = .next (withLink { l.replied slot with sending := some (.ending st.id) })) ∧
     (s.running = true → l = { Link.reset with breakHeld := true } → streamFrame (s.streams.ports.get p) = none →
       exec (.breakEnd p) s = .next (withLink Link.reset)))

/-- R178, R180: a well-formed request's payload, read by the code and the fields of its request, gives the request back. The encodings that
R180 leaves open are the model's (assumptions 16, 26, 33 and 48). R176, R180: a hunting link unit that receives a request frame's octets, with
others than a start octet before it, takes exactly that frame and hunts again, and the frame's command is the next to run. That octets
become commands before they run is the model's (assumption 31). -/
def Obligations.RequestFramesReadBack : Prop :=
  (∀ (c : Instr) (f : Frame), c.wf = true → frameOf c = some f → f.fits = true →
     commandOf f.port f.tag (BitVec.ofNat 8 (requestCodeOf c)) (payloadOf c) = c) ∧
  (∀ (tag code : Octet) (payload noise : List Octet), payload.length ≤ Config.maxPayload → (∀ o ∈ noise, o ≠ 0xC3#8) →
     receiveOctets .hunting (noise ++ requestFrame tag code payload) = (.hunting, [.taken tag code payload])) ∧
  (∀ (p : Port) (tag code : Octet) (payload : List Octet) (s : State), payload.length ≤ Config.maxPayload →
     s.receives p = true → (s.links.get p).reception = .hunting →
     (requestFrame tag code payload).foldl (fun s o => hear p o s) s
       = { s with pending := commandOf p tag code payload :: s.pending })

/-- A command changes only the parts of the state that its rules let it reach (`reach`). -/
def Obligations.CommandsReachOnlyTheirParts : Prop :=
  ∀ (c : Instr) (s t : State) (part : Part), part ∉ reach c → exec c s = .next t → samePart s t part

/-- R2, R11, R16, R17: a program WRITTEN leaves its leaf's two sheets with the leaf's halves and their tags, a program FAILED changes no
other leaf, and an erase ERASED leaves no sheet of its stripe with a tag and changes no other stripe. What a lost leaf holds is a free value
(assumption 5). That an erased sheet has no body octets (assumption 4), and that a programmed sheet's tag area is a record of 13 octets and
1,011 zeros and an erased sheet's has none that are stated (assumption 42), are the model's choices. -/
def Obligations.FlashChangesOnlyWhereProgrammed : Prop :=
  (∀ (s t : State) (op : ProgramOp) (w : Wing), s.store.wings = .both (.program op) → exec .leafProgramWritten s = .next t →
    t.sheetAt op.stripe op.place w = programmedSheet op w ∧
    ∀ n i, leafAddress n i ≠ leafAddress op.stripe op.place → t.sheetAt n i w = s.sheetAt n i w) ∧
  (∀ (s t : State) (op : ProgramOp) (w : Wing), s.store.wings = .both (.program op) → exec .leafProgramFailed s = .next t →
    ∀ n i, leafAddress n i ≠ leafAddress op.stripe op.place → t.sheetAt n i w = s.sheetAt n i w) ∧
  (∀ (s t : State) (n : Nat) (w : Wing), Memory.wf s.store.flash → s.store.wings = .both (.erase n) →
    exec (.stripeEraseComplete true) s = .next t →
    ∀ k i, i < Config.leavesPerStripe →
      t.sheetAt k i w = if k = n then erasedSheet else s.sheetAt k i w)

/-! ### Invariants -/

/-- R177, R179, R183: every step keeps the link units in order: each reply in one place, and no free transmitter with something to
send. -/
def Obligations.StepKeepsLinks : Prop := ∀ s t : State, LinksOk s → step s = .next t → LinksOk t

/-- R168: every step keeps each condition that holds pending for its recipients. That the clock is saturated while its tick is at the last
value is read by inference (assumption 10). -/
def Obligations.StepKeepsNotices : Prop := ∀ s t : State, NoticesOk s → step s = .next t → NoticesOk t

/-- R158, R160: every step keeps the statement queue bounded and consecutively numbered, and the latch ending with its HOUSE record. -/
def Obligations.StepKeepsStatements : Prop := ∀ s t : State, StatementsOk s → step s = .next t → StatementsOk t

/-- R126, R152, R165, R172, R173: every step keeps the clock, the settings, the globals and the countdown in their ranges, and the
preserve cause present in PRESERVE alone. -/
def Obligations.StepKeepsOperating : Prop := ∀ s t : State, OperatingOk s → step s = .next t → OperatingOk t

/-- R1, R5, R26, R36, R48, R65, R114, R122, R125: every step keeps every table in its one form with its keys in range: stripe numbers,
edition handles, object keys, descriptor numbers, provisional records, account and contributor ids, tariff cells. -/
def Obligations.StepKeepsTables : Prop := ∀ s t : State, TablesOk s → step s = .next t → TablesOk t

/-- R120, R135, R153: every step keeps held equal to the orders' fees, every account within its limit, and what the accounts were
charged equal to what the house and the contributors received. -/
def Obligations.StepKeepsMoney : Prop := ∀ s t : State, MoneyOk s → step s = .next t → MoneyOk t

/-- R67, R70, R76: every step keeps every stripe's reader count equal to the number of stream snapshots that name the stripe. -/
def Obligations.StepKeepsReaders : Prop := ∀ s t : State, ReadersOk s → step s = .next t → ReadersOk t

/-- R4, R5, R10, R22: every step keeps the program-in-flight mark at the program in flight and the erase in flight at the dirty queue's
head. -/
def Obligations.StepKeepsWings : Prop := ∀ s t : State, WingsOk s → step s = .next t → WingsOk t

/-- R6, R7, R13, R39, R92: every step keeps the stripe table's laws: the free queue holds exactly the FREE stripes and the dirty queue the
DIRTY ones, each once; at most one stripe is OPEN per front; live is at most written and written at most 96; and the copy in hand has
room for its extent where it was placed. -/
def Obligations.StepKeepsStripes : Prop := ∀ s t : State, StripesOk s → step s = .next t → StripesOk t

/-- R38, R39: every step keeps every object's versions, 1 to 4, in strictly rising numbers not above its last number, and every version's
extents holding the leaves of its body. -/
def Obligations.StepKeepsCatalog : Prop := ∀ s t : State, CatalogOk s → step s = .next t → CatalogOk t

/-- R47, R48, R67, R99: every step keeps staging at most 80 leaves and 3 descriptors of a port, each stream queue at most 5 streams with
the port's ids distinct and below 16, and the pass queue at most 4 passes with the passes' ids distinct and below 256. -/
def Obligations.StepKeepsQueues : Prop := ∀ s t : State, QueuesOk s → step s = .next t → QueuesOk t

/-- The state the model takes for reset (assumption 3) meets every invariant. -/
def Obligations.ResetMeetsTheInvariants : Prop :=
  LinksOk State.reset ∧ NoticesOk State.reset ∧ StatementsOk State.reset ∧ OperatingOk State.reset ∧ TablesOk State.reset ∧
    MoneyOk State.reset ∧ ReadersOk State.reset ∧ WingsOk State.reset ∧ StripesOk State.reset ∧ CatalogOk State.reset ∧
    QueuesOk State.reset

/-! ### Editions and objects -/

/-- R26, R27, R28: OPEN_EDITION with a date in the port's window and a key not in use takes the lowest free handle, and changes nothing
else; a date outside the window or a number above 7 is BAD_ARGUMENT, and a key in use EXISTS. That a key in use is answered EXISTS also
where its edition is another port's OPEN or CLOSING one is the model's choice (assumption 50). -/
def Obligations.OpenEditionTakesTheLowestHandle : Prop :=
  ∀ (f : Frame) (date number : Nat) (s : State), Admitted deskAndBench f s →
    let today := s.clock.day
    let window : Prop := number ≤ 7 ∧ (f.port = .desk → date ≤ 65535 ∧ today ≤ date + 1 ∧ date ≤ today + 1) ∧
      (f.port = .bench → date + 2 ≤ today)
    let taken : Prop := ∃ e ∈ s.catalog.editions, e.2.date = date ∧ e.2.number = number
    let record : Edition :=
      { date := date, number := number, origin := (if f.port = .desk then .current else .historical), owner := f.port,
        state := .opened, opened := ⟨s.clock.day, s.clock.tick⟩, release := none, published := none, outstanding := 0,
        pages := 0, photos := 0 }
    (¬window → exec (.openEdition f date number) s = .next (answered f ⟨.badArgument, []⟩ s)) ∧
    (window → taken → exec (.openEdition f date number) s = .next (answered f ⟨.alreadyExists, []⟩ s)) ∧
    (∀ h, window → ¬taken → Table.Ordered s.catalog.editions → h < 65536 → tget s.catalog.editions h = none →
      (∀ k < h, (tget s.catalog.editions k).isSome = true) →
      exec (.openEdition f date number) s = .next (answered f ⟨.ok, be 2 h⟩
        { s with catalog.editions := tput s.catalog.editions h record }))

/-- R29, R30: CLOSE_EDITION of an OPEN edition with no FILLING descriptor leaves it CLOSING with its ENDED descriptors outstanding, or
publishes it at once when there are none; the release stamp of a CURRENT edition is the later of the one given and now, and a
HISTORICAL edition's is its publication. R32: ABANDON_EDITION of the port's OPEN edition frees its handle and leaves no object and no
FILLING or ENDED descriptor of it. -/
def Obligations.OpenEditionsAreClosedOrAbandoned : Prop :=
  (∀ (f : Frame) (h : Nat) (release : Stamp) (e : Edition) (s : State), Admitted deskAndBench f s → s.edition h = some e →
     e.owner = f.port → e.state = .opened → release.tick ≤ 1382399 → s.depositsOf h .filling = 0 →
     let now : Stamp := ⟨s.clock.day, s.clock.tick⟩
     let later := if earlier release now then now else release
     (s.depositsOf h .ended ≠ 0 → ∀ r : Option Stamp, (r = match e.origin with | .current => some later | .historical => none) →
       exec (.closeEdition f h release) s = .next (concluded f ⟨.ok, be 1 2 ++ Machine.optional (r.map stampOctets)⟩
         (s.putEdition h { e with state := .closing, release := r, outstanding := s.depositsOf h .ended }))) ∧
     (s.depositsOf h .ended = 0 → ∀ r : Stamp, (r = match e.origin with | .current => later | .historical => now) →
       exec (.closeEdition f h release) s = .next (concluded f ⟨.ok, be 1 3 ++ Machine.optional (some (stampOctets r))⟩
         (notifyAll .editionPublished allPorts
           (s.putEdition h { e with state := .published, release := some r, published := some now, outstanding := 0 }))))) ∧
  (∀ (f : Frame) (h : Nat) (e : Edition) (s : State), Admitted deskAndBench f s → TablesOk s →
     (∀ x ∈ s.catalog.objects, x.1 = x.2.key.code) → s.edition h = some e → e.owner = f.port → e.state = .opened →
     ∃ t, exec (.abandonEdition f h) s = .next (concluded f ⟨.ok, []⟩ t) ∧ t.edition h = none ∧ t.objectsOf h = [] ∧
       t.openDeposits h = [] ∧ t.ledger = s.ledger ∧ t.streams = s.streams)

/-- R33, R109, R147: WITHDRAW_EDITION of a PUBLISHED edition leaves it WITHDRAWN with EDITION_WITHDRAWN pending for all ports, no order
and no pass on its objects, and the object table as it was. R34, R35: REINSTATE_EDITION returns a WITHDRAWN edition to PUBLISHED and
changes no object; PURGE_EDITION leaves it PURGED, with its other fields as they were and no object. -/
def Obligations.EditionsAreWithdrawnReinstatedAndPurged : Prop :=
  (∀ (f : Frame) (h : Nat) (e : Edition) (s : State), Admitted deskOnly f s → s.edition h = some e → e.state = .published →
     ∃ t, exec (.withdrawEdition f h) s = .next (concluded f ⟨.ok, []⟩ t) ∧ t.edition h = some { e with state := .withdrawn } ∧
       t.catalog.objects = s.catalog.objects ∧
       (∀ p, (t.notices.get p).pending &&& noticeBit .editionWithdrawn = noticeBit .editionWithdrawn) ∧
       (∀ st ∈ t.streams.ports.counter.queue, st.isOrder = true → st.key.handle ≠ h) ∧
       (∀ q ∈ t.passes.queue, q.key.handle ≠ h) ∧ (∀ q ∈ t.passes.active, q.key.handle ≠ h) ∧
       t.streams.ports.desk = s.streams.ports.desk ∧ t.streams.ports.bench = s.streams.ports.bench) ∧
  (∀ (f : Frame) (h : Nat) (e : Edition) (s : State), Admitted deskOnly f s → s.edition h = some e → e.state = .withdrawn →
     exec (.reinstateEdition f h) s = .next (answered f ⟨.ok, []⟩
       (notifyAll .editionPublished allPorts (s.putEdition h { e with state := .published }))) ∧
     (TablesOk s → (∀ x ∈ s.catalog.objects, x.1 = x.2.key.code) →
       ∃ t, exec (.purgeEdition f h) s = .next (concluded f ⟨.ok, []⟩ t) ∧ t.edition h = some { e with state := .purged } ∧
         t.objectsOf h = [] ∧ (∀ k, k ≠ h → t.edition k = s.edition k) ∧ t.streams = s.streams ∧ t.passes = s.passes))

/-- R42, R43: DISCARD_VERSION removes a DAMAGED version, or a GOOD one of a pass, and answers the best version that remains; the object
goes with its last version; a GOOD version 0 is refused WRONG_STATE. A request of the copy in hand that waits for the removed version
is withdrawn (chapter 5.4; assumption 19). -/
def Obligations.DiscardVersionRemovesTheVersion : Prop :=
  ∀ (f : Frame) (w : WireKey) (k : Key) (n : Nat) (e : Edition) (o : Object) (v : Version) (s : State), Admitted benchOnly f s →
    keyOf w = some k → s.edition w.handle = some e → (e.state = .published ∨ e.state = .withdrawn) → s.object k = some o →
    o.key = k → Table.Ordered s.catalog.objects → o.version n = some v →
    let rest := o.versions.filter (fun x => x.number != n)
    let answer : Answer := ⟨.ok, Machine.optional (({ o with versions := rest } : Object).best.map (fun b => be 1 b.number))⟩
    (v.damaged = false → v.origin = .deposit →
      exec (.discardVersion f w n) s = .next (concluded f ⟨.wrongState, []⟩ s)) ∧
    (v.damaged = true ∨ v.origin = .pass → rest ≠ [] →
      exec (.discardVersion f w n) s = .next (concluded f answer
        (withdrawCopy s ((extentsDie v.extents s).putObject { o with versions := rest })))) ∧
    (v.damaged = true ∨ v.origin = .pass → rest = [] →
      ∃ t, exec (.discardVersion f w n) s = .next (concluded f answer t) ∧ t.object k = none ∧ t.catalog.editions = s.catalog.editions)

/-- R28: to the counter port and to the port that does not own it, an OPEN or CLOSING edition answers as a free handle does: each request
whose first check is that the edition is visible is answered NOT_FOUND and changes nothing, whatever its other operands. OPEN_EDITION makes
no such check, and OpenEditionTakesTheLowestHandle says what it answers (assumption 50). -/
def Obligations.UnpublishedEditionsAreHidden : Prop :=
  ∀ (f : Frame) (h : Nat) (e : Edition) (s : State), Listening f.port s → s.control.mode ≠ .start → f.fits = true →
    s.edition h = some e → e.state = .opened ∨ e.state = .closing → f.port ≠ e.owner →
    let quietly := answered f ⟨.notFound, []⟩ s
    let settling := concluded f ⟨.notFound, []⟩ s
    exec (.findEdition f (.handle h)) s = .next quietly ∧
    (∀ w : WireKey, w.handle = h → exec (.findObject f w) s = .next quietly) ∧
    (f.port ∈ deskAndBench →
      (∀ k n len r c fm ps, exec (.beginObject f h k n len r c fm ps) s = .next quietly) ∧
      (∀ release, exec (.closeEdition f h release) s = .next settling) ∧ exec (.abandonEdition f h) s = .next settling ∧
      (∀ (w : WireKey) v o n, w.handle = h → exec (.read f w v o n) s = .next settling)) ∧
    (f.port = .desk → exec (.withdrawEdition f h) s = .next settling ∧ exec (.reinstateEdition f h) s = .next quietly ∧
      exec (.purgeEdition f h) s = .next settling) ∧
    (f.port = .bench → ∀ (w : WireKey) n, w.handle = h → exec (.discardVersion f w n) s = .next settling)

/-- R41: the best version is the last GOOD one of the list; BEST chooses it, and a number chooses its version unless it is DAMAGED. -/
def Obligations.BestVersionIsTheLastGoodOne : Prop :=
  ∀ o : Object,
    (o.best = none ↔ ∀ v ∈ o.versions, v.damaged = true) ∧
    (∀ a v b, o.versions = a ++ v :: b → v.damaged = false → (∀ x ∈ b, x.damaged = true) →
      o.best = some v ∧ o.choose .best = .ok v) ∧
    (o.best = none → o.choose .best = .error .damaged) ∧
    (∀ a v b, o.versions = a ++ v :: b → (∀ x ∈ a, x.number ≠ v.number) →
      o.choose (.number v.number) = if v.damaged then .error .damaged else .ok v) ∧
    (∀ n, (∀ v ∈ o.versions, v.number ≠ n) → o.choose (.number n) = .error .notFound)

/-! ### Intake -/

/-- R48, R49, R50, R51: BEGIN_OBJECT that passes every check opens the lowest-numbered free descriptor, FILLING and empty, with the fields
given; it waits on the placement photos that no visible object record holds, and takes no staging leaf. -/
def Obligations.BeginObjectOpensADescriptor : Prop :=
  ∀ (f : Frame) (h kind number length rights contributor format n : Nat) (placements : List WireKey) (e : Edition) (k : Key)
    (rs : Rights) (fm : Format) (ks : List Key) (s : State), Admitted deskAndBench f s → s.control.mode = .normal →
    s.edition h = some e → e.owner = f.port → e.state = .opened → keyOf ⟨h, kind, number⟩ = some k → s.object k = none →
    (∀ x ∈ s.intake.descriptors, x.2.key = k → x.2.state = .dropped) → rightsOf rights = some rs → formatOf format = some fm →
    photoKeys placements = some ks → (k.kind = .photo → ks = []) → ks.length ≤ 32 → ks.Nodup →
    1 ≤ length → length ≤ 33554432 → contributor ≤ 1023 →
    (∀ q ∈ ks, s.photoEntered f.port q = true ∨ s.endedHolds f.port q = true) →
    (contributor = 0 ∨ (s.contributor contributor).state ≠ .unused) →
    (s.intake.descriptors.filter (fun x => x.2.holder == f.port)).length < 3 →
    s.catalog.objects.length + (s.intake.descriptors.filter (fun x => x.2.state != .dropped)).length < 1048576 →
    n < 4 → n ∉ s.intake.descriptors.map (·.1) → (∀ m < n, m ∈ s.intake.descriptors.map (·.1)) →
    exec (.beginObject f h kind number length rights contributor format placements) s = .next (answered f ⟨.ok, be 1 n⟩
      (s.putDescriptor n
        { holder := f.port, state := .filling, key := k, rights := rs, contributor := contributor, format := fm, placements := ks,
          waits := ks.filter (fun q => !s.photoEntered f.port q), length := length, next := 0, register := 0xFFFFFFFF#32,
          staged := [], programmed := 0 }))

/-- R47, R52, R53, R55: PUT_CHUNK at the next expected offset appends its octets: the next offset rises by their number, the running check
takes them in, and they stand at the end of the leaf in hand or begin a new staging leaf; with no staging leaf free for a chunk that needs
one, it is refused STAGING_FULL and sets the port's space request flag alone. The form of the running check's register is the model's
(assumption 18). -/
def Obligations.PutChunkAppendsItsOctets : Prop :=
  ∀ (f : Frame) (n : Nat) (data : List Octet) (d : Descriptor) (s : State), Admitted deskAndBench f s →
    s.control.mode = .normal → s.descriptor n = some d → d.holder = f.port → d.state = .filling → 1 ≤ data.length →
    data.length ≤ 4096 → d.next + data.length ≤ d.length →
    let leaf := d.next / 32768
    let room := 32768 - d.next % 32768
    let answer : Answer := ⟨.ok, be 4 (d.next + data.length)⟩
    let taking : List StagedLeaf → Descriptor := fun staged =>
      { d with staged := staged, next := d.next + data.length, register := crc32Update d.register data }
    let filled : List Octet → List StagedLeaf := fun octets =>
      d.staged.map (fun l => if l.leaf = leaf then { l with octets := l.octets ++ octets } else l)
    (d.next % 32768 ≠ 0 → data.length ≤ room →
      exec (.putChunk f n d.next data) s = .next (concluded f answer (s.putDescriptor n (taking (filled data))))) ∧
    (d.next % 32768 = 0 → s.occupancy < 80 → (∀ l ∈ d.staged, l.leaf ≠ leaf) →
      exec (.putChunk f n d.next data) s = .next (concluded f answer
        { s.putDescriptor n (taking (d.staged ++ [⟨leaf, s.intake.nextSequence, data⟩])) with
          intake.nextSequence := s.intake.nextSequence + 1 })) ∧
    (d.next % 32768 ≠ 0 → room < data.length → s.occupancy < 80 →
      exec (.putChunk f n d.next data) s = .next (concluded f answer
        { s.putDescriptor n (taking (filled (data.take room) ++ [⟨leaf + 1, s.intake.nextSequence, data.drop room⟩])) with
          intake.nextSequence := s.intake.nextSequence + 1 })) ∧
    ((d.next % 32768 = 0 ∨ room < data.length) → 80 ≤ s.occupancy →
      exec (.putChunk f n d.next data) s = .next (concluded f ⟨.stagingFull, []⟩
        { s with intake.space := s.intake.space.set f.port true }))

/-- R54, R56: END_OBJECT of a whole body leaves its descriptor ENDED when the check given is the running check (here with no complete
descriptor waiting to be entered), and drops the deposit when it is not. R56, R57, R62: DROP_OBJECT frees its descriptor, clears its
provisional record and ends its run; a DROPPED descriptor is freed and its port told the cause and the key. The form of the running check's
register is the model's (assumption 18). -/
def Obligations.DepositsEndAndAreDropped : Prop :=
  (∀ (f : Frame) (n : Nat) (check : BitVec 32) (d : Descriptor) (s : State), Admitted deskAndBench f s →
     Table.Ordered s.intake.descriptors → s.descriptor n = some d → d.holder = f.port → d.state = .filling → d.next = d.length →
     (check = ~~~d.register → d.staged ≠ [] → (∀ x ∈ s.intake.descriptors, x.2.complete = true → x.2.waits ≠ []) →
       exec (.endObject f n check) s = .next (concluded f ⟨.ok, []⟩ (s.putDescriptor n { d with state := .ended }))) ∧
     (check ≠ ~~~d.register →
       ∃ t, exec (.endObject f n check) s = .next (concluded f ⟨.checkMismatch, []⟩ t) ∧ t.descriptor n = none ∧
         t.ledger = s.ledger ∧ t.streams = s.streams)) ∧
  (∀ (f : Frame) (n : Nat) (d : Descriptor) (s : State), Admitted deskAndBench f s → Table.Ordered s.intake.descriptors →
     Table.Ordered s.intake.provisional → s.descriptor n = some d → d.holder = f.port →
     (d.state ≠ .dropped →
       ∃ t, exec (.dropObject f n) s = .next (concluded f ⟨.ok, []⟩ t) ∧ t.descriptor n = none ∧ t.provisional n = [] ∧
         (∀ r, t.intake.run = some r → r.descriptor ≠ n) ∧ t.ledger = s.ledger ∧ t.streams = s.streams ∧
         t.store.flash = s.store.flash) ∧
     (d.state = .dropped →
       exec (.dropObject f n) s = .next (concluded f ⟨.aborted, be 1 1 ++ keyOctets d.key⟩
         { s with intake.descriptors := tdel s.intake.descriptors n })))

/-! ### Streams -/

/-- R67, R70, R71: READ of a GOOD version with a window inside its body is accepted: the stream takes the lowest free id and the version's
extents as its snapshot, joins the port's queue at its window's start, and each stripe of the snapshot gains a reader. -/
def Obligations.ReadIsAccepted : Prop :=
  ∀ (f : Frame) (w : WireKey) (source : Source) (offset window size id : Nat) (e : Edition) (o : Object) (v : Version) (s : State),
    Admitted deskAndBench f s → s.seeObject f.port w = .ok (e, o) → o.choose source = .ok v → offset < v.length →
    window ≤ v.length - offset → (size = if window = 0 then v.length - offset else window) →
    (s.streams.ports.get f.port).queue.length < 5 → id < 16 → id ∉ (s.streams.ports.get f.port).ids →
    (∀ m < id, m ∈ (s.streams.ports.get f.port).ids) → Table.Ordered s.store.stripes →
    let st : Stream :=
      { id := id, kind := .read, key := o.key, version := v.number, serial := v.serial, snapshot := v.extents, length := v.length,
        offset := offset, size := size, position := offset, send := none, ahead := none, fetch := .none, final := none }
    ∃ t, exec (.read f w source offset window) s
        = .next (concluded f ⟨.accepted, be 1 id ++ be 1 v.number ++ be 4 size⟩ t) ∧
      (t.streams.ports.get f.port).queue = (s.streams.ports.get f.port).queue ++ [st] ∧
      (∀ n, (t.stripe n).readers = (s.stripe n).readers + if n ∈ v.extents.map (·.stripe) then 1 else 0) ∧
      (∀ n, { t.stripe n with readers := (s.stripe n).readers } = s.stripe n) ∧ t.catalog = s.catalog ∧ t.ledger = s.ledger

/-- R78, R144, R146: CANCEL_STREAM ends a READ with ABORTED and releases an order, whose account's held falls by the fee, with RELEASED; an
ENDED stream is answered WRONG_STATE and an id that no stream holds NOT_FOUND. That held stops at 0 where the laws do not hold is the
model's (assumption 37). -/
def Obligations.CancelStreamEndsTheStream : Prop :=
  ∀ (f : Frame) (id : Nat) (s : State), Listening f.port s → s.control.mode ≠ .start → f.fits = true →
    let ps := s.streams.ports.get f.port
    let unheld : OrderPart → State := fun o =>
      let a := s.account o.account
      s.putAccount o.account { a with held := a.held - o.breakdown.fee }
    (∀ a st b, ps.queue = a ++ st :: b → st.id = id → (∀ x ∈ a ++ b, x.id ≠ id) →
      ∃ t d, exec (.cancelStream f id) s = .next (concluded f ⟨.ok, []⟩ t) ∧ (t.streams.ports.get f.port).queue = a ++ b ∧
        (t.streams.ports.get f.port).ended = ps.ended ++ [d] ∧ d.id = id ∧ d.position = st.position ∧ d.fetch = .none ∧
        (st.kind = .read → d.final = some .aborted ∧ t.ledger = s.ledger) ∧
        (∀ o, st.kind = .order o → d.final = some .released ∧ d.kind = .order { o with cause := some .cancelStream } ∧
          t = endStream f.port st d.kind d.final (unheld o))) ∧
    ((∀ x ∈ ps.queue, x.id ≠ id) → (∃ x ∈ ps.ended, x.id = id) →
      exec (.cancelStream f id) s = .next (concluded f ⟨.wrongState, []⟩ s)) ∧
    ((∀ x ∈ ps.queue, x.id ≠ id) → (∀ x ∈ ps.ended, x.id ≠ id) →
      exec (.cancelStream f id) s = .next (concluded f ⟨.notFound, []⟩ s))

/-- R1, R39, R72: a version leaf lies in the extent whose leaves cover it, at the extent's first leaf and the leaves of the body before
it; no leaf lies past the extents' sum. -/
def Obligations.LocateFindsTheLeaf : Prop :=
  ∀ (es : List Extent) (j : Nat),
    (∀ a e b, es = a ++ e :: b → (a.map (·.count)).sum ≤ j → j < (a.map (·.count)).sum + e.count →
      locate es j = some (e.stripe, e.first + (j - (a.map (·.count)).sum))) ∧
    (locate es j = none ↔ (es.map (·.count)).sum ≤ j)

/-- R69, R73, R74, R75, R76: a data frame's octets count when it has been sent: short of the window's end the ACTIVE stream's position
rises by them; at the window's end a READ ends OK and counts one house read; the sending of an end frame frees the stream's id. -/
def Obligations.SentFramesMoveTheStreamOn : Prop :=
  ∀ (p : Port) (s : State),
    let reads := s.billing.reads + 1
    let passed := decide (16777215 < reads)
    let counted : Billing := { s.billing with reads := min reads 16777215, overflow := s.billing.overflow || passed }
    (∀ st rest offset octets, (s.links.get p).sending = some (.data st.id offset octets) →
      (s.streams.ports.get p).queue = st :: rest → (∀ x ∈ rest, x.id ≠ st.id) →
      st.position + octets.length < st.offset + st.size →
      ∃ t st', exec (.dataFrameSent p) s = .next (conclude t) ∧ (t.streams.ports.get p).queue = st' :: rest ∧
        st'.position = st.position + octets.length ∧ st'.snapshot = st.snapshot ∧ st'.id = st.id ∧ st'.kind = st.kind ∧
        t.billing = s.billing ∧ t.ledger = s.ledger ∧ t.store = s.store) ∧
    (∀ st rest offset octets, (s.links.get p).sending = some (.data st.id offset octets) →
      (s.streams.ports.get p).queue = st :: rest → (∀ x ∈ rest, x.id ≠ st.id) → st.kind = .read →
      st.offset + st.size ≤ st.position + octets.length →
      ∃ t d, exec (.dataFrameSent p) s = .next (conclude t) ∧ (t.streams.ports.get p).queue = rest ∧
        (t.streams.ports.get p).ended = (s.streams.ports.get p).ended ++ [d] ∧ d.id = st.id ∧ d.final = some .ok ∧
        d.position = st.position + octets.length ∧ t.ledger = s.ledger ∧
        t.billing = counted) ∧
    (∀ id, (s.links.get p).sending = some (.ending id) →
      ∃ t, exec (.endFrameSent p) s = .next (conclude t) ∧ (t.links.get p).sending = none ∧
        (t.streams.ports.get p).queue = (s.streams.ports.get p).queue ∧
        (t.streams.ports.get p).ended = (s.streams.ports.get p).ended.filter (fun x => x.id != id) ∧
        t.store = s.store ∧ t.ledger = s.ledger ∧ t.billing = s.billing)


/-! ### Restoration passes -/

/-- R98, R99, R100: SUBMIT_PASS that passes every check joins the pass queue's tail, QUEUED, with the first id from the pass id counter's
value upward, wrapping, that no pass holds; a full queue answers QUEUE_FULL. R108, R109, R112: CANCEL_PASS takes a queued pass from
the queue, or ends the active pass and its source stream; the result slot then shows the pass ABORTED with cause CANCELLED. An id that
no pass holds is answered NOT_FOUND. -/
def Obligations.PassesAreQueuedAndCancelled : Prop :=
  (∀ (f : Frame) (w : WireKey) (source : Source) (mode stride low high k p d : Nat) (m : PassMode) (e : Edition) (o : Object)
     (v : Version) (s : State), Admitted benchOnly f s → s.control.mode = .normal → passModeOf mode = some m →
     (stride = 1 ∨ stride = 4 ∨ stride = 16 ∨ stride = 64) → low ≤ 100 → high ≤ 100 → (∀ n, source = .number n → n ≤ 255) →
     (m = .manual → p ≤ 255 ∧ k + 32 ≤ p) → s.seeObject .bench w = .ok (e, o) → e.state = .published →
     o.choose source = .ok v → o.format = .grey8 → o.versions.length < 4 → o.lastNumber < 255 →
     let id := (s.passes.nextId + d) % 256
     let record : Pass :=
       { id := id, key := o.key, source := source, bound := none, mode := m, stride := stride, low := low, high := high,
         profile := (if m = .manual then some (k, p) else none), phase := .queued, newNumber := none, leaf := [], written := 0,
         register := 0xFFFFFFFF#32, request := .none }
     (s.passes.queue.length < 4 → d < 256 → id ∉ s.passIds → (∀ i < d, (s.passes.nextId + i) % 256 ∈ s.passIds) →
       exec (.submitPass f w source mode stride low high k p) s
         = .next (concluded f ⟨.accepted, be 1 id ++ be 1 s.passes.queue.length⟩
           { s with passes.queue := s.passes.queue ++ [record], passes.nextId := (id + 1) % 256 })) ∧
     (4 ≤ s.passes.queue.length →
       exec (.submitPass f w source mode stride low high k p) s = .next (concluded f ⟨.queueFull, []⟩ s))) ∧
  (∀ (f : Frame) (id : Nat) (s : State), Admitted benchOnly f s →
     (∀ a q b, s.passes.queue = a ++ q :: b → q.id = id → (∀ x ∈ a ++ b, x.id ≠ id) → (∀ x ∈ s.passes.active, x.id ≠ id) →
       ∃ t, exec (.cancelPass f id) s = .next (concluded f ⟨.ok, []⟩ t) ∧ t.passes.queue = a ++ b ∧
         t.passes.active = s.passes.active ∧ t.passes.result.pass = some id ∧ t.passes.result.key = some q.key ∧
         t.passes.result.outcome = .aborted ∧ t.passes.result.cause = some .cancelled ∧
         t.passes.histogram = s.passes.histogram ∧ t.store = s.store ∧ t.streams = s.streams ∧ t.catalog = s.catalog) ∧
     (∀ q, s.passes.active = some q → q.id = id → (∀ x ∈ s.passes.queue, x.id ≠ id) →
       ∃ t, exec (.cancelPass f id) s = .next (concluded f ⟨.ok, []⟩ t) ∧ t.passes.queue = s.passes.queue ∧
         t.passes.active = none ∧ t.passes.result.pass = some id ∧ t.passes.result.outcome = .aborted ∧
         t.passes.result.cause = some .cancelled ∧ t.passes.output = [] ∧ t.passes.histogram.state ≠ .counting ∧
         t.streams.passSource = none ∧ t.streams.ports = s.streams.ports ∧ t.catalog = s.catalog) ∧
     (id ∉ s.passIds → exec (.cancelPass f id) s = .next (concluded f ⟨.notFound, []⟩ s)))

/-- R104, R105: under a profile K, P the octets up to K become 0, those from P on 255, and the others ((g − K) × 510 + d) div (2 × d), which
lies in 1..254; the mapping keeps the order of the octets, and a pass in CORRECT appends the corrections of a sheet's octets in
order to its output leaf. -/
def Obligations.CorrectionStretchesTheProfile : Prop :=
  ∀ (k p : Nat), k + 32 ≤ p → p ≤ 255 →
    (∀ g : Octet, g.toNat ≤ k → correct k p g = 0#8) ∧ (∀ g : Octet, p ≤ g.toNat → correct k p g = 255#8) ∧
    (∀ g : Octet, k < g.toNat → g.toNat < p →
      (correct k p g).toNat = ((g.toNat - k) * 510 + (p - k)) / (2 * (p - k)) ∧ 1 ≤ (correct k p g).toNat ∧
        (correct k p g).toNat ≤ 254) ∧
    (∀ g h : Octet, g.toNat ≤ h.toNat → (correct k p g).toNat ≤ (correct k p h).toNat) ∧
    (∀ (s : State) (q : Pass) (st : Stream) (b : SheetBuffer), s.passes.active = some q → q.phase = .correct →
      q.leafComplete = false → q.profile = some (k, p) → s.streams.passSource = some st → st.send = some b →
      (passTake s).passes.active.map (·.leaf)
        = some (q.leaf ++ (b.body.take (min 16384 (st.length - b.sheet * 16384))).map (correct k p)))

/-- R103: the profile's K is four times the smallest bin up to which the bins pass TL and its P four times the largest bin from which they
pass TH, plus 3; a survey whose P − K is below 32 ends FLAT, and another goes on to CORRECT with that profile. That the new number is
present from the start of the pass and not set here is the model's choice (assumption 44). -/
def Obligations.SurveysEndInAProfile : Prop :=
  (∀ (h : Histogram) (low high : Nat), h.samples * low / 1000 < h.bins.sum → h.samples * high / 1000 < h.bins.sum →
    h.bins.length = 64 →
    ∃ i j, profileOf h low high = (4 * i, 4 * j + 3) ∧ i < 64 ∧ j < 64 ∧
      h.samples * low / 1000 < (h.bins.take (i + 1)).sum ∧ (∀ b < i, (h.bins.take (b + 1)).sum ≤ h.samples * low / 1000) ∧
      h.samples * high / 1000 < (h.bins.drop j).sum ∧ (∀ b, j < b → (h.bins.drop b).sum ≤ h.samples * high / 1000)) ∧
  (∀ (q : Pass) (st : Stream) (s : State),
    let kp := profileOf s.passes.histogram q.low q.high
    let t := surveyEnds q st s
    t.passes.histogram = { s.passes.histogram with state := .complete } ∧
    (kp.2 < kp.1 + 32 → t.passes.active = none ∧ t.passes.result.outcome = .flat ∧ t.passes.result.profile = some kp) ∧
    (kp.1 + 32 ≤ kp.2 → t.passes.active = some { q with profile := some kp, phase := .correct } ∧
      t.passes.result = s.passes.result))

/-! ### Accounts, contributors, tariffs -/

/-- R115: OPEN_ACCOUNT checks the id, the class and the limit, then that the record is UNUSED, and opens it with the terms given and
every figure at 0. R115 takes the figures as already 0; that they become 0 where an UNUSED record holds the counts of an order of fee 0
charged after the account's closing is the model's choice (assumption 49). -/
def Obligations.OpenAccountOpensTheRecord : Prop :=
  ∀ (f : Frame) (id tariffClass limit : Nat) (s : State), Admitted counterOnly f s →
    let inRange : Prop := (1 ≤ id ∧ id ≤ 255) ∧ tariffClass ≤ 3 ∧ limit ≤ 549755813887
    let opened : Account :=
      { state := .opened, tariffClass := tariffClass, balance := 0, limit := limit, held := 0, orders := 0, pageCopies := 0,
        photoCopies := 0, charged := 0, overflow := false }
    (¬inRange → exec (.openAccount f id tariffClass limit) s = .next (answered f ⟨.badArgument, []⟩ s)) ∧
    (inRange → (s.account id).state ≠ .unused →
      exec (.openAccount f id tariffClass limit) s = .next (answered f ⟨.alreadyExists, []⟩ s)) ∧
    (inRange → (s.account id).state = .unused →
      exec (.openAccount f id tariffClass limit) s = .next (answered f ⟨.ok, []⟩ (s.putAccount id opened)))

/-- R116: CREDIT_ACCOUNT checks the id and the amount, then that the record is in use, then that the balance stays in its range, and adds
the amount to the balance of an OPEN or SUSPENDED account, changing no other figure of it; the reply carries the new balance. -/
def Obligations.CreditAccountRaisesTheBalance : Prop :=
  ∀ (f : Frame) (id amount : Nat) (s : State), Admitted counterOnly f s →
    let a := s.account id
    let inRange : Prop := (1 ≤ id ∧ id ≤ 255) ∧ 1 ≤ amount ∧ amount ≤ 549755813887
    (¬inRange → exec (.creditAccount f id amount) s = .next (answered f ⟨.badArgument, []⟩ s)) ∧
    (inRange → a.state = .unused → exec (.creditAccount f id amount) s = .next (answered f ⟨.notFound, []⟩ s)) ∧
    (inRange → a.state ≠ .unused → 549755813887 < a.balance + amount →
      exec (.creditAccount f id amount) s = .next (answered f ⟨.overflow, []⟩ s)) ∧
    (inRange → a.state ≠ .unused → a.balance + amount ≤ 549755813887 →
      exec (.creditAccount f id amount) s
        = .next (answered f ⟨.ok, beInt 5 (a.balance + amount)⟩ (s.putAccount id { a with balance := a.balance + amount })))

/-- R117: SET_ACCOUNT sets the class and, as the limit, the greater of the requested limit and held − balance, and answers both. R118, R119,
R148: SUSPEND_ACCOUNT releases the account's RESERVED orders and not the STREAMING one, and lowers held by their fees; REINSTATE_ACCOUNT
opens a SUSPENDED record; CLOSE_ACCOUNT frees a record whose balance, held and figures are 0 and clear. That held stops at 0 where the laws
do not hold is the model's (assumption 37). -/
def Obligations.AccountsAreSetSuspendedAndClosed : Prop :=
  (∀ (f : Frame) (id tariffClass limit applied : Nat) (s : State), Admitted counterOnly f s →
     let a := s.account id
     let inRange : Prop := (1 ≤ id ∧ id ≤ 255) ∧ tariffClass ≤ 3 ∧ limit ≤ 549755813887
     (¬inRange → exec (.setAccount f id tariffClass limit) s = .next (answered f ⟨.badArgument, []⟩ s)) ∧
     (inRange → a.state = .unused → exec (.setAccount f id tariffClass limit) s = .next (answered f ⟨.notFound, []⟩ s)) ∧
     (inRange → a.state ≠ .unused → (applied : Int) = max (limit : Int) (a.held - a.balance) →
       exec (.setAccount f id tariffClass limit) s = .next (answered f ⟨.ok, be 1 tariffClass ++ be 5 applied⟩
         (s.putAccount id { a with tariffClass := tariffClass, limit := applied })))) ∧
  (∀ (f : Frame) (id : Nat) (s : State), Admitted counterOnly f s → 1 ≤ id → id ≤ 255 →
     let a := s.account id
     let queue := s.streams.ports.counter.queue
     (a.state = .opened → (queue.map (·.id)).Nodup →
       ∃ t, exec (.suspendAccount f id) s
           = .next (concluded f ⟨.ok, be 1 (queue.tail.filter (fun st => st.orders id)).length⟩ t) ∧
         t.account id = { a with state := .suspended, held := a.held - feesIn id queue.tail } ∧
         t.streams.ports.counter.queue = queue.head?.toList ++ queue.tail.filter (fun st => !st.orders id) ∧
         t.streams.ports.desk = s.streams.ports.desk ∧ t.streams.ports.bench = s.streams.ports.bench ∧ t.catalog = s.catalog) ∧
     (a.state = .suspended → exec (.suspendAccount f id) s = .next (concluded f ⟨.wrongState, []⟩ s)) ∧
     (a.state = .suspended →
       exec (.reinstateAccount f id) s = .next (answered f ⟨.ok, []⟩ (s.putAccount id { a with state := .opened }))) ∧
     (a.state = .opened → exec (.reinstateAccount f id) s = .next (answered f ⟨.wrongState, []⟩ s)) ∧
     (a.state ≠ .unused → a = { Account.formatted with state := a.state, tariffClass := a.tariffClass, limit := a.limit } →
       exec (.closeAccount f id) s = .next (answered f ⟨.ok, []⟩ (s.putAccount id Account.formatted))) ∧
     (a.state ≠ .unused → a ≠ { Account.formatted with state := a.state, tariffClass := a.tariffClass, limit := a.limit } →
       exec (.closeAccount f id) s = .next (answered f ⟨.wrongState, []⟩ s)) ∧
     (a.state = .unused → exec (.suspendAccount f id) s = .next (concluded f ⟨.notFound, []⟩ s) ∧
       exec (.reinstateAccount f id) s = .next (answered f ⟨.notFound, []⟩ s) ∧
       exec (.closeAccount f id) s = .next (answered f ⟨.notFound, []⟩ s)))

/-- R122, R123, R124: REGISTER_CONTRIBUTOR makes an UNUSED record ACTIVE with share 0, SET_CONTRIBUTOR_STATE sets ACTIVE or BARRED and
SET_SHARE the share, and the two answer the record's state, share and figures. The codes of the states are the model's (assumptions
14 and 17), and so is the width of the replies' figures (assumption 33). -/
def Obligations.ContributorsAreRegisteredAndSet : Prop :=
  ∀ (f : Frame) (id : Nat) (s : State), 1 ≤ id → id ≤ 1023 →
    let c := s.contributor id
    (Admitted deskOnly f s →
      (c.state = .unused → exec (.registerContributor f id) s
        = .next (answered f ⟨.ok, []⟩ (s.putContributor id { c with state := .active, share := 0 }))) ∧
      (c.state ≠ .unused → exec (.registerContributor f id) s = .next (answered f ⟨.alreadyExists, []⟩ s)) ∧
      (∀ (code : Nat) (st : ContributorState), (code = 2 ∧ st = .active ∨ code = 3 ∧ st = .barred) →
        (c.state ≠ .unused → exec (.setContributorState f id code) s
          = .next (answered f ⟨.ok, contributorOctets { c with state := st }⟩ (s.putContributor id { c with state := st }))) ∧
        (c.state = .unused → exec (.setContributorState f id code) s = .next (answered f ⟨.notFound, []⟩ s))) ∧
      (∀ code, code ≠ 2 → code ≠ 3 → exec (.setContributorState f id code) s = .next (answered f ⟨.badArgument, []⟩ s))) ∧
    (Admitted counterOnly f s → ∀ share,
      (share ≤ 1000 → c.state ≠ .unused → exec (.setShare f id share) s
        = .next (answered f ⟨.ok, contributorOctets { c with share := share }⟩ (s.putContributor id { c with share := share }))) ∧
      (share ≤ 1000 → c.state = .unused → exec (.setShare f id share) s = .next (answered f ⟨.notFound, []⟩ s)) ∧
      (1000 < share → exec (.setShare f id share) s = .next (answered f ⟨.badArgument, []⟩ s)))

/-- R125, R126: SET_TARIFF with SET gives the one cell of its kind, usage and class the three values and no other cell another, and with
CLEAR the format values; SET_TARIFF_GLOBALS takes all six values or none. The octet of a flag in the replies (assumption 14), the three
octets of their minimum fee (assumption 33), and that CLEAR does not read the values it does not use (assumption 48), are the model's. -/
def Obligations.TariffsTakeTheirValues : Prop :=
  ∀ (f : Frame) (s : State), Admitted counterOnly f s →
    (∀ (kind usage tariffClass base q minimum : Nat) (k : Kind) (u : Usage), kindOf kind = some k → usageOf usage = some u →
      tariffClass ≤ 3 →
      (base ≤ 1000000 → (q = 1 ∨ q = 10 ∨ q = 100 ∨ q = 1000) → minimum ≤ 1000000 →
        exec (.setTariff f kind usage tariffClass 1 base q minimum) s
          = .next (answered f ⟨.ok, flag true ++ be 3 base ++ be 2 q ++ be 3 minimum⟩
            (s.putCell k u tariffClass ⟨true, base, q, minimum⟩))) ∧
      (¬(base ≤ 1000000 ∧ (q = 1 ∨ q = 10 ∨ q = 100 ∨ q = 1000) ∧ minimum ≤ 1000000) →
        exec (.setTariff f kind usage tariffClass 1 base q minimum) s = .next (answered f ⟨.badArgument, []⟩ s)) ∧
      exec (.setTariff f kind usage tariffClass 2 base q minimum) s
        = .next (answered f ⟨.ok, flag false ++ be 3 0 ++ be 2 1 ++ be 3 0⟩ (s.putCell k u tariffClass ⟨false, 0, 1, 0⟩)) ∧
      (∀ (v : TariffCell) (k' : Kind) (u' : Usage) (c : Nat), c ≤ 3 → Table.Ordered s.ledger.tariffs →
        (s.putCell k u tariffClass v).cell k' u' c
          = if k' = k ∧ u' = u ∧ c = tariffClass then v else s.cell k' u' c)) ∧
    (∀ (m0 m1 m2 m3 r p : Nat),
      let inRange : Prop := (∀ m ∈ [m0, m1, m2, m3], 100 ≤ m ∧ m ≤ 5000) ∧ r ≤ 1000000 ∧ p ≤ 1000
      (inRange → exec (.setTariffGlobals f m0 m1 m2 m3 r p) s
        = .next (answered f ⟨.ok, []⟩ { s with ledger.globals := ⟨m0, m1, m2, m3, r, p⟩ })) ∧
      (¬inRange → exec (.setTariffGlobals f m0 m1 m2 m3 r p) s = .next (answered f ⟨.badArgument, []⟩ s)))

/-! ### Fees and orders -/

/-- R127: the rights judgement names the first failing case in the order of its table, for a placement case with the first failing entry,
and consults no vacant entry. How a case is numbered is the model's choice (assumption 15). -/
def Obligations.RightsJudgementNamesTheFirstCase : Prop :=
  ∀ (o : Object) (s : State),
    let barred : Nat → Prop := fun c => c ≠ 0 ∧ (s.contributor c).state = .barred
    let photo : Placement → Object → Prop := fun t ph => t.vacant = false ∧ s.object t.photo = some ph
    (o.rights = .noReprint → s.judgeRights o = some ⟨1, none⟩) ∧
    (o.rights = .reprint → barred o.contributor → s.judgeRights o = some ⟨2, none⟩) ∧
    (o.rights = .reprint → ¬barred o.contributor → ∀ a t b ph, o.placements = a ++ t :: b → photo t ph → ph.rights = .noReprint →
      (∀ x ∈ a, ∀ y, photo x y → y.rights = .reprint) → s.judgeRights o = some ⟨3, some (a.length + 1)⟩) ∧
    (o.rights = .reprint → ¬barred o.contributor → (∀ x ∈ o.placements, ∀ y, photo x y → y.rights = .reprint) →
      ∀ a t b ph, o.placements = a ++ t :: b → photo t ph → barred ph.contributor →
      (∀ x ∈ a, ∀ y, photo x y → ¬barred y.contributor) → s.judgeRights o = some ⟨4, some (a.length + 1)⟩) ∧
    (s.judgeRights o = none ↔ o.rights = .reprint ∧ ¬barred o.contributor ∧
      ∀ x ∈ o.placements, ∀ y, photo x y → y.rights = .reprint ∧ ¬barred y.contributor)

/-- R129 to R135: the copy units, the gross, the age and its band, the aged amount, the surcharge, the fee with its cap, the royalty base
and the parts; the parts together never exceed the base, the base never the fee less the surcharge, and the house share is the
rest, which contains the surcharge. -/
def Obligations.FeesAreComputedAsTheStagesGive : Prop :=
  ∀ i : FeeInputs, 1 ≤ i.copies → i.copies ≤ 65535 → i.cell.base ≤ 1000000 → i.cell.minimum ≤ 1000000 →
    (i.cell.copyUnit = 1 ∨ i.cell.copyUnit = 10 ∨ i.cell.copyUnit = 100 ∨ i.cell.copyUnit = 1000) → i.globals.inRange = true →
    (∀ c share, i.sharers = .photo c share → share ≤ 1000) →
    let b := feeBreakdown i
    let q := i.cell.copyUnit
    let m := if b.age < 30 then i.globals.m0 else if b.age < 365 then i.globals.m1 else if b.age < 9125 then i.globals.m2
      else i.globals.m3
    let whole := max (b.aged + b.surcharge) i.cell.minimum
    let parts := (b.parts.map (·.2)).sum
    (b.units = (i.copies + q - 1) / q ∧ 1 ≤ b.units ∧ b.units ≤ 65535) ∧
    (b.gross = b.units * i.cell.base ∧ b.gross ≤ 65535000000) ∧
    ((i.today ≤ i.date → b.age = 0) ∧ (i.date ≤ i.today → b.age + i.date = i.today)) ∧
    (b.band = if b.age < 30 then 0 else if b.age < 365 then 1 else if b.age < 9125 then 2 else 3) ∧
    (b.aged = (b.gross * m + 500) / 1000 ∧ b.aged ≤ 327675000000 ∧ (5 ≤ b.gross → 1 ≤ b.aged)) ∧
    (b.surcharge = (if i.origin = .pass then i.globals.r else 0) ∧ b.aged + b.surcharge ≤ 327676000000) ∧
    (b.fee = (if 999999999 < whole then 999999999 else whole) ∧ (b.capped = true ↔ 999999999 < whole)) ∧
    (b.fee = 0 ↔ b.gross * m < 500 ∧ b.surcharge = 0 ∧ i.cell.minimum = 0) ∧
    (b.base = min b.aged (b.fee - b.surcharge) ∧ b.base ≤ 999999999 ∧ (b.capped = false → b.base = b.aged)) ∧
    (parts ≤ b.base ∧ b.base + b.surcharge ≤ b.fee) ∧
    (b.house + parts = b.fee ∧ b.surcharge ≤ b.house) ∧
    (∀ c share, i.sharers = .photo c share → b.pool = none ∧ b.parts = if c = 0 then [] else [(c, b.base * share / 1000)]) ∧
    (∀ sharing, i.sharers = .page sharing → (b.parts.map (·.1)).Nodup ∧
      (∀ c n, (c, n) ∈ b.parts ↔ c ∈ sharing ∧ n = sharing.count c * (b.base * i.globals.p / 1000 / sharing.length)) ∧
      b.pool = if sharing = [] then none else some (b.base * i.globals.p / 1000))

/-- R136: QUOTE of a PUBLISHED object by an account in use answers the first of RIGHTS, NO_TARIFF and DAMAGED that applies, or the fee
breakdown with the embargo flag, and changes nothing. How a failing case is named (assumption 15) and the layout of the breakdown and
of a flag (assumptions 14 and 33) are the model's. -/
def Obligations.QuoteAnswersTheFee : Prop :=
  ∀ (f : Frame) (account usage copies : Nat) (w : WireKey) (u : Usage) (k : Key) (e : Edition) (o : Object) (s : State),
    Admitted counterOnly f s → 1 ≤ account → account ≤ 255 → usageOf usage = some u → 1 ≤ copies → copies ≤ 65535 →
    keyOf w = some k → (s.account account).state ≠ .unused → s.seeObject .counter w = .ok (e, o) → e.state = .published →
    let a := s.account account
    let cell := s.cell o.key.kind u a.tariffClass
    let quoted := exec (.quote f account w usage copies) s
    (∀ r, s.judgeRights o = some r → quoted = .next (answered f ⟨.rights, rightsOctets r⟩ s)) ∧
    (s.judgeRights o = none → cell.isSet = false → quoted = .next (answered f ⟨.noTariff, []⟩ s)) ∧
    (s.judgeRights o = none → cell.isSet = true → o.best = none → quoted = .next (answered f ⟨.damaged, []⟩ s)) ∧
    (∀ v, s.judgeRights o = none → cell.isSet = true → o.best = some v →
      quoted = .next (answered f ⟨.ok, breakdownOctets (s.breakdown a e o u copies v) ++ flag (s.embargoed e)⟩ s))

/-- R120, R139, R140: ORDER that passes every check reserves its fee on the account and joins the counter port's queue as a stream of the
best version's whole body, bound to its breakdown; without the funds it is refused FUNDS, and an embargoed object or a SUSPENDED
account is refused, with nothing changed. The layout of the FUNDS and ACCEPTED replies is the model's (assumption 33). -/
def Obligations.OrderReservesItsFee : Prop :=
  ∀ (f : Frame) (account usage copies id : Nat) (w : WireKey) (u : Usage) (k : Key) (e : Edition) (o : Object) (v : Version)
    (s : State), Admitted counterOnly f s → 1 ≤ account → account ≤ 255 → usageOf usage = some u → 1 ≤ copies →
    copies ≤ 65535 → keyOf w = some k → s.seeObject .counter w = .ok (e, o) → e.state = .published →
    let a := s.account account
    let ps := s.streams.ports.counter
    let b := s.breakdown a e o u copies v
    let ordered := exec (.order f account w usage copies) s
    let funds : Prop := -(a.limit : Int) ≤ a.balance - a.held - b.fee ∧ s.exposure + b.fee ≤ 1099511627775
    let stream : Stream :=
      { id := id, kind := .order ⟨account, b, none⟩, key := o.key, version := v.number, serial := v.serial, snapshot := v.extents,
        length := v.length, offset := 0, size := v.length, position := 0, send := none, ahead := none, fetch := .none,
        final := none }
    (a.state = .suspended → ordered = .next (concluded f ⟨.suspended, []⟩ s)) ∧
    (a.state = .opened → s.embargoed e = true → ordered = .next (concluded f ⟨.embargoed, []⟩ s)) ∧
    (a.state = .opened → s.embargoed e = false → s.judgeRights o = none → (s.cell o.key.kind u a.tariffClass).isSet = true →
      o.best = some v →
      (5 ≤ ps.queue.length → ordered = .next (concluded f ⟨.queueFull, []⟩ s)) ∧
      (ps.queue.length < 5 → id < 16 → id ∉ ps.ids → (∀ m < id, m ∈ ps.ids) →
        (¬funds → ordered = .next (concluded f ⟨.funds, s.fundsOctets a b.fee⟩ s)) ∧
        (funds → Table.Ordered s.store.stripes → Table.Ordered s.ledger.accounts →
          ∃ t, ordered = .next (concluded f ⟨.accepted, be 1 id ++ be 4 b.fee ++ be 1 v.number ++ be 1 (originCode v.origin)
              ++ be 1 ps.queue.length⟩ t) ∧
            t.streams.ports.counter = ⟨ps.queue ++ [stream], ps.ended⟩ ∧ t.account account = { a with held := a.held + b.fee } ∧
            (∀ n, n ≠ account → t.account n = s.account n) ∧
            (∀ n, (t.stripe n).readers = (s.stripe n).readers + if n ∈ v.extents.map (·.stripe) then 1 else 0) ∧
            t.catalog = s.catalog ∧ t.billing = s.billing)))

/-- R142, R143: an order is charged when the last octet of its body has been sent: balance and held fall and period charged rises by the
fee, the counts rise, each contributor's accrual rises by its part, the house revenue by the house share, and the stream ends CHARGED; no
read is counted. That the record with the order's account id counts it, be it UNUSED by then, is the model's choice (assumption 49), and so
is that held stops at 0, and that the sums have no width, where the laws do not hold (assumption 37). -/
def Obligations.CompletedOrdersAreCharged : Prop :=
  ∀ (s : State) (st : Stream) (o : OrderPart) (rest : List Stream) (offset : Nat) (octets : List Octet),
    (s.links.counter).sending = some (.data st.id offset octets) → s.streams.ports.counter.queue = st :: rest →
    (∀ x ∈ rest, x.id ≠ st.id) → st.kind = .order o → st.offset + st.size ≤ st.position + octets.length →
    Table.Ordered s.ledger.accounts → Table.Ordered s.ledger.contributors →
    let a := s.account o.account
    let b := o.breakdown
    let pages := a.pageCopies + b.copies
    let photos := a.photoCopies + b.copies
    let full := 16777215 < a.orders + 1 ∨ (b.kind = .page ∧ 16777215 < pages) ∨ (b.kind = .photo ∧ 16777215 < photos)
    ∃ t d, exec (.dataFrameSent .counter) s = .next (conclude t) ∧ t.streams.ports.counter.queue = rest ∧
      t.streams.ports.counter.ended = s.streams.ports.counter.ended ++ [d] ∧
      (d.id = st.id ∧ d.kind = st.kind ∧ d.final = some .charged ∧ d.position = st.position + octets.length) ∧
      ((t.account o.account).balance = a.balance - b.fee ∧ (t.account o.account).held = a.held - b.fee ∧
        (t.account o.account).charged = a.charged + b.fee ∧ (t.account o.account).orders = min (a.orders + 1) 16777215 ∧
        (t.account o.account).pageCopies = (if b.kind = .page then min pages 16777215 else a.pageCopies) ∧
        (t.account o.account).photoCopies = (if b.kind = .photo then min photos 16777215 else a.photoCopies) ∧
        ((t.account o.account).overflow = true ↔ a.overflow = true ∨ full) ∧
        (t.account o.account).state = a.state ∧ (t.account o.account).limit = a.limit) ∧
      (∀ n, n ≠ o.account → t.account n = s.account n) ∧
      (∀ c, (t.contributor c).accrual
        = (s.contributor c).accrual + ((b.parts.filter (fun x => x.1 == c)).map (·.2)).sum) ∧
      (∀ c n more, b.kind = .photo → b.parts = (c, n) :: more → c ≠ 0 →
        (t.contributor c).photoOrders = min ((s.contributor c).photoOrders + 1) 16777215) ∧
      t.billing = { s.billing with revenue := s.billing.revenue + b.house }

/-! ### Periods and statements -/

/-- R154, R155, R156, R157: SET_PERIOD_LENGTH sets length and countdown alike; CLOSE_PERIOD reloads the countdown, and with an empty latch
closes the period: the records of the accounts and contributors with figures and the HOUSE record are latched, the figures are
cleared, and the next period starts now; with a record in the latch it is refused OVERRUN and the period is extended. -/
def Obligations.PeriodsAreTimedAndClosed : Prop :=
  ∀ (f : Frame) (s : State), Admitted counterOnly f s →
    let b := s.billing
    let now : Stamp := ⟨s.clock.day, s.clock.tick⟩
    let record : Nat → Bool → Bool → Figures → Statement := fun id overflow extended figures =>
      ⟨figures, b.period, b.start, now, id, overflow, extended⟩
    let next : List Statement → Billing := fun latch =>
      ⟨(b.period + 1) % 65536, now, b.length, b.length, false, b.sequence, 0, 0, false, latch, b.queue⟩
    (∀ days, days ≤ 366 → exec (.setPeriodLength f days) s = .next (answered f ⟨.ok, be 2 days ++ be 2 days⟩
      { s with billing := { b with length := days, countdown := days } })) ∧
    (∀ days, 366 < days → exec (.setPeriodLength f days) s = .next (answered f ⟨.badArgument, []⟩ s)) ∧
    (b.latch ≠ [] → exec (.closePeriod f) s = .next (answered f ⟨.overrun, be 2 b.latch.length⟩
      (notify .statementOverrun .counter { s with billing := { b with countdown := b.length, extended := true } }))) ∧
    (b.latch = [] → Table.Ordered s.ledger.accounts → Table.Ordered s.ledger.contributors →
      ∃ t, exec (.closePeriod f) s = .next (answered f
          ⟨.ok, be 2 b.period ++ stampOctets b.start ++ stampOctets now ++ be 2 t.billing.latch.length⟩ t) ∧
        t.billing = next t.billing.latch ∧
        (∀ id, t.account id = { s.account id with orders := 0, pageCopies := 0, photoCopies := 0, charged := 0, overflow := false }) ∧
        (∀ id, t.contributor id = { s.contributor id with accrual := 0, photoOrders := 0, overflow := false }) ∧
        (∀ x, x ∈ t.billing.latch ↔
          (∃ id a, (id, a) ∈ s.ledger.accounts ∧
            (a.orders ≠ 0 ∨ a.pageCopies ≠ 0 ∨ a.photoCopies ≠ 0 ∨ a.charged ≠ 0 ∨ a.overflow = true) ∧
            x = record id a.overflow false (.account a.orders a.pageCopies a.photoCopies a.charged)) ∨
          (∃ id c, (id, c) ∈ s.ledger.contributors ∧ (c.accrual ≠ 0 ∨ c.photoOrders ≠ 0 ∨ c.overflow = true) ∧
            x = record id c.overflow false (.contributor c.photoOrders c.accrual)) ∨
          x = record 0 b.overflow b.extended (.house b.revenue b.reads s.totalCharged)) ∧
        t.billing.latch.getLast? = some (record 0 b.overflow b.extended (.house b.revenue b.reads s.totalCharged)) ∧
        (t.notices.counter.pending &&& noticeBit .periodClosed = noticeBit .periodClosed))

/-- R159, R160, R161, R162: TAKE_STATEMENTS answers up to 16 of the oldest records and removes none; RELEASE_STATEMENTS removes the records
up to the one it names, or answers OFFSET; a move numbers the latch's head and appends it to the queue. The layout of the reply is the
model's (assumption 28), and so is that STATEMENT_MOVE with nothing to move, or no room for it, leaves the state as it is (assumption 2). -/
def Obligations.StatementsAreMovedTakenAndReleased : Prop :=
  ∀ (f : Frame) (s : State), Admitted counterOnly f s →
    let b := s.billing
    (b.queue = [] → exec (.takeStatements f) s = .next (answered f ⟨.empty, be 2 b.latch.length⟩ s)) ∧
    (b.queue ≠ [] → exec (.takeStatements f) s = .next (answered f
      ⟨.ok, be 2 b.queue.length ++ be 2 b.latch.length ++ (b.queue.take 16).flatMap statementOctets⟩ s)) ∧
    (∀ a x rest, b.queue = a ++ x :: rest → (∀ y ∈ a, y.1 ≠ x.1) →
      exec (.releaseStatements f x.1) s
        = .next (answered f ⟨.ok, be 2 (a.length + 1) ++ be 2 rest.length⟩ { s with billing.queue := rest })) ∧
    (∀ n, (∀ y ∈ b.queue, y.1 ≠ n) →
      exec (.releaseStatements f n) s
        = .next (answered f ⟨.offset, Machine.optional (b.queue.head?.map (fun y => be 4 y.1))⟩ s)) ∧
    (∀ x rest, b.latch = x :: rest → b.queue.length < 512 →
      exec .statementMove s = .next (notify .statementsWaiting .counter
        { s with billing := { b with latch := rest, queue := b.queue ++ [(b.sequence, x)],
                                     sequence := (b.sequence + 1) % 4294967296 } })) ∧
    (b.latch = [] ∨ 512 ≤ b.queue.length → exec .statementMove s = .next s)

/-! ### Clock, operating control, notices, mailboxes -/

/-- R154, R165, R166, R167: SET_CLOCK sets day and tick and confirms the clock; the tick rises to its last value and stays there; a day mark
is accepted from tick 1,152,000 on or while the clock is unconfirmed, steps the countdown, and makes the close attempt that brings
it to 0; another mark changes nothing. CLOCK_SATURATED and COUNTDOWN_EXPIRY as commands of their own are read as the rise and the
mark at which they happen (assumptions 10 and 11). That SET_CLOCK's reply is day and tick, without the confirmed flag, is the model's
choice (assumption 45). -/
def Obligations.ClockRisesAndTakesDayMarks : Prop :=
  ∀ (s : State),
    (∀ (f : Frame) (day tick : Nat), Admitted deskOnly f s →
      (day ≤ 65535 → tick ≤ 1382399 → exec (.setClock f day tick) s
        = .next (concluded f ⟨.ok, stampOctets ⟨day, tick⟩⟩ { s with clock := ⟨day, tick, true⟩ })) ∧
      (65535 < day ∨ 1382399 < tick → exec (.setClock f day tick) s = .next (concluded f ⟨.badArgument, []⟩ s))) ∧
    (s.running = true →
      ∃ t, exec .tick s = .next t ∧ t.clock = { s.clock with tick := min (s.clock.tick + 1) 1382399 } ∧
        { t with clock := s.clock, notices := s.notices } = s ∧ (s.clock.tick = 1382398 → exec .clockSaturated s = .next t)) ∧
    (s.working = true →
      let marked : State := { s with clock := ⟨min (s.clock.day + 1) 65535, 0, true⟩ }
      let accepted : Prop := 1152000 ≤ s.clock.tick ∨ s.clock.confirmed = false
      (¬accepted → exec .dayMark s = .next s) ∧
      (accepted → s.billing.length = 0 → exec .dayMark s = .next (conclude marked)) ∧
      (accepted → s.billing.length ≠ 0 → 1 < s.billing.countdown →
        exec .dayMark s = .next (conclude { marked with billing.countdown := s.billing.countdown - 1 })) ∧
      (accepted → s.billing.length ≠ 0 → s.billing.countdown ≤ 1 →
        exec .dayMark s = .next (conclude (closeAttempt marked)) ∧
        exec .countdownExpiry s = .next (conclude (closeAttempt marked)))) ∧
    (s.control.mode = .start → exec .dayMark s = .next s)

/-- R172, R173, R174: SET_OPERATING in range takes all five settings and, where the retire condition then holds under PRESERVE, enters
PRESERVE with cause RETIRE, ending every pass and the relocation round and withdrawing the erase request; RESUME_WRITES leaves
PRESERVE unless that condition persists. -/
def Obligations.SettingsAndModesChange : Prop :=
  ∀ (f : Frame) (s : State), Admitted deskOnly f s →
    (∀ (lowMark days limit ra da : Nat) (retire damage : FailSafe), failSafeOf ra = some retire → failSafeOf da = some damage →
      let o : Settings := ⟨lowMark, days, limit, retire, damage⟩
      let set := exec (.setOperating f lowMark days limit ra da) s
      let reply : Answer := ⟨.ok, be 2 lowMark ++ be 2 days ++ be 2 limit ++ be 1 ra ++ be 1 da⟩
      (¬o.inRange → set = .next (concluded f ⟨.badArgument, []⟩ s)) ∧
      (o.inRange → s.retiredTotal < limit ∨ retire = .flag →
        set = .next (concluded f reply { s with control.settings := o })) ∧
      (o.inRange → limit ≤ s.retiredTotal → retire = .preserve →
        ∃ t, set = .next (concluded f reply t) ∧ t.control.settings = o ∧ t.control.mode = .preserve ∧
          t.control.cause = some .retire ∧
          (s.control.mode = .normal → t.passes.active = none ∧ t.passes.queue = [] ∧ t.relocation = ⟨none, false⟩ ∧
            t.store.eraseRequested = false ∧
            (∀ p, (t.notices.get p).pending &&& noticeBit .modeChanged = noticeBit .modeChanged)))) ∧
    (s.control.mode = .normal → exec (.resumeWrites f) s = .next (concluded f ⟨.ok, []⟩ s)) ∧
    (s.control.mode = .preserve → s.control.settings.retireLimit ≤ s.retiredTotal →
      s.control.settings.retireAction = .preserve → exec (.resumeWrites f) s = .next (concluded f ⟨.wrongState, []⟩ s)) ∧
    (s.control.mode = .preserve →
      s.retiredTotal < s.control.settings.retireLimit ∨ s.control.settings.retireAction = .flag →
      exec (.resumeWrites f) s = .next (concluded f ⟨.ok, []⟩
        (notifyAll .modeChanged allPorts { s with control.mode := .normal, control.cause := none })))

/-- R168, R169, R170, R171: TAKE_NOTICES answers the pending set and leaves the conditions that hold; SET_NOTICE_MASK sets the mask;
POST_MESSAGE delivers to every target or to none; TAKE_MESSAGE empties the port's mailbox. The octet of conditions and the unread bits of a
set are the model's (assumptions 27 and 29), and so is when the clock counts as saturated (assumption 10). -/
def Obligations.NoticesAndMessagesAreTaken : Prop :=
  ∀ (f : Frame) (s : State), Admitted allPorts f s →
    let p := f.port
    let board := s.notices.get p
    exec (.takeNotices f) s = .next (answered f ⟨.ok, be 2 board.pending.toNat ++ [s.standingOctet p]⟩
      { s with notices := s.notices.set p ⟨s.standing p, board.mask⟩ }) ∧
    (∀ kinds : BitVec 16, exec (.setNoticeMask f kinds) s = .next (answered f ⟨.ok, be 2 (kinds.toNat % 8192)⟩
      { s with notices := s.notices.set p ⟨board.pending, kinds.setWidth 13⟩ })) ∧
    (∀ (targets : BitVec 8) (text : List Octet),
      let named : Port → Prop := fun q => targets.getLsbD (portBit q) = true
      let fair : Prop := (∃ q, named q) ∧ ¬named p ∧ 1 ≤ text.length ∧ text.length ≤ 32
      (¬fair → exec (.postMessage f targets text) s = .next (answered f ⟨.badArgument, []⟩ s)) ∧
      (fair → (∃ q, named q ∧ (s.mailboxes.get q).isSome = true) →
        exec (.postMessage f targets text) s = .next (answered f ⟨.mailboxFull, []⟩ s)) ∧
      (fair → (∀ q, named q → s.mailboxes.get q = none) →
        ∃ t, exec (.postMessage f targets text) s = .next (answered f ⟨.ok, []⟩ t) ∧
          (∀ q, named q → t.mailboxes.get q = some ⟨p, text⟩ ∧
            t.notices.get q = ⟨(s.notices.get q).pending ||| noticeBit .message, (s.notices.get q).mask⟩) ∧
          (∀ q, ¬named q → t.mailboxes.get q = s.mailboxes.get q ∧ t.notices.get q = s.notices.get q) ∧
          { t with mailboxes := s.mailboxes, notices := s.notices } = s)) ∧
    (s.mailboxes.get p = none → exec (.takeMessage f) s = .next (answered f ⟨.empty, []⟩ s)) ∧
    (∀ m, s.mailboxes.get p = some m →
      exec (.takeMessage f) s = .next (answered f ⟨.ok, be 1 (portCode m.sender) ++ be 1 m.text.length ++ m.text⟩
        { s with mailboxes := s.mailboxes.set p none }))

/-- R44, R45, R112, R113, R121, R185, R186: the requests that ask for figures answer them and change nothing; STATUS and IDENTIFY do so in
START too. STATUS answers the groups of R186 in its order, read from the state as it stands. The encodings that R180 leaves open are the
model's (assumptions 14, 32, 33, 39, 41 and 47), and so is that STATUS in START reports the state as it stands before recovery
(assumption 35). -/
def Obligations.InquiriesAnswerAndChangeNothing : Prop :=
  ∀ (f : Frame) (s : State), Listening f.port s → f.fits = true →
    (exec (.identify f) s = .next (answered f ⟨.ok, identityOctets⟩ s) ∧
      exec (.status f) s = .next (answered f ⟨.ok, s.operatingOctets ++ s.clockOctets ++ s.storeOctets ++ s.intakeOctets
        ++ s.streamOctets ++ s.relocationOctets ++ s.passOctets ++ s.billingOctets ++ s.noticeOctets f.port⟩ s)) ∧
    (s.control.mode ≠ .start →
      (∀ h e, s.edition h = some e → hidden e f.port = none →
        exec (.findEdition f (.handle h)) s = .next (answered f ⟨.ok, s.editionOctets h e⟩ s) ∧
        ((∀ x ∈ s.catalog.editions, x.2.date = e.date → x.2.number = e.number → x.1 = h) →
          exec (.findEdition f (.key e.date e.number)) s = .next (answered f ⟨.ok, s.editionOctets h e⟩ s))) ∧
      (∀ w e o, s.seeObject f.port w = .ok (e, o) →
        exec (.findObject f w) s = .next (answered f ⟨.ok, s.objectOctets e o⟩ s)) ∧
      (f.port = .bench →
        exec (.passResult f) s = .next (answered f ⟨.ok, passResultOctets s.passes.result⟩ s) ∧
        exec (.takeSurvey f) s = .next (answered f ⟨.ok, histogramOctets s.passes.histogram⟩ s)) ∧
      (f.port = .counter →
        exec (.findAccount f 0) s = .next (answered f ⟨.ok, be 5 s.billing.revenue ++ be 3 s.billing.reads ++ flag s.billing.overflow
          ++ be 5 s.exposure⟩ s) ∧
        (∀ id, 1 ≤ id → id ≤ 255 → exec (.findAccount f id) s = .next (answered f ⟨.ok, s.accountOctets id⟩ s)) ∧
        (∀ id, 255 < id → exec (.findAccount f id) s = .next (answered f ⟨.badArgument, []⟩ s))))

/-! ### The store -/

/-- R2, R3, R4, R40, R73, R77: a sheet is SOUND when its tag names what was asked for and its check is its body's, as a sheet just
programmed does; a SOUND sheet goes to its stream, one whose requester has ceased is discarded, and a DAMAGED one marks its version and ends
its READ. That the command carries the sheet delivered, where it is not the one programmed, is the model's choice (assumption 36). The form
of the CRC-32 register is the model's (assumption 18). -/
def Obligations.FetchesBringSoundSheets : Prop :=
  (∀ (k : Key) (version leaf : Nat) (w : Wing) (x : Sheet), sound k version leaf w x = true ↔
    ∃ g, x.tag = some g ∧ g.key = k.wire ∧ g.version = version ∧ g.leaf = leaf ∧
      g.half = (match w with | .low => 0 | .high => 1) ∧ g.check = crc32 x.body) ∧
  (∀ (op : ProgramOp) (w : Wing), sound op.key op.version op.leaf w (programmedSheet op w) = true) ∧
  (∀ (s : State) (w : Wing) (op : FetchOp) (other : Option FetchOp) (delivered : Option Sheet),
    s.store.wings = (match w with | .low => Wings.split (some op) other | .high => Wings.split other (some op)) →
    let idle : State := { s with store.wings := match w with | .low => .split none other | .high => .split other none }
    let x := delivered.getD (s.sheetAt op.stripe op.place w)
    let verdict := sound op.key op.version op.leaf w x
    let sheet := 2 * op.leaf + (match w with | .low => 0 | .high => 1)
    (op.owner = .ceased → exec (.sheetFetchComplete w delivered) s = .next (conclude idle)) ∧
    (∀ p st rest, op.owner = .stream p → verdict = true → (s.streams.ports.get p).queue = st :: rest →
      ∃ st', exec (.sheetFetchComplete w delivered) s
          = .next (conclude (idle.putPortStreams p ⟨st' :: rest, (s.streams.ports.get p).ended⟩)) ∧
        (st.send = none → st' = { st with send := some ⟨sheet, x.body⟩, fetch := .none }) ∧
        (st.send ≠ none → st' = { st with ahead := some ⟨sheet, x.body⟩, fetch := .none })) ∧
    (∀ p st rest o v, op.owner = .stream p → verdict = false → (s.streams.ports.get p).queue = st :: rest →
      (∀ y ∈ rest, y.id ≠ st.id) → st.kind = .read → s.object st.key = some o → o.key = st.key →
      s.held st.key st.version st.serial = some v → v.damaged = false → s.control.settings.damageAction = .flag →
      ∃ t d, exec (.sheetFetchComplete w delivered) s = .next (conclude t) ∧
        t.held st.key st.version st.serial = some { v with damaged := true } ∧ (t.streams.ports.get p).queue = rest ∧
        (t.streams.ports.get p).ended = (s.streams.ports.get p).ended ++ [d] ∧ d.id = st.id ∧ d.final = some .damaged ∧
        d.position = st.position ∧
        (∀ q ∈ deskAndBench, (t.notices.get q).pending &&& noticeBit .damageFound = noticeBit .damageFound)))

/-- R5, R13, R16, R17, R59: a program's completion leaves the wings idle and the program-in-flight mark cleared, and its stripe with one
leaf more written: WRITTEN makes it FULL at its 96th leaf and hands the leaf to the descriptor that fed it, FAILED makes it FULL at
once with retire-pending set. -/
def Obligations.ProgramsFillTheirStripes : Prop :=
  ∀ (s : State) (op : ProgramOp), s.store.wings = .both (.program op) → Table.Ordered s.store.stripes →
    let r := s.stripe op.stripe
    (∃ t, exec .leafProgramWritten s = .next (conclude t) ∧ t.store.wings = .split none none ∧ t.store.mark = none ∧
      (t.stripe op.stripe).written = r.written + 1 ∧
      (t.stripe op.stripe).state = (if r.written + 1 = 96 then .full else r.state) ∧
      (t.stripe op.stripe).retirePending = r.retirePending ∧ (t.stripe op.stripe).eraseCount = r.eraseCount ∧
      (op.ceased = true → (t.stripe op.stripe).live = r.live ∧ t.intake = s.intake ∧ t.passes = s.passes ∧
        t.relocation = s.relocation) ∧
      (∀ run d, op.ceased = false → op.front = .intake → s.intake.run = some run → s.descriptor run.descriptor = some d →
        (∀ x ∈ s.intake.descriptors, x.2.complete = false) → (∃ l ∈ d.staged, l.leaf ≠ op.leaf) →
        t.descriptor run.descriptor
          = some { d with staged := d.staged.filter (fun l => l.leaf != op.leaf), programmed := d.programmed + 1 } ∧
        t.provisional run.descriptor = recordLeaf (s.provisional run.descriptor) op.stripe op.place ∧
        (t.stripe op.stripe).live = r.live + 1 ∧ t.intake.request = .none)) ∧
    (∃ t, exec .leafProgramFailed s = .next (conclude t) ∧ t.store.wings = .split none none ∧ t.store.mark = none ∧
      t.stripe op.stripe = { r with written := r.written + 1, state := .full, retirePending := true } ∧
      t.intake.descriptors = s.intake.descriptors ∧ t.intake.provisional = s.intake.provisional ∧ t.catalog = s.catalog)

/-- R30, R36, R61, R105, R106, R107: the last leaf of a complete deposit that waits on nothing enters its object with version 0, frees its
descriptor and counts in its edition, which is published when it is CLOSING and this was its last object outstanding; the last leaf of a
pass creates its version at the tail of the list and ends the pass CREATED. The form of the check registers is the model's (assumption
18). -/
def Obligations.LastLeavesEnterVersions : Prop :=
  ∀ (s : State) (op : ProgramOp), s.store.wings = .both (.program op) → op.ceased = false → Table.Ordered s.store.stripes →
    (∀ run d e, op.front = .intake → Table.Ordered s.intake.descriptors → Table.Ordered s.intake.provisional →
      s.intake.run = some run → s.descriptor run.descriptor = some d → d.state = .ended → d.waits = [] →
      (∀ l ∈ d.staged, l.leaf = op.leaf) → d.programmed + 1 = leavesOf d.length →
      (∀ x ∈ s.intake.descriptors, x.1 ≠ run.descriptor → x.2.complete = false) → s.edition d.key.handle = some e →
      let counted : Edition :=
        { e with pages := e.pages + (if d.key.kind = .page then 1 else 0), photos := e.photos + (if d.key.kind = .photo then 1 else 0) }
      ∃ t, exec .leafProgramWritten s = .next (conclude t) ∧
        t.object d.key = some
          { key := d.key, rights := d.rights, contributor := d.contributor, format := d.format,
            placements := d.placements.map (fun k => ⟨k, false⟩), lastNumber := 0,
            versions := [{ number := 0, origin := .deposit, damaged := false, length := d.length, check := ~~~d.register,
                           profile := none, created := s.clock.day, serial := s.catalog.serial,
                           extents := recordLeaf (s.provisional run.descriptor) op.stripe op.place }] } ∧
        t.catalog.serial = (s.catalog.serial + 1) % 4294967296 ∧ t.descriptor run.descriptor = none ∧
        t.provisional run.descriptor = [] ∧ (t.stripe op.stripe).live = (s.stripe op.stripe).live + 1 ∧
        (e.state = .opened → t.edition d.key.handle = some counted) ∧
        (e.state = .closing → e.outstanding ≠ 1 → e.outstanding ≠ 0 →
          t.edition d.key.handle = some { counted with outstanding := e.outstanding - 1 }) ∧
        (e.state = .closing → e.outstanding = 1 →
          t.edition d.key.handle = some { counted with
            outstanding := 0, state := .published, published := some ⟨s.clock.day, s.clock.tick⟩,
            release := if e.origin = .historical then some ⟨s.clock.day, s.clock.tick⟩ else e.release } ∧
          ∀ q, (t.notices.get q).pending &&& noticeBit .editionPublished = noticeBit .editionPublished)) ∧
    (∀ p b, op.front = .restore → s.passes.active = some p → p.bound = some b →
      let output := recordLeaf s.passes.output op.stripe op.place
      (p.written + 1 < leavesOf b.length →
        ∃ t, exec .leafProgramWritten s = .next (conclude t) ∧ t.passes.output = output ∧ t.catalog = s.catalog ∧
          t.passes.active = some { p with written := p.written + 1, leaf := [], request := .none } ∧
          (t.stripe op.stripe).live = (s.stripe op.stripe).live + 1) ∧
      (∀ n o e, p.written + 1 = leavesOf b.length → p.newNumber = some n → s.object p.key = some o → o.key = p.key →
        s.edition p.key.handle = some e → e.state = .published →
        ∃ t, exec .leafProgramWritten s = .next (conclude t) ∧
          t.object p.key = some { o with
            lastNumber := n,
            versions := o.versions ++ [{ number := n, origin := .pass, damaged := false, length := b.length,
                                         check := ~~~p.register, profile := p.profile, created := s.clock.day,
                                         serial := s.catalog.serial, extents := output }] } ∧
          t.catalog.serial = (s.catalog.serial + 1) % 4294967296 ∧ t.passes.active = none ∧ t.passes.output = [] ∧
          t.passes.result.outcome = .created ∧ t.passes.result.newNumber = some n ∧ t.passes.result.pass = some p.id ∧
          (t.notices.bench.pending &&& noticeBit .passEnded = noticeBit .passEnded) ∧
          (t.stripe op.stripe).live = (s.stripe op.stripe).live + 1))

/-- R11, R14, R15, R21: an erase ERASED leaves its stripe FREE at the tail of the free queue with its erase count one higher, where a
stalled RELOCATE front takes it; a stalled INTAKE or RESTORE front takes the queue's head once the queue holds more than the reserve
of 4, and waits until then; an erase FAILED retires its stripe. The guard line's level is followed, and while it is asserted no
decision starts a program or an erase. That the level is set while the part does not work, and the blocks follow it only while it
works, is the model's (assumption 22). -/
def Obligations.ErasesAndTheGuardLine : Prop :=
  ∀ (s : State),
    (∀ n, s.store.wings = .both (.erase n) → Table.Ordered s.store.stripes →
      let r := s.stripe n
      (s.store.stalled = [] →
        ∃ t, exec (.stripeEraseComplete true) s = .next (conclude t) ∧ t.store.wings = .split none none ∧
          t.stripe n = ⟨.free, 0, 0, r.eraseCount + 1, r.programDay, false, r.readers⟩ ∧
          t.store.freeQueue = s.store.freeQueue ++ [n] ∧ t.store.dirtyQueue = s.store.dirtyQueue.erase n) ∧
      (s.store.stalled = [.relocate] → s.store.freeQueue = [] →
        ∃ t, exec (.stripeEraseComplete true) s = .next (conclude t) ∧ t.store.stalled = [] ∧ t.store.freeQueue = [] ∧
          t.stripe n = ⟨.opened .relocate, 0, 0, r.eraseCount + 1, s.clock.day, false, r.readers⟩) ∧
      (∀ f, f ≠ .relocate → s.store.stalled = [f] →
        (s.store.freeQueue.length < 4 →
          ∃ t, exec (.stripeEraseComplete true) s = .next (conclude t) ∧ t.store.stalled = [f] ∧
            t.store.freeQueue = s.store.freeQueue ++ [n]) ∧
        (∀ m rest, s.store.freeQueue = m :: rest → 4 ≤ s.store.freeQueue.length → m ≠ n →
          ∃ t, exec (.stripeEraseComplete true) s = .next (conclude t) ∧ t.store.stalled = [] ∧
            t.store.freeQueue = rest ++ [n] ∧ (t.stripe m).state = .opened f ∧ (t.stripe m).written = 0 ∧
            (t.stripe m).programDay = s.clock.day)) ∧
      (∃ t, exec (.stripeEraseComplete false) s = .next (conclude t) ∧ t.store.wings = .split none none ∧
        (t.stripe n).state = .retired ∧ (t.stripe n).eraseCount = r.eraseCount ∧ t.store.freeQueue = s.store.freeQueue ∧
        t.store.dirtyQueue = s.store.dirtyQueue.erase n)) ∧
    (s.working = true → exec .storeGuardAsserted s = .next (conclude { s with store.guardAsserted := true }) ∧
      exec .storeGuardReleased s = .next (conclude { s with store.guardAsserted := false })) ∧
    (s.working = false → exec .storeGuardAsserted s = .next { s with store.guardAsserted := true } ∧
      exec .storeGuardReleased s = .next { s with store.guardAsserted := false }) ∧
    (∀ a b, s.store.guardAsserted = true → s.store.wings = .split a b → ∃ a' b', (arbitrate s).store.wings = .split a' b')

/-- R13, R19, R20, R21, R22: the arbiter ranks the ports' stream fetches from the port after the turn pointer, then intake programs, which
rank first while staging holds 64 leaves, erases, relocation work and pass work. Its winner is the highest-ranked eligible request
that wants a wing idle and not held: a fetch starts there and moves the turn pointer, a program or erase starts on both wings or
holds the one that is idle, and the wing held goes to the highest-ranked program or erase, or free when none is left. -/
def Obligations.ArbiterServesTheHighestClass : Prop :=
  ∀ s : State,
    let order : List Port := match s.store.turn with
      | .desk => [.bench, .counter, .desk]
      | .bench => [.counter, .desk, .bench]
      | .counter => [.desk, .bench, .counter]
    let lower : List Claim := [.erase, .copyFetch, .copyProgram, .passFetch, .passProgram]
    let standing : Claim → Prop := fun c => s.claims c = true ∧ (c.wide = true → s.store.guardAsserted = false)
    let startable : Claim → Prop := fun c => standing c ∧
      ∃ w, s.idle w = true ∧ s.store.held ≠ some w ∧ (c.wide = false → w = s.wants c)
    (s.occupancy < 64 → s.ranking = order.map Claim.streamFetch ++ .intakeProgram :: lower) ∧
    (64 ≤ s.occupancy → s.ranking = .intakeProgram :: (order.map Claim.streamFetch ++ lower)) ∧
    (∀ a c b, s.ranking = a ++ c :: b → startable c → (∀ x ∈ a, ¬startable x) → s.winner = some c) ∧
    ((∀ c, ¬startable c) → s.winner = none) ∧
    (s.store.held = none →
      (s.winner = none → arbitrate s = s) ∧
      (∀ p st rest h n i, s.winner = some (.streamFetch p) → (s.streams.ports.get p).queue = st :: rest →
        nextSheet st = some h → locate st.snapshot (h / 2) = some (n, i) →
        ∃ t, arbitrate s = decideLoop 1 t ∧ t.store.turn = p ∧
          t.store.wings.fetching (wingOf h) = some ⟨.stream p, st.key, st.version, h / 2, n, i⟩ ∧
          (t.streams.ports.get p).queue = { st with fetch := .inFlight } :: rest) ∧
      (∀ c, s.winner = some c → c.wide = true →
        (s.idle .low = true → s.idle .high = true → arbitrate s = startWide c s) ∧
        (s.idle .low = true → s.idle .high = false → arbitrate s = { s with store.held := some .low }) ∧
        (s.idle .low = false → s.idle .high = true → arbitrate s = { s with store.held := some .high }))) ∧
    (∀ a c b w, s.store.held = some w → s.ranking = a ++ c :: b → standing c → c.wide = true →
      (∀ x ∈ a, ¬(standing x ∧ x.wide = true)) → s.idle .low = true → s.idle .high = true →
      arbitrate s = startWide c { s with store.held := none }) ∧
    ((∀ c, standing c → c.wide = false) → arbitrate s = arbitrate { s with store.held := none }) ∧
    (s.store.guardAsserted = true → (arbitrate s).store.held = none) ∧
    (∀ n rest, s.store.dirtyQueue = n :: rest →
      startWide .erase s = { s with store.wings := .both (.erase n), store.eraseRequested := false }) ∧
    (∀ (r : Round) (c : Copy) (n : Nat) (t : Stripe), s.relocation.round = some { r with copy := some c } →
      s.frontStripe .relocate = some (n, t) →
      startWide .copyProgram s = { s with
        relocation.round := some { r with copy := some { c with request := .inFlight } },
        store.mark := some (n, t.written),
        store.wings := .both (.program
          ⟨.relocate, n, t.written, c.key, c.version, c.leafBase + c.copied, c.low ++ c.high, false⟩) })

/-! ### Relocation -/

/-- R85 to R89, R96: a stripe is movable when it is FULL with live leaves, none of them provisional, and holds no extent of a DAMAGED
version. A choice takes the lowest movable stripe that is retire-pending; with none and free stripes short of low mark, the movable
stripe with the lowest live count, where 96 blocks reclaim; and else the movable stripe longest unrefreshed. It is made in NORMAL
with the guard line released, and low mark free stripes clear the flag. That a choice which finds no movable stripe leaves the flag as it
is, set or clear, is read from R96 by inference (assumption 20). -/
def Obligations.VictimsAreChosenInOrder : Prop :=
  ∀ s : State, Table.Ordered s.store.stripes →
    let r := s.stripe
    let damaged : Nat → Prop := fun n =>
      ∃ x ∈ s.catalog.objects, ∃ v ∈ x.2.versions, v.damaged = true ∧ ∃ e ∈ v.extents, e.stripe = n
    let provisional : Nat → Prop := fun n =>
      (∃ x ∈ s.intake.provisional, ∃ e ∈ x.2, e.stripe = n) ∨ ∃ e ∈ s.passes.output, e.stripe = n
    let movable : Nat → Prop := fun n => (r n).state = .full ∧ 0 < (r n).live ∧ ¬provisional n ∧ ¬damaged n
    let worn : Nat → Prop := fun n => movable n ∧ (r n).retirePending = true
    let old : Nat → Prop := fun n => movable n ∧ (r n).programDay + s.control.settings.retentionDays ≤ s.clock.day
    let low : Prop := s.store.freeQueue.length < s.control.settings.lowMark
    (∀ n, s.movable n = true ↔ movable n) ∧
    (∀ n, worn n → (∀ m < n, ¬worn m) → s.choose = .victim n .retire) ∧
    ((∀ n, ¬worn n) → low →
      (∀ n, movable n → (r n).live ≠ 96 →
        (∀ m, movable m → (r n).live < (r m).live ∨ ((r n).live = (r m).live ∧ n ≤ m)) → s.choose = .victim n .reclaim) ∧
      (∀ n, movable n → (r n).live = 96 → (∀ m, movable m → 96 ≤ (r m).live) → s.choose = .blocked) ∧
      ((∀ n, ¬movable n) → s.choose = .nothing)) ∧
    ((∀ n, ¬worn n) → ¬low →
      (∀ n, old n →
        (∀ m, old m → (r n).programDay < (r m).programDay ∨ ((r n).programDay = (r m).programDay ∧ n ≤ m)) →
        s.choose = .victim n .refresh) ∧
      ((∀ n, ¬old n) → s.choose = .nothing)) ∧
    (s.control.mode = .normal → s.store.guardAsserted = false →
      (s.choose = .nothing → makeChoice s = s) ∧
      (s.choose = .blocked → makeChoice s = { s with relocation.blocked := true }) ∧
      (∀ n cause, s.choose = .victim n cause →
        makeChoice s = lookNext ⟨n, cause, none⟩ { s with relocation := ⟨some ⟨n, cause, none⟩, false⟩ })) ∧
    (s.control.mode ≠ .normal ∨ s.store.guardAsserted = true → makeChoice s = s) ∧
    (clearBlocked s).relocation.blocked = (s.relocation.blocked && decide low)

/-- R90 to R95: the engine's look ends a round whose victim is empty or no longer movable, pauses it under the guard line, and else begins
the copy of the victim's extent with the lowest first leaf; a PAUSED engine keeps its victim while the line is asserted. A copy fetches a
leaf's two sheets and programs it; its first program takes the front's stripe, closing one that is short of the extent. The last program
commits it while the version holds its extent: the extent is replaced in its place and its leaves' live moves; a program FAILED begins it
anew, and a sheet DAMAGED ends the round. That the command carries the sheet delivered, where it is not the one programmed, is the model's
choice (assumption 36), and so is that live stops at 0 where the laws do not hold (assumption 37). -/
def Obligations.ExtentsAreCopiedAndCommitted : Prop :=
  (∀ (s : State) (r : Round),
    ((s.stripe r.victim).live = 0 ∨ s.movable r.victim = false → lookNext r s = s.putRound none) ∧
    (s.movable r.victim = true → s.store.guardAsserted = true → lookNext r s = s.putRound (some { r with copy := none })) ∧
    (s.relocation.round = some { r with copy := none } → s.store.guardAsserted = true → engineOnce s = s) ∧
    (s.movable r.victim = true → s.store.guardAsserted = false → (∃ e ∈ s.catalogExtents, e.stripe = r.victim) →
      ∃ c, lookNext r s = s.putRound (some { r with copy := some c }) ∧ c.source.stripe = r.victim ∧
        (∀ e ∈ s.catalogExtents, e.stripe = r.victim → c.source.first ≤ e.first) ∧
        (∃ x ∈ s.catalog.objects, ∃ v ∈ x.2.versions, c.key = x.2.key ∧ c.version = v.number ∧ c.serial = v.serial ∧
          v.extents[c.index]? = some c.source ∧ c.leafBase = leavesIn (v.extents.take c.index)) ∧
        c.copied = 0 ∧ c.dest = none ∧ c.step = .fetchLow ∧ c.request = .pending)) ∧
  (∀ (s : State) (r : Round) (c : Copy) (w : Wing) (op : FetchOp) (other : Option FetchOp) (delivered : Option Sheet),
    s.store.wings = (match w with | .low => Wings.split (some op) other | .high => Wings.split other (some op)) →
    op.owner = .relocation → s.relocation.round = some { r with copy := some c } →
    let idle : State := { s with store.wings := match w with | .low => .split none other | .high => .split other none }
    let x := delivered.getD (s.sheetAt op.stripe op.place w)
    let verdict := sound op.key op.version op.leaf w x
    (verdict = true → exec (.sheetFetchComplete w delivered) s
      = .next (conclude (idle.putRound (some { r with copy := some (match w with
        | .low => { c with low := x.body, step := .fetchHigh, request := .pending }
        | .high => { c with high := x.body, step := .program, request := .none }) })))) ∧
    (∀ o v, verdict = false → s.object c.key = some o → o.key = c.key → s.held c.key c.version c.serial = some v →
      v.damaged = false → s.control.settings.damageAction = .flag →
      ∃ t, exec (.sheetFetchComplete w delivered) s = .next (conclude t) ∧ t.relocation.round = none ∧
        t.held c.key c.version c.serial = some { v with damaged := true } ∧
        (∀ q ∈ deskAndBench, (t.notices.get q).pending &&& noticeBit .damageFound = noticeBit .damageFound))) ∧
  (∀ (s : State) (r : Round) (c : Copy), Table.Ordered s.store.stripes → s.programInFlight .relocate = false →
    s.isStalled .relocate = false → c.copied = 0 → c.dest = none →
    let placed : Nat → Nat → Round := fun n i => { r with copy := some { c with dest := some (n, i), request := .pending } }
    (∀ n t, s.frontStripe .relocate = some (n, t) → t.written + c.source.count ≤ 96 →
      presentCopy r c s = s.putRound (some (placed n t.written))) ∧
    (∀ n m rest, (∀ k, (s.stripe k).state = .opened .relocate ↔ k = n) → (s.stripe n).written ≤ 96 →
      96 < (s.stripe n).written + c.source.count → s.store.freeQueue = m :: rest → m ≠ n →
      let t := presentCopy r c s
      t.relocation.round = some (placed m 0) ∧ t.stripe n = { s.stripe n with state := .full } ∧ t.store.freeQueue = rest ∧
        t.stripe m = { s.stripe m with
          state := .opened .relocate, written := 0, live := 0, programDay := s.clock.day, retirePending := false }) ∧
    ((∀ k, (s.stripe k).state ≠ .opened .relocate) → s.store.freeQueue = [] → presentCopy r c s = stall .relocate s)) ∧
  (∀ (s : State) (op : ProgramOp) (r : Round) (c : Copy), s.store.wings = .both (.program op) → op.front = .relocate →
    op.ceased = false → s.relocation.round = some { r with copy := some c } → Table.Ordered s.store.stripes →
    let nextLeaf : Round :=
      { r with copy := some { c with copied := c.copied + 1, low := [], high := [], step := .fetchLow, request := .pending } }
    let anew : Round :=
      { r with copy := some { c with copied := 0, dest := none, low := [], high := [], step := .fetchLow, request := .pending } }
    (c.copied + 1 ≠ c.source.count → s.copyValid c = true →
      ∃ t, exec .leafProgramWritten s = .next (conclude t) ∧ t.relocation.round = some nextLeaf ∧ t.catalog = s.catalog ∧
        ∀ n, (t.stripe n).live = (s.stripe n).live) ∧
    (∀ d o v, c.copied + 1 = c.source.count → s.copyValid c = true → c.dest = some d → s.object c.key = some o → o.key = c.key →
      s.held c.key c.version c.serial = some v →
      ∃ t, exec .leafProgramWritten s = .next (conclude t) ∧
        t.held c.key c.version c.serial = some { v with extents := v.extents.set c.index ⟨d.1, d.2, c.source.count⟩ } ∧
        ∀ n, (t.stripe n).live = (s.stripe n).live + (if n = d.1 then c.source.count else 0)
          - (if n = c.source.stripe then c.source.count else 0)) ∧
    (c.copied + 1 = c.source.count → s.copyValid c = false →
      ∃ t, exec .leafProgramWritten s = .next (conclude t) ∧ t.catalog = s.catalog ∧
        ∀ n, (t.stripe n).live = (s.stripe n).live) ∧
    (s.copyValid c = true →
      ∃ t, exec .leafProgramFailed s = .next (conclude t) ∧ t.relocation.round = some anew ∧ t.catalog = s.catalog))

/-! ### Link resets, power, start-up -/

/-- R64, R81, R109, R150, R169, R171, R183: a link reset leaves its port's link unit hunting with nothing but the held break, its streams
freed, its deposits dropped, its mailbox empty and its mask holding all kinds, and for the bench port no pass; the counter port's orders are
released, and each account's held falls by their fees. The other ports' link units, streams, mailboxes, masks and deposits are as they were
(here the deposits that are not complete, which no drop can enter), and so are the passes unless the port is bench, the result slot, the
clock and billing; in START their notices are too. That the notices the reset itself brings are cleared with the port's others is the
model's (assumption 34), and so are when the clock counts as saturated (assumption 10) and that held stops at 0 where the laws do not hold
(assumption 37). -/
def Obligations.LinkResetEndsThePortsWork : Prop :=
  ∀ (p : Port) (s : State), s.running = true → Table.Ordered s.intake.descriptors → Table.Ordered s.ledger.accounts →
    ∃ t, exec (.linkReset p) s = .next (conclude t) ∧ t.links.get p = { Link.reset with breakHeld := true } ∧
      t.streams.ports.get p = ⟨[], []⟩ ∧ t.mailboxes.get p = none ∧
      t.notices.get p = { NoticeBoard.reset with pending := if s.control.mode = .start then t.standing p else 0#13 } ∧
      (p ≠ .counter → ∀ x ∈ t.intake.descriptors, x.2.holder ≠ p) ∧
      (p = .bench → t.passes.active = none ∧ t.passes.queue = []) ∧ (p ≠ .bench → t.passes = s.passes) ∧
      (p = .counter → ∀ id, t.account id
        = { s.account id with held := (s.account id).held - feesIn id s.streams.ports.counter.queue }) ∧
      (∀ n d, s.descriptor n = some d → d.holder ≠ p → d.complete = false →
        ∃ d', t.descriptor n = some d' ∧ { d' with placements := d.placements, waits := d.waits } = d) ∧
      (∀ q, q ≠ p → t.links.get q = s.links.get q ∧ t.streams.ports.get q = s.streams.ports.get q ∧
        t.mailboxes.get q = s.mailboxes.get q ∧ (t.notices.get q).mask = (s.notices.get q).mask ∧
        (s.control.mode = .start → s.intake.descriptors = [] → (∀ x, s.intake.space.get x = false) →
          t.notices.get q = s.notices.get q)) ∧
      t.passes.result = s.passes.result ∧ t.clock = s.clock ∧ t.billing = s.billing ∧ t.control = s.control ∧
      ((∀ st ∈ (s.streams.ports.get p).queue, st.isOrder = false) → t.ledger = s.ledger)

/-- R5, R25, R46, R65, R113, R114, R122, R125, R126, R165, R175, R184: power loss and the reset line leave the retentive state and lose the
volatile; their end begins START with its cause (how the two meet is the model's, assumption 23); start-up's end recovers a formatted part,
or formats one that is not, restarts the clock at tick 0 unconfirmed (assumption 40), and leaves START with CLOCK_LATE and MODE_CHANGED
pending. Recovery keeps the object table, the serial counter, the ledger but for held, billing, the settings, the queues' entries and each
stripe's erase count, program day and retire-pending flag as recorded; a CLOSING edition is published or returns to OPEN and every other is
unchanged; the marked leaf counts as written, and the leaves of provisional and output records cease to be live. That recovery and format
stand at start-up's end and not before (assumption 35), that format leaves the flash as it is (assumption 4), and that live stops at 0 where
the laws do not hold (assumption 37), are the model's. -/
def Obligations.PowerResetAndStartUp : Prop :=
  ∀ (s : State), Table.Ordered s.store.stripes → Table.Ordered s.ledger.accounts → Table.Ordered s.catalog.editions →
    let kept : State → Prop := fun t =>
      t.control.mode = .start ∧ t.streams = Streams.reset ∧ t.relocation = Relocation.reset ∧ t.intake.descriptors = [] ∧
      t.passes = { Passes.reset with output := s.passes.output } ∧ t.intake.provisional = s.intake.provisional ∧
      t.clock = ⟨s.clock.day, 0, false⟩ ∧ t.mailboxes = ⟨none, none, none⟩ ∧
      (∀ q, t.notices.get q = NoticeBoard.reset ∧ t.links.get q = Link.reset) ∧
      t.store.wings = .split none none ∧ t.store.mark = s.store.mark ∧ t.store.freeQueue = s.store.freeQueue ∧
      t.store.dirtyQueue = s.store.dirtyQueue ∧ (∀ n, t.stripe n = { s.stripe n with readers := 0 }) ∧
      t.catalog = s.catalog ∧ t.ledger = s.ledger ∧ t.billing = s.billing ∧ t.control.settings = s.control.settings ∧
      t.control.formatted = s.control.formatted
    (s.control.powered = true →
      ∃ t, exec .powerLoss s = .next t ∧ kept t ∧ t.control.powered = false) ∧
    (s.control.resetLine = false →
      ∃ t, exec .resetLineAsserted s = .next t ∧ kept t ∧ t.control.resetLine = true) ∧
    (s.control.powered = false → s.control.resetLine = false → exec .powerApplied s
      = .next { s with control.powered := true, control.mode := .start, control.startCause := .power }) ∧
    (s.control.powered = true → s.control.resetLine = true → exec .resetLineReleased s
      = .next { s with control.resetLine := false, control.mode := .start, control.startCause := .resetLine }) ∧
    (s.running = true → s.control.mode = .start →
      ∃ t, exec .startUpEnd s = .next (conclude t) ∧ t.store.mark = none ∧ t.intake.provisional = [] ∧ t.passes.output = [] ∧
        (∀ n front, (t.stripe n).state ≠ .opened front) ∧ (∀ n, (t.stripe n).readers = 0) ∧
        (∀ x ∈ t.catalog.editions, x.2.state ≠ .closing) ∧ (∀ id, (t.account id).held = 0) ∧
        (t.control.mode = if t.control.settings.retireLimit ≤ t.retiredTotal ∧ t.control.settings.retireAction = .preserve
          then .preserve else .normal) ∧
        (∀ q, (t.notices.get q).pending &&& noticeBit .modeChanged = noticeBit .modeChanged) ∧
        (∀ q, (t.notices.get q).pending &&& noticeBit .clockLate = noticeBit .clockLate) ∧ t.control.formatted = true ∧
        t.clock = ⟨if s.control.formatted then s.clock.day else 0, 0, false⟩ ∧ t.store.flash = s.store.flash ∧
        (s.control.formatted = true → t.billing = s.billing ∧ t.control.settings = s.control.settings ∧
          t.control.startCause = s.control.startCause ∧
          t.ledger = { s.ledger with accounts := t.ledger.accounts } ∧ (∀ id, t.account id = { s.account id with held := 0 }) ∧
          t.catalog.objects = s.catalog.objects ∧ t.catalog.serial = s.catalog.serial ∧
          (∀ h, s.edition h = none → t.edition h = none) ∧
          (∀ h e, s.edition h = some e →
            (e.state ≠ .closing → t.edition h = some e) ∧
            (e.state = .closing → e.outstanding = 0 → t.edition h = some { e with
              state := .published, published := some ⟨s.clock.day, 0⟩,
              release := if e.origin = .historical then some ⟨s.clock.day, 0⟩ else e.release }) ∧
            (e.state = .closing → e.outstanding ≠ 0 → t.edition h = some { e with
              state := .opened, release := none, outstanding := 0 })) ∧
          t.store.freeQueue = s.store.freeQueue ∧ (∃ joined, t.store.dirtyQueue = s.store.dirtyQueue ++ joined) ∧
          (∀ n, (t.stripe n).eraseCount = (s.stripe n).eraseCount ∧ (t.stripe n).programDay = (s.stripe n).programDay ∧
            (t.stripe n).retirePending = (s.stripe n).retirePending ∧
            (t.stripe n).written = (s.stripe n).written + (if s.store.mark.map (·.1) = some n then 1 else 0) ∧
            (t.stripe n).live = (s.stripe n).live
              - leavesIn ((s.intake.provisional.flatMap (·.2) ++ s.passes.output).filter (fun e => e.stripe == n)))) ∧
        (s.control.formatted = false → t.catalog = ⟨[], [], 0⟩ ∧ t.ledger = Ledger.reset ∧ t.billing = Billing.reset ∧
          t.control.settings = Settings.reset ∧ t.control.startCause = .format ∧ t.store.freeQueue = [] ∧
          t.store.dirtyQueue = List.range 8192 ∧ t.clock.day = 0))
end

