-- ==== Sys2Proof/Laws/Tables.lean ====
section
/-! SUPPORT. What the table operations do: reads after writes, and the forms they keep. -/

namespace Sys2Proof.Machine

variable {α : Type}

/-! ### Reads after writes -/

@[simp] theorem tget_nil (k : Nat) : tget ([] : Table α) k = none := rfl

theorem tget_tput_self (t : Table α) (k : Nat) (v : α) : tget (tput t k v) k = some v := by
  induction t with
  | nil => simp [tput, tget]
  | cons e rest ih =>
    obtain ⟨j, w⟩ := e
    simp only [tput]
    split
    · simp [tget]
    · split
      · simp [tget]
      · rename_i h; simp [tget, h, ih]

theorem tget_tput_ne (t : Table α) (k j : Nat) (v : α) (h : j ≠ k) : tget (tput t k v) j = tget t j := by
  induction t with
  | nil => simp [tput, tget, h.symm]
  | cons e rest ih =>
    obtain ⟨i, w⟩ := e
    simp only [tput]
    split
    · simp [tget, h.symm]
    · split
      · rename_i hik; subst hik; simp [tget, h.symm]
      · simp [tget, ih]

theorem tget_none_of_lt {t : Table α} {k : Nat} (h : ∀ e ∈ t, k < e.1) : tget t k = none := by
  induction t with
  | nil => rfl
  | cons e rest ih =>
    have h0 : k < e.1 := h e (by simp)
    simp [tget, Nat.ne_of_gt h0, ih (fun e he => h e (by simp [he]))]

/-- The head of an ordered table lies before the others. -/
theorem ordered_cons {e : Nat × α} {t : Table α} :
    Table.Ordered (e :: t) ↔ (∀ x ∈ t, e.1 < x.1) ∧ Table.Ordered t := by
  simp [Table.Ordered, List.pairwise_cons]

theorem tget_tdel_self {t : Table α} (ht : Table.Ordered t) (k : Nat) : tget (tdel t k) k = none := by
  induction t with
  | nil => rfl
  | cons e rest ih =>
    obtain ⟨j, w⟩ := e
    obtain ⟨h1, h2⟩ := ordered_cons.1 ht
    by_cases hj : j = k
    · subst hj; simpa [tdel] using tget_none_of_lt h1
    · simp [tdel, hj, tget, ih h2]

theorem tget_tdel_ne (t : Table α) (k j : Nat) (h : j ≠ k) : tget (tdel t k) j = tget t j := by
  induction t with
  | nil => rfl
  | cons e rest ih =>
    obtain ⟨i, w⟩ := e
    by_cases hi : i = k
    · subst hi; simp [tdel, tget, h.symm]
    · simp [tdel, hi, tget, ih]

theorem tgetD_tset_self [DecidableEq α] (d : α) {t : Table α} (ht : Table.Ordered t) (k : Nat) (v : α) :
    tgetD d (tset d t k v) k = v := by
  unfold tgetD tset
  split
  · rename_i h; simp [tget_tdel_self ht, h]
  · simp [tget_tput_self]

theorem tgetD_tset_ne [DecidableEq α] (d : α) (t : Table α) (k j : Nat) (v : α) (h : j ≠ k) :
    tgetD d (tset d t k v) j = tgetD d t j := by
  unfold tgetD tset
  split
  · simp [tget_tdel_ne _ _ _ h]
  · simp [tget_tput_ne _ _ _ _ h]

/-! ### The forms kept -/

theorem mem_tput {t : Table α} {k : Nat} {v : α} {e : Nat × α} (h : e ∈ tput t k v) : e = (k, v) ∨ e ∈ t := by
  induction t with
  | nil => simp [tput] at h; exact .inl h
  | cons x rest ih =>
    obtain ⟨j, w⟩ := x
    simp only [tput] at h
    split at h
    · rcases List.mem_cons.1 h with h | h
      · exact .inl h
      · exact .inr h
    · split at h
      · rcases List.mem_cons.1 h with h | h
        · exact .inl h
        · exact .inr (by simp [h])
      · rcases List.mem_cons.1 h with h | h
        · exact .inr (by simp [h])
        · rcases ih h with h | h
          · exact .inl h
          · exact .inr (by simp [h])

theorem mem_tdel {t : Table α} {k : Nat} {e : Nat × α} (h : e ∈ tdel t k) : e ∈ t := by
  induction t with
  | nil => simp [tdel] at h
  | cons x rest ih =>
    obtain ⟨j, w⟩ := x
    simp only [tdel] at h
    split at h
    · simp [h]
    · rcases List.mem_cons.1 h with h | h
      · simp [h]
      · simp [ih h]

theorem ordered_nil : Table.Ordered ([] : Table α) := by simp [Table.Ordered]

theorem ordered_tput {t : Table α} (ht : Table.Ordered t) (k : Nat) (v : α) : Table.Ordered (tput t k v) := by
  induction t with
  | nil => simp [tput, Table.Ordered]
  | cons x rest ih =>
    obtain ⟨j, w⟩ := x
    obtain ⟨h1, h2⟩ := ordered_cons.1 ht
    simp only [tput]
    split
    · rename_i hk
      refine ordered_cons.2 ⟨fun e he => ?_, ht⟩
      rcases List.mem_cons.1 he with h | h
      · subst h; exact hk
      · exact Nat.lt_trans hk (h1 e h)
    · split
      · rename_i hk; subst hk; exact ordered_cons.2 ⟨h1, h2⟩
      · rename_i hlt hne
        refine ordered_cons.2 ⟨fun e he => ?_, ih h2⟩
        rcases mem_tput he with h | h
        · subst h; show j < k; omega
        · exact h1 e h

theorem ordered_tdel {t : Table α} (ht : Table.Ordered t) (k : Nat) : Table.Ordered (tdel t k) := by
  induction t with
  | nil => simp [tdel, Table.Ordered]
  | cons x rest ih =>
    obtain ⟨j, w⟩ := x
    obtain ⟨h1, h2⟩ := ordered_cons.1 ht
    simp only [tdel]
    split
    · exact h2
    · exact ordered_cons.2 ⟨fun e he => h1 e (mem_tdel he), ih h2⟩

theorem ordered_tset [DecidableEq α] (d : α) {t : Table α} (ht : Table.Ordered t) (k : Nat) (v : α) :
    Table.Ordered (tset d t k v) := by
  unfold tset; split
  · exact ordered_tdel ht k
  · exact ordered_tput ht k v

theorem canonical_tset [DecidableEq α] (d : α) {t : Table α} (ht : Table.Canonical d t) (k : Nat) (v : α) :
    Table.Canonical d (tset d t k v) := by
  refine ⟨ordered_tset d ht.1 k v, ?_⟩
  unfold tset; split
  · exact fun e he => ht.2 e (mem_tdel he)
  · rename_i hv
    intro e he
    rcases mem_tput he with h | h
    · subst h; exact hv
    · exact ht.2 e h

theorem ordered_filter {t : Table α} (ht : Table.Ordered t) (p : Nat × α → Bool) : Table.Ordered (t.filter p) :=
  ht.sublist ((List.filter_sublist (p := p) (l := t)).map Prod.fst)

theorem ordered_mapValues {β : Type} {t : Table α} (ht : Table.Ordered t) (g : Nat × α → β) :
    Table.Ordered (t.map (fun e => (e.1, g e))) := by
  simpa [Table.Ordered, List.map_map, Function.comp_def] using ht

theorem canonical_tmapD [DecidableEq α] (d : α) (g : α → α) {t : Table α} (ht : Table.Ordered t) :
    Table.Canonical d (tmapD d g t) := by
  induction t with
  | nil => simp [tmapD, Table.Canonical, Table.Ordered]
  | cons x rest ih =>
    obtain ⟨j, w⟩ := x
    obtain ⟨h1, h2⟩ := ordered_cons.1 ht
    obtain ⟨i1, i2⟩ := ih h2
    have hmem : ∀ e ∈ tmapD d g rest, j < e.1 := by
      intro e he
      simp only [tmapD, List.mem_filterMap] at he
      obtain ⟨x, hx, hxe⟩ := he
      split at hxe
      · simp at hxe
      · simp at hxe; subst hxe; exact h1 x hx
    by_cases hg : g w = d
    · simpa [tmapD, hg] using ⟨i1, i2⟩
    · have heq : tmapD d g ((j, w) :: rest) = (j, g w) :: tmapD d g rest := by simp [tmapD, hg]
      rw [heq]
      refine ⟨ordered_cons.2 ⟨hmem, i1⟩, fun e he => ?_⟩
      rcases List.mem_cons.1 he with h | h
      · subst h; exact hg
      · exact i2 e h

/-! ### One value per port -/

@[simp] theorem PerPort.get_set_self (x : PerPort α) (p : Port) (v : α) : (x.set p v).get p = v := by cases p <;> rfl

theorem PerPort.get_set_ne (x : PerPort α) (p q : Port) (v : α) (h : q ≠ p) : (x.set p v).get q = x.get q := by
  cases p <;> cases q <;> first | rfl | exact absurd rfl h

theorem PerPort.get_set (x : PerPort α) (p q : Port) (v : α) : (x.set p v).get q = if q = p then v else x.get q := by
  cases p <;> cases q <;> rfl

@[simp] theorem PerPort.set_get (x : PerPort α) (p : Port) : x.set p (x.get p) = x := by cases p <;> rfl

end Sys2Proof.Machine
end

