-- ==== Sys2Proof/Laws/Memory.lean ====
section
/-! SUPPORT. The flash keeps its canonical form under every operation, and a leaf reads as it was last written. -/

namespace Sys2Proof.Machine

theorem Memory.wf_reset : Memory.wf State.reset.store.flash := ordered_nil

theorem Memory.wf_writeLeaf (op : ProgramOp) (s : State) (h : Memory.wf s.store.flash) :
    Memory.wf (writeLeaf op s).store.flash := ordered_tput h _ _

theorem Memory.wf_loseLeaf (n i : Nat) (s : State) (h : Memory.wf s.store.flash) :
    Memory.wf (loseLeaf n i s).store.flash := ordered_tput h _ _

theorem Memory.wf_eraseLeaves (n : Nat) (s : State) (h : Memory.wf s.store.flash) :
    Memory.wf (eraseLeaves n s).store.flash := ordered_filter h _

theorem Memory.wf_loseStripe (n : Nat) (s : State) (h : Memory.wf s.store.flash) :
    Memory.wf (loseStripe n s).store.flash := by
  unfold loseStripe
  generalize List.range Config.leavesPerStripe = l
  induction l generalizing s with
  | nil => exact h
  | cons i l ih => exact ih _ (Memory.wf_loseLeaf n i s h)

/-- The sheets of a written leaf read as the program wrote them. -/
theorem sheetAt_writeLeaf_self (op : ProgramOp) (s : State) (w : Wing) :
    (writeLeaf op s).sheetAt op.stripe op.place w = programmedSheet op w := by
  simp only [writeLeaf, State.sheetAt, tget_tput_self]
  cases w <;> rfl

/-- Every other leaf reads as before. -/
theorem sheetAt_writeLeaf_ne (op : ProgramOp) (s : State) (n i : Nat) (w : Wing)
    (h : leafAddress n i ≠ leafAddress op.stripe op.place) :
    (writeLeaf op s).sheetAt n i w = s.sheetAt n i w := by
  simp only [writeLeaf, State.sheetAt, tget_tput_ne _ _ _ _ h]

end Sys2Proof.Machine
end

