-- ==== Sys2Proof/Laws/PerInstr.lean ====
section
/-! SUPPORT. The family `Code`, one lemma per command: a command comes in a frame exactly if R178's table gives it a code, which is
then one of 0x01 to 0x2E. -/

namespace Sys2Proof.Laws.Code

open Sys2Proof.Machine

/-- A request has a code of R178's table, and a command that is no request has none. -/
def Statement (c : Instr) : Prop :=
  ((frameOf c).isSome = true → 1 ≤ requestCodeOf c ∧ requestCodeOf c ≤ 0x2E) ∧ (frameOf c = none → requestCodeOf c = 0)

/-- A command with a frame and a code in the table. -/
theorem ofRequest {c : Instr} {f : Frame} (h : frameOf c = some f) (low : 1 ≤ requestCodeOf c) (high : requestCodeOf c ≤ 0x2E) :
    Statement c := ⟨fun _ => ⟨low, high⟩, fun n => (Option.some_ne_none f (h.symm.trans n)).elim⟩

/-- A command without a frame. -/
theorem ofEvent {c : Instr} (h : frameOf c = none) (zero : requestCodeOf c = 0) : Statement c :=
  ⟨fun n => (Bool.false_ne_true ((congrArg Option.isSome h).symm.trans n)).elim, fun _ => zero⟩

/-! One lemma per command. -/

theorem openEdition (f : Frame) (date number : Nat) : Statement (Instr.openEdition f date number) := ofRequest rfl (Nat.le_of_ble_eq_true rfl) (Nat.le_of_ble_eq_true rfl)
theorem beginObject (f : Frame) (handle kind number length rights contributor format : Nat) (placements : List WireKey) : Statement (Instr.beginObject f handle kind number length rights contributor format placements) := ofRequest rfl (Nat.le_of_ble_eq_true rfl) (Nat.le_of_ble_eq_true rfl)
theorem putChunk (f : Frame) (descriptor offset : Nat) (data : List Octet) : Statement (Instr.putChunk f descriptor offset data) := ofRequest rfl (Nat.le_of_ble_eq_true rfl) (Nat.le_of_ble_eq_true rfl)
theorem endObject (f : Frame) (descriptor : Nat) (check : BitVec 32) : Statement (Instr.endObject f descriptor check) := ofRequest rfl (Nat.le_of_ble_eq_true rfl) (Nat.le_of_ble_eq_true rfl)
theorem dropObject (f : Frame) (descriptor : Nat) : Statement (Instr.dropObject f descriptor) := ofRequest rfl (Nat.le_of_ble_eq_true rfl) (Nat.le_of_ble_eq_true rfl)
theorem closeEdition (f : Frame) (handle : Nat) (release : Stamp) : Statement (Instr.closeEdition f handle release) := ofRequest rfl (Nat.le_of_ble_eq_true rfl) (Nat.le_of_ble_eq_true rfl)
theorem abandonEdition (f : Frame) (handle : Nat) : Statement (Instr.abandonEdition f handle) := ofRequest rfl (Nat.le_of_ble_eq_true rfl) (Nat.le_of_ble_eq_true rfl)
theorem read (f : Frame) (key : WireKey) (version : Source) (offset length : Nat) : Statement (Instr.read f key version offset length) := ofRequest rfl (Nat.le_of_ble_eq_true rfl) (Nat.le_of_ble_eq_true rfl)
theorem withdrawEdition (f : Frame) (handle : Nat) : Statement (Instr.withdrawEdition f handle) := ofRequest rfl (Nat.le_of_ble_eq_true rfl) (Nat.le_of_ble_eq_true rfl)
theorem reinstateEdition (f : Frame) (handle : Nat) : Statement (Instr.reinstateEdition f handle) := ofRequest rfl (Nat.le_of_ble_eq_true rfl) (Nat.le_of_ble_eq_true rfl)
theorem purgeEdition (f : Frame) (handle : Nat) : Statement (Instr.purgeEdition f handle) := ofRequest rfl (Nat.le_of_ble_eq_true rfl) (Nat.le_of_ble_eq_true rfl)
theorem registerContributor (f : Frame) (id : Nat) : Statement (Instr.registerContributor f id) := ofRequest rfl (Nat.le_of_ble_eq_true rfl) (Nat.le_of_ble_eq_true rfl)
theorem setContributorState (f : Frame) (id state : Nat) : Statement (Instr.setContributorState f id state) := ofRequest rfl (Nat.le_of_ble_eq_true rfl) (Nat.le_of_ble_eq_true rfl)
theorem setClock (f : Frame) (day tick : Nat) : Statement (Instr.setClock f day tick) := ofRequest rfl (Nat.le_of_ble_eq_true rfl) (Nat.le_of_ble_eq_true rfl)
theorem setOperating (f : Frame) (lowMark retentionDays retireLimit retireAction damageAction : Nat) : Statement (Instr.setOperating f lowMark retentionDays retireLimit retireAction damageAction) := ofRequest rfl (Nat.le_of_ble_eq_true rfl) (Nat.le_of_ble_eq_true rfl)
theorem resumeWrites (f : Frame) : Statement (Instr.resumeWrites f) := ofRequest rfl (Nat.le_of_ble_eq_true rfl) (Nat.le_of_ble_eq_true rfl)
theorem submitPass (f : Frame) (key : WireKey) (source : Source) (mode stride low high k p : Nat) : Statement (Instr.submitPass f key source mode stride low high k p) := ofRequest rfl (Nat.le_of_ble_eq_true rfl) (Nat.le_of_ble_eq_true rfl)
theorem cancelPass (f : Frame) (id : Nat) : Statement (Instr.cancelPass f id) := ofRequest rfl (Nat.le_of_ble_eq_true rfl) (Nat.le_of_ble_eq_true rfl)
theorem passResult (f : Frame) : Statement (Instr.passResult f) := ofRequest rfl (Nat.le_of_ble_eq_true rfl) (Nat.le_of_ble_eq_true rfl)
theorem takeSurvey (f : Frame) : Statement (Instr.takeSurvey f) := ofRequest rfl (Nat.le_of_ble_eq_true rfl) (Nat.le_of_ble_eq_true rfl)
theorem discardVersion (f : Frame) (key : WireKey) (version : Nat) : Statement (Instr.discardVersion f key version) := ofRequest rfl (Nat.le_of_ble_eq_true rfl) (Nat.le_of_ble_eq_true rfl)
theorem openAccount (f : Frame) (id tariffClass limit : Nat) : Statement (Instr.openAccount f id tariffClass limit) := ofRequest rfl (Nat.le_of_ble_eq_true rfl) (Nat.le_of_ble_eq_true rfl)
theorem setAccount (f : Frame) (id tariffClass limit : Nat) : Statement (Instr.setAccount f id tariffClass limit) := ofRequest rfl (Nat.le_of_ble_eq_true rfl) (Nat.le_of_ble_eq_true rfl)
theorem creditAccount (f : Frame) (id amount : Nat) : Statement (Instr.creditAccount f id amount) := ofRequest rfl (Nat.le_of_ble_eq_true rfl) (Nat.le_of_ble_eq_true rfl)
theorem suspendAccount (f : Frame) (id : Nat) : Statement (Instr.suspendAccount f id) := ofRequest rfl (Nat.le_of_ble_eq_true rfl) (Nat.le_of_ble_eq_true rfl)
theorem reinstateAccount (f : Frame) (id : Nat) : Statement (Instr.reinstateAccount f id) := ofRequest rfl (Nat.le_of_ble_eq_true rfl) (Nat.le_of_ble_eq_true rfl)
theorem closeAccount (f : Frame) (id : Nat) : Statement (Instr.closeAccount f id) := ofRequest rfl (Nat.le_of_ble_eq_true rfl) (Nat.le_of_ble_eq_true rfl)
theorem findAccount (f : Frame) (id : Nat) : Statement (Instr.findAccount f id) := ofRequest rfl (Nat.le_of_ble_eq_true rfl) (Nat.le_of_ble_eq_true rfl)
theorem setShare (f : Frame) (id share : Nat) : Statement (Instr.setShare f id share) := ofRequest rfl (Nat.le_of_ble_eq_true rfl) (Nat.le_of_ble_eq_true rfl)
theorem setTariff (f : Frame) (kind usage tariffClass action base copyUnit minimum : Nat) : Statement (Instr.setTariff f kind usage tariffClass action base copyUnit minimum) := ofRequest rfl (Nat.le_of_ble_eq_true rfl) (Nat.le_of_ble_eq_true rfl)
theorem setTariffGlobals (f : Frame) (m0 m1 m2 m3 r p : Nat) : Statement (Instr.setTariffGlobals f m0 m1 m2 m3 r p) := ofRequest rfl (Nat.le_of_ble_eq_true rfl) (Nat.le_of_ble_eq_true rfl)
theorem setPeriodLength (f : Frame) (days : Nat) : Statement (Instr.setPeriodLength f days) := ofRequest rfl (Nat.le_of_ble_eq_true rfl) (Nat.le_of_ble_eq_true rfl)
theorem quote (f : Frame) (account : Nat) (key : WireKey) (usage copies : Nat) : Statement (Instr.quote f account key usage copies) := ofRequest rfl (Nat.le_of_ble_eq_true rfl) (Nat.le_of_ble_eq_true rfl)
theorem order (f : Frame) (account : Nat) (key : WireKey) (usage copies : Nat) : Statement (Instr.order f account key usage copies) := ofRequest rfl (Nat.le_of_ble_eq_true rfl) (Nat.le_of_ble_eq_true rfl)
theorem closePeriod (f : Frame) : Statement (Instr.closePeriod f) := ofRequest rfl (Nat.le_of_ble_eq_true rfl) (Nat.le_of_ble_eq_true rfl)
theorem takeStatements (f : Frame) : Statement (Instr.takeStatements f) := ofRequest rfl (Nat.le_of_ble_eq_true rfl) (Nat.le_of_ble_eq_true rfl)
theorem releaseStatements (f : Frame) (sequence : Nat) : Statement (Instr.releaseStatements f sequence) := ofRequest rfl (Nat.le_of_ble_eq_true rfl) (Nat.le_of_ble_eq_true rfl)
theorem findEdition (f : Frame) (name : EditionName) : Statement (Instr.findEdition f name) := ofRequest rfl (Nat.le_of_ble_eq_true rfl) (Nat.le_of_ble_eq_true rfl)
theorem findObject (f : Frame) (key : WireKey) : Statement (Instr.findObject f key) := ofRequest rfl (Nat.le_of_ble_eq_true rfl) (Nat.le_of_ble_eq_true rfl)
theorem cancelStream (f : Frame) (id : Nat) : Statement (Instr.cancelStream f id) := ofRequest rfl (Nat.le_of_ble_eq_true rfl) (Nat.le_of_ble_eq_true rfl)
theorem status (f : Frame) : Statement (Instr.status f) := ofRequest rfl (Nat.le_of_ble_eq_true rfl) (Nat.le_of_ble_eq_true rfl)
theorem identify (f : Frame) : Statement (Instr.identify f) := ofRequest rfl (Nat.le_of_ble_eq_true rfl) (Nat.le_of_ble_eq_true rfl)
theorem takeNotices (f : Frame) : Statement (Instr.takeNotices f) := ofRequest rfl (Nat.le_of_ble_eq_true rfl) (Nat.le_of_ble_eq_true rfl)
theorem setNoticeMask (f : Frame) (kinds : BitVec 16) : Statement (Instr.setNoticeMask f kinds) := ofRequest rfl (Nat.le_of_ble_eq_true rfl) (Nat.le_of_ble_eq_true rfl)
theorem postMessage (f : Frame) (targets : BitVec 8) (text : List Octet) : Statement (Instr.postMessage f targets text) := ofRequest rfl (Nat.le_of_ble_eq_true rfl) (Nat.le_of_ble_eq_true rfl)
theorem takeMessage (f : Frame) : Statement (Instr.takeMessage f) := ofRequest rfl (Nat.le_of_ble_eq_true rfl) (Nat.le_of_ble_eq_true rfl)
theorem unknownRequest (port : Port) (tag code : Octet) : Statement (Instr.unknownRequest port tag code) := ofEvent rfl rfl
theorem badFrame (port : Port) (tag : Octet) : Statement (Instr.badFrame port tag) := ofEvent rfl rfl
theorem busy (port : Port) (tag : Octet) (malformed : Bool) : Statement (Instr.busy port tag malformed) := ofEvent rfl rfl
theorem replySent (port : Port) : Statement (Instr.replySent port) := ofEvent rfl rfl
theorem dataFrameSent (port : Port) : Statement (Instr.dataFrameSent port) := ofEvent rfl rfl
theorem endFrameSent (port : Port) : Statement (Instr.endFrameSent port) := ofEvent rfl rfl
theorem sheetFetchComplete (wing : Wing) (delivered : Option Sheet) : Statement (Instr.sheetFetchComplete wing delivered) := ofEvent rfl rfl
theorem leafProgramWritten : Statement (Instr.leafProgramWritten) := ofEvent rfl rfl
theorem leafProgramFailed : Statement (Instr.leafProgramFailed) := ofEvent rfl rfl
theorem stripeEraseComplete (erased : Bool) : Statement (Instr.stripeEraseComplete erased) := ofEvent rfl rfl
theorem dayMark : Statement (Instr.dayMark) := ofEvent rfl rfl
theorem tick : Statement (Instr.tick) := ofEvent rfl rfl
theorem clockSaturated : Statement (Instr.clockSaturated) := ofEvent rfl rfl
theorem countdownExpiry : Statement (Instr.countdownExpiry) := ofEvent rfl rfl
theorem storeGuardAsserted : Statement (Instr.storeGuardAsserted) := ofEvent rfl rfl
theorem storeGuardReleased : Statement (Instr.storeGuardReleased) := ofEvent rfl rfl
theorem linkReset (port : Port) : Statement (Instr.linkReset port) := ofEvent rfl rfl
theorem breakEnd (port : Port) : Statement (Instr.breakEnd port) := ofEvent rfl rfl
theorem powerLoss : Statement (Instr.powerLoss) := ofEvent rfl rfl
theorem resetLineAsserted : Statement (Instr.resetLineAsserted) := ofEvent rfl rfl
theorem powerApplied : Statement (Instr.powerApplied) := ofEvent rfl rfl
theorem resetLineReleased : Statement (Instr.resetLineReleased) := ofEvent rfl rfl
theorem startUpEnd : Statement (Instr.startUpEnd) := ofEvent rfl rfl
theorem statementMove : Statement (Instr.statementMove) := ofEvent rfl rfl

end Sys2Proof.Laws.Code
end

