-- ==== Sys2Proof/Laws/State.lean ====
section
/-! SUPPORT. One lemma per field per update of the state, so that no proof unfolds a record update. -/

namespace Sys2Proof.Machine

/-! `putStripe` -/

@[simp] theorem putStripe_catalog (n : Nat) (r : Stripe) (s : State) : (s.putStripe n r).catalog = s.catalog := rfl
@[simp] theorem putStripe_intake (n : Nat) (r : Stripe) (s : State) : (s.putStripe n r).intake = s.intake := rfl
@[simp] theorem putStripe_streams (n : Nat) (r : Stripe) (s : State) : (s.putStripe n r).streams = s.streams := rfl
@[simp] theorem putStripe_relocation (n : Nat) (r : Stripe) (s : State) : (s.putStripe n r).relocation = s.relocation := rfl
@[simp] theorem putStripe_passes (n : Nat) (r : Stripe) (s : State) : (s.putStripe n r).passes = s.passes := rfl
@[simp] theorem putStripe_ledger (n : Nat) (r : Stripe) (s : State) : (s.putStripe n r).ledger = s.ledger := rfl
@[simp] theorem putStripe_billing (n : Nat) (r : Stripe) (s : State) : (s.putStripe n r).billing = s.billing := rfl
@[simp] theorem putStripe_clock (n : Nat) (r : Stripe) (s : State) : (s.putStripe n r).clock = s.clock := rfl
@[simp] theorem putStripe_notices (n : Nat) (r : Stripe) (s : State) : (s.putStripe n r).notices = s.notices := rfl
@[simp] theorem putStripe_mailboxes (n : Nat) (r : Stripe) (s : State) : (s.putStripe n r).mailboxes = s.mailboxes := rfl
@[simp] theorem putStripe_control (n : Nat) (r : Stripe) (s : State) : (s.putStripe n r).control = s.control := rfl
@[simp] theorem putStripe_links (n : Nat) (r : Stripe) (s : State) : (s.putStripe n r).links = s.links := rfl
@[simp] theorem putStripe_pending (n : Nat) (r : Stripe) (s : State) : (s.putStripe n r).pending = s.pending := rfl

/-! `mapStripe` -/

@[simp] theorem mapStripe_catalog (n : Nat) (g : Stripe → Stripe) (s : State) : (s.mapStripe n g).catalog = s.catalog := rfl
@[simp] theorem mapStripe_intake (n : Nat) (g : Stripe → Stripe) (s : State) : (s.mapStripe n g).intake = s.intake := rfl
@[simp] theorem mapStripe_streams (n : Nat) (g : Stripe → Stripe) (s : State) : (s.mapStripe n g).streams = s.streams := rfl
@[simp] theorem mapStripe_relocation (n : Nat) (g : Stripe → Stripe) (s : State) : (s.mapStripe n g).relocation = s.relocation := rfl
@[simp] theorem mapStripe_passes (n : Nat) (g : Stripe → Stripe) (s : State) : (s.mapStripe n g).passes = s.passes := rfl
@[simp] theorem mapStripe_ledger (n : Nat) (g : Stripe → Stripe) (s : State) : (s.mapStripe n g).ledger = s.ledger := rfl
@[simp] theorem mapStripe_billing (n : Nat) (g : Stripe → Stripe) (s : State) : (s.mapStripe n g).billing = s.billing := rfl
@[simp] theorem mapStripe_clock (n : Nat) (g : Stripe → Stripe) (s : State) : (s.mapStripe n g).clock = s.clock := rfl
@[simp] theorem mapStripe_notices (n : Nat) (g : Stripe → Stripe) (s : State) : (s.mapStripe n g).notices = s.notices := rfl
@[simp] theorem mapStripe_mailboxes (n : Nat) (g : Stripe → Stripe) (s : State) : (s.mapStripe n g).mailboxes = s.mailboxes := rfl
@[simp] theorem mapStripe_control (n : Nat) (g : Stripe → Stripe) (s : State) : (s.mapStripe n g).control = s.control := rfl
@[simp] theorem mapStripe_links (n : Nat) (g : Stripe → Stripe) (s : State) : (s.mapStripe n g).links = s.links := rfl
@[simp] theorem mapStripe_pending (n : Nat) (g : Stripe → Stripe) (s : State) : (s.mapStripe n g).pending = s.pending := rfl

/-! `liveRises` -/

@[simp] theorem liveRises_catalog (n k : Nat) (s : State) : (liveRises n k s).catalog = s.catalog := rfl
@[simp] theorem liveRises_intake (n k : Nat) (s : State) : (liveRises n k s).intake = s.intake := rfl
@[simp] theorem liveRises_streams (n k : Nat) (s : State) : (liveRises n k s).streams = s.streams := rfl
@[simp] theorem liveRises_relocation (n k : Nat) (s : State) : (liveRises n k s).relocation = s.relocation := rfl
@[simp] theorem liveRises_passes (n k : Nat) (s : State) : (liveRises n k s).passes = s.passes := rfl
@[simp] theorem liveRises_ledger (n k : Nat) (s : State) : (liveRises n k s).ledger = s.ledger := rfl
@[simp] theorem liveRises_billing (n k : Nat) (s : State) : (liveRises n k s).billing = s.billing := rfl
@[simp] theorem liveRises_clock (n k : Nat) (s : State) : (liveRises n k s).clock = s.clock := rfl
@[simp] theorem liveRises_notices (n k : Nat) (s : State) : (liveRises n k s).notices = s.notices := rfl
@[simp] theorem liveRises_mailboxes (n k : Nat) (s : State) : (liveRises n k s).mailboxes = s.mailboxes := rfl
@[simp] theorem liveRises_control (n k : Nat) (s : State) : (liveRises n k s).control = s.control := rfl
@[simp] theorem liveRises_links (n k : Nat) (s : State) : (liveRises n k s).links = s.links := rfl
@[simp] theorem liveRises_pending (n k : Nat) (s : State) : (liveRises n k s).pending = s.pending := rfl

/-! `liveFalls` -/

@[simp] theorem liveFalls_catalog (n k : Nat) (s : State) : (liveFalls n k s).catalog = s.catalog := rfl
@[simp] theorem liveFalls_intake (n k : Nat) (s : State) : (liveFalls n k s).intake = s.intake := rfl
@[simp] theorem liveFalls_streams (n k : Nat) (s : State) : (liveFalls n k s).streams = s.streams := rfl
@[simp] theorem liveFalls_relocation (n k : Nat) (s : State) : (liveFalls n k s).relocation = s.relocation := rfl
@[simp] theorem liveFalls_passes (n k : Nat) (s : State) : (liveFalls n k s).passes = s.passes := rfl
@[simp] theorem liveFalls_ledger (n k : Nat) (s : State) : (liveFalls n k s).ledger = s.ledger := rfl
@[simp] theorem liveFalls_billing (n k : Nat) (s : State) : (liveFalls n k s).billing = s.billing := rfl
@[simp] theorem liveFalls_clock (n k : Nat) (s : State) : (liveFalls n k s).clock = s.clock := rfl
@[simp] theorem liveFalls_notices (n k : Nat) (s : State) : (liveFalls n k s).notices = s.notices := rfl
@[simp] theorem liveFalls_mailboxes (n k : Nat) (s : State) : (liveFalls n k s).mailboxes = s.mailboxes := rfl
@[simp] theorem liveFalls_control (n k : Nat) (s : State) : (liveFalls n k s).control = s.control := rfl
@[simp] theorem liveFalls_links (n k : Nat) (s : State) : (liveFalls n k s).links = s.links := rfl
@[simp] theorem liveFalls_pending (n k : Nat) (s : State) : (liveFalls n k s).pending = s.pending := rfl

/-! `stall` -/

@[simp] theorem stall_catalog (f : Front) (s : State) : (stall f s).catalog = s.catalog := rfl
@[simp] theorem stall_intake (f : Front) (s : State) : (stall f s).intake = s.intake := rfl
@[simp] theorem stall_streams (f : Front) (s : State) : (stall f s).streams = s.streams := rfl
@[simp] theorem stall_relocation (f : Front) (s : State) : (stall f s).relocation = s.relocation := rfl
@[simp] theorem stall_passes (f : Front) (s : State) : (stall f s).passes = s.passes := rfl
@[simp] theorem stall_ledger (f : Front) (s : State) : (stall f s).ledger = s.ledger := rfl
@[simp] theorem stall_billing (f : Front) (s : State) : (stall f s).billing = s.billing := rfl
@[simp] theorem stall_clock (f : Front) (s : State) : (stall f s).clock = s.clock := rfl
@[simp] theorem stall_notices (f : Front) (s : State) : (stall f s).notices = s.notices := rfl
@[simp] theorem stall_mailboxes (f : Front) (s : State) : (stall f s).mailboxes = s.mailboxes := rfl
@[simp] theorem stall_control (f : Front) (s : State) : (stall f s).control = s.control := rfl
@[simp] theorem stall_links (f : Front) (s : State) : (stall f s).links = s.links := rfl
@[simp] theorem stall_pending (f : Front) (s : State) : (stall f s).pending = s.pending := rfl

/-! `unstall` -/

@[simp] theorem unstall_catalog (f : Front) (s : State) : (unstall f s).catalog = s.catalog := rfl
@[simp] theorem unstall_intake (f : Front) (s : State) : (unstall f s).intake = s.intake := rfl
@[simp] theorem unstall_streams (f : Front) (s : State) : (unstall f s).streams = s.streams := rfl
@[simp] theorem unstall_relocation (f : Front) (s : State) : (unstall f s).relocation = s.relocation := rfl
@[simp] theorem unstall_passes (f : Front) (s : State) : (unstall f s).passes = s.passes := rfl
@[simp] theorem unstall_ledger (f : Front) (s : State) : (unstall f s).ledger = s.ledger := rfl
@[simp] theorem unstall_billing (f : Front) (s : State) : (unstall f s).billing = s.billing := rfl
@[simp] theorem unstall_clock (f : Front) (s : State) : (unstall f s).clock = s.clock := rfl
@[simp] theorem unstall_notices (f : Front) (s : State) : (unstall f s).notices = s.notices := rfl
@[simp] theorem unstall_mailboxes (f : Front) (s : State) : (unstall f s).mailboxes = s.mailboxes := rfl
@[simp] theorem unstall_control (f : Front) (s : State) : (unstall f s).control = s.control := rfl
@[simp] theorem unstall_links (f : Front) (s : State) : (unstall f s).links = s.links := rfl
@[simp] theorem unstall_pending (f : Front) (s : State) : (unstall f s).pending = s.pending := rfl

/-! `writeLeaf` -/

@[simp] theorem writeLeaf_catalog (op : ProgramOp) (s : State) : (writeLeaf op s).catalog = s.catalog := rfl
@[simp] theorem writeLeaf_intake (op : ProgramOp) (s : State) : (writeLeaf op s).intake = s.intake := rfl
@[simp] theorem writeLeaf_streams (op : ProgramOp) (s : State) : (writeLeaf op s).streams = s.streams := rfl
@[simp] theorem writeLeaf_relocation (op : ProgramOp) (s : State) : (writeLeaf op s).relocation = s.relocation := rfl
@[simp] theorem writeLeaf_passes (op : ProgramOp) (s : State) : (writeLeaf op s).passes = s.passes := rfl
@[simp] theorem writeLeaf_ledger (op : ProgramOp) (s : State) : (writeLeaf op s).ledger = s.ledger := rfl
@[simp] theorem writeLeaf_billing (op : ProgramOp) (s : State) : (writeLeaf op s).billing = s.billing := rfl
@[simp] theorem writeLeaf_clock (op : ProgramOp) (s : State) : (writeLeaf op s).clock = s.clock := rfl
@[simp] theorem writeLeaf_notices (op : ProgramOp) (s : State) : (writeLeaf op s).notices = s.notices := rfl
@[simp] theorem writeLeaf_mailboxes (op : ProgramOp) (s : State) : (writeLeaf op s).mailboxes = s.mailboxes := rfl
@[simp] theorem writeLeaf_control (op : ProgramOp) (s : State) : (writeLeaf op s).control = s.control := rfl
@[simp] theorem writeLeaf_links (op : ProgramOp) (s : State) : (writeLeaf op s).links = s.links := rfl
@[simp] theorem writeLeaf_pending (op : ProgramOp) (s : State) : (writeLeaf op s).pending = s.pending := rfl

/-! `loseLeaf` -/

@[simp] theorem loseLeaf_catalog (n i : Nat) (s : State) : (loseLeaf n i s).catalog = s.catalog := rfl
@[simp] theorem loseLeaf_intake (n i : Nat) (s : State) : (loseLeaf n i s).intake = s.intake := rfl
@[simp] theorem loseLeaf_streams (n i : Nat) (s : State) : (loseLeaf n i s).streams = s.streams := rfl
@[simp] theorem loseLeaf_relocation (n i : Nat) (s : State) : (loseLeaf n i s).relocation = s.relocation := rfl
@[simp] theorem loseLeaf_passes (n i : Nat) (s : State) : (loseLeaf n i s).passes = s.passes := rfl
@[simp] theorem loseLeaf_ledger (n i : Nat) (s : State) : (loseLeaf n i s).ledger = s.ledger := rfl
@[simp] theorem loseLeaf_billing (n i : Nat) (s : State) : (loseLeaf n i s).billing = s.billing := rfl
@[simp] theorem loseLeaf_clock (n i : Nat) (s : State) : (loseLeaf n i s).clock = s.clock := rfl
@[simp] theorem loseLeaf_notices (n i : Nat) (s : State) : (loseLeaf n i s).notices = s.notices := rfl
@[simp] theorem loseLeaf_mailboxes (n i : Nat) (s : State) : (loseLeaf n i s).mailboxes = s.mailboxes := rfl
@[simp] theorem loseLeaf_control (n i : Nat) (s : State) : (loseLeaf n i s).control = s.control := rfl
@[simp] theorem loseLeaf_links (n i : Nat) (s : State) : (loseLeaf n i s).links = s.links := rfl
@[simp] theorem loseLeaf_pending (n i : Nat) (s : State) : (loseLeaf n i s).pending = s.pending := rfl

/-! `eraseLeaves` -/

@[simp] theorem eraseLeaves_catalog (n : Nat) (s : State) : (eraseLeaves n s).catalog = s.catalog := rfl
@[simp] theorem eraseLeaves_intake (n : Nat) (s : State) : (eraseLeaves n s).intake = s.intake := rfl
@[simp] theorem eraseLeaves_streams (n : Nat) (s : State) : (eraseLeaves n s).streams = s.streams := rfl
@[simp] theorem eraseLeaves_relocation (n : Nat) (s : State) : (eraseLeaves n s).relocation = s.relocation := rfl
@[simp] theorem eraseLeaves_passes (n : Nat) (s : State) : (eraseLeaves n s).passes = s.passes := rfl
@[simp] theorem eraseLeaves_ledger (n : Nat) (s : State) : (eraseLeaves n s).ledger = s.ledger := rfl
@[simp] theorem eraseLeaves_billing (n : Nat) (s : State) : (eraseLeaves n s).billing = s.billing := rfl
@[simp] theorem eraseLeaves_clock (n : Nat) (s : State) : (eraseLeaves n s).clock = s.clock := rfl
@[simp] theorem eraseLeaves_notices (n : Nat) (s : State) : (eraseLeaves n s).notices = s.notices := rfl
@[simp] theorem eraseLeaves_mailboxes (n : Nat) (s : State) : (eraseLeaves n s).mailboxes = s.mailboxes := rfl
@[simp] theorem eraseLeaves_control (n : Nat) (s : State) : (eraseLeaves n s).control = s.control := rfl
@[simp] theorem eraseLeaves_links (n : Nat) (s : State) : (eraseLeaves n s).links = s.links := rfl
@[simp] theorem eraseLeaves_pending (n : Nat) (s : State) : (eraseLeaves n s).pending = s.pending := rfl

/-! `notify` -/

@[simp] theorem notify_store (n : Notice) (p : Port) (s : State) : (notify n p s).store = s.store := rfl
@[simp] theorem notify_catalog (n : Notice) (p : Port) (s : State) : (notify n p s).catalog = s.catalog := rfl
@[simp] theorem notify_intake (n : Notice) (p : Port) (s : State) : (notify n p s).intake = s.intake := rfl
@[simp] theorem notify_streams (n : Notice) (p : Port) (s : State) : (notify n p s).streams = s.streams := rfl
@[simp] theorem notify_relocation (n : Notice) (p : Port) (s : State) : (notify n p s).relocation = s.relocation := rfl
@[simp] theorem notify_passes (n : Notice) (p : Port) (s : State) : (notify n p s).passes = s.passes := rfl
@[simp] theorem notify_ledger (n : Notice) (p : Port) (s : State) : (notify n p s).ledger = s.ledger := rfl
@[simp] theorem notify_billing (n : Notice) (p : Port) (s : State) : (notify n p s).billing = s.billing := rfl
@[simp] theorem notify_clock (n : Notice) (p : Port) (s : State) : (notify n p s).clock = s.clock := rfl
@[simp] theorem notify_mailboxes (n : Notice) (p : Port) (s : State) : (notify n p s).mailboxes = s.mailboxes := rfl
@[simp] theorem notify_control (n : Notice) (p : Port) (s : State) : (notify n p s).control = s.control := rfl
@[simp] theorem notify_links (n : Notice) (p : Port) (s : State) : (notify n p s).links = s.links := rfl
@[simp] theorem notify_pending (n : Notice) (p : Port) (s : State) : (notify n p s).pending = s.pending := rfl

/-! `holdFor` -/

@[simp] theorem holdFor_store (p : Port) (s : State) : (holdFor p s).store = s.store := rfl
@[simp] theorem holdFor_catalog (p : Port) (s : State) : (holdFor p s).catalog = s.catalog := rfl
@[simp] theorem holdFor_intake (p : Port) (s : State) : (holdFor p s).intake = s.intake := rfl
@[simp] theorem holdFor_streams (p : Port) (s : State) : (holdFor p s).streams = s.streams := rfl
@[simp] theorem holdFor_relocation (p : Port) (s : State) : (holdFor p s).relocation = s.relocation := rfl
@[simp] theorem holdFor_passes (p : Port) (s : State) : (holdFor p s).passes = s.passes := rfl
@[simp] theorem holdFor_ledger (p : Port) (s : State) : (holdFor p s).ledger = s.ledger := rfl
@[simp] theorem holdFor_billing (p : Port) (s : State) : (holdFor p s).billing = s.billing := rfl
@[simp] theorem holdFor_clock (p : Port) (s : State) : (holdFor p s).clock = s.clock := rfl
@[simp] theorem holdFor_mailboxes (p : Port) (s : State) : (holdFor p s).mailboxes = s.mailboxes := rfl
@[simp] theorem holdFor_control (p : Port) (s : State) : (holdFor p s).control = s.control := rfl
@[simp] theorem holdFor_links (p : Port) (s : State) : (holdFor p s).links = s.links := rfl
@[simp] theorem holdFor_pending (p : Port) (s : State) : (holdFor p s).pending = s.pending := rfl

/-! `putAccount` -/

@[simp] theorem putAccount_store (id : Nat) (a : Account) (s : State) : (s.putAccount id a).store = s.store := rfl
@[simp] theorem putAccount_catalog (id : Nat) (a : Account) (s : State) : (s.putAccount id a).catalog = s.catalog := rfl
@[simp] theorem putAccount_intake (id : Nat) (a : Account) (s : State) : (s.putAccount id a).intake = s.intake := rfl
@[simp] theorem putAccount_streams (id : Nat) (a : Account) (s : State) : (s.putAccount id a).streams = s.streams := rfl
@[simp] theorem putAccount_relocation (id : Nat) (a : Account) (s : State) : (s.putAccount id a).relocation = s.relocation := rfl
@[simp] theorem putAccount_passes (id : Nat) (a : Account) (s : State) : (s.putAccount id a).passes = s.passes := rfl
@[simp] theorem putAccount_billing (id : Nat) (a : Account) (s : State) : (s.putAccount id a).billing = s.billing := rfl
@[simp] theorem putAccount_clock (id : Nat) (a : Account) (s : State) : (s.putAccount id a).clock = s.clock := rfl
@[simp] theorem putAccount_notices (id : Nat) (a : Account) (s : State) : (s.putAccount id a).notices = s.notices := rfl
@[simp] theorem putAccount_mailboxes (id : Nat) (a : Account) (s : State) : (s.putAccount id a).mailboxes = s.mailboxes := rfl
@[simp] theorem putAccount_control (id : Nat) (a : Account) (s : State) : (s.putAccount id a).control = s.control := rfl
@[simp] theorem putAccount_links (id : Nat) (a : Account) (s : State) : (s.putAccount id a).links = s.links := rfl
@[simp] theorem putAccount_pending (id : Nat) (a : Account) (s : State) : (s.putAccount id a).pending = s.pending := rfl

/-! `putContributor` -/

@[simp] theorem putContributor_store (id : Nat) (c : Contributor) (s : State) : (s.putContributor id c).store = s.store := rfl
@[simp] theorem putContributor_catalog (id : Nat) (c : Contributor) (s : State) : (s.putContributor id c).catalog = s.catalog := rfl
@[simp] theorem putContributor_intake (id : Nat) (c : Contributor) (s : State) : (s.putContributor id c).intake = s.intake := rfl
@[simp] theorem putContributor_streams (id : Nat) (c : Contributor) (s : State) : (s.putContributor id c).streams = s.streams := rfl
@[simp] theorem putContributor_relocation (id : Nat) (c : Contributor) (s : State) : (s.putContributor id c).relocation = s.relocation := rfl
@[simp] theorem putContributor_passes (id : Nat) (c : Contributor) (s : State) : (s.putContributor id c).passes = s.passes := rfl
@[simp] theorem putContributor_billing (id : Nat) (c : Contributor) (s : State) : (s.putContributor id c).billing = s.billing := rfl
@[simp] theorem putContributor_clock (id : Nat) (c : Contributor) (s : State) : (s.putContributor id c).clock = s.clock := rfl
@[simp] theorem putContributor_notices (id : Nat) (c : Contributor) (s : State) : (s.putContributor id c).notices = s.notices := rfl
@[simp] theorem putContributor_mailboxes (id : Nat) (c : Contributor) (s : State) : (s.putContributor id c).mailboxes = s.mailboxes := rfl
@[simp] theorem putContributor_control (id : Nat) (c : Contributor) (s : State) : (s.putContributor id c).control = s.control := rfl
@[simp] theorem putContributor_links (id : Nat) (c : Contributor) (s : State) : (s.putContributor id c).links = s.links := rfl
@[simp] theorem putContributor_pending (id : Nat) (c : Contributor) (s : State) : (s.putContributor id c).pending = s.pending := rfl

/-! `putEdition` -/

@[simp] theorem putEdition_store (h : Nat) (e : Edition) (s : State) : (s.putEdition h e).store = s.store := rfl
@[simp] theorem putEdition_intake (h : Nat) (e : Edition) (s : State) : (s.putEdition h e).intake = s.intake := rfl
@[simp] theorem putEdition_streams (h : Nat) (e : Edition) (s : State) : (s.putEdition h e).streams = s.streams := rfl
@[simp] theorem putEdition_relocation (h : Nat) (e : Edition) (s : State) : (s.putEdition h e).relocation = s.relocation := rfl
@[simp] theorem putEdition_passes (h : Nat) (e : Edition) (s : State) : (s.putEdition h e).passes = s.passes := rfl
@[simp] theorem putEdition_ledger (h : Nat) (e : Edition) (s : State) : (s.putEdition h e).ledger = s.ledger := rfl
@[simp] theorem putEdition_billing (h : Nat) (e : Edition) (s : State) : (s.putEdition h e).billing = s.billing := rfl
@[simp] theorem putEdition_clock (h : Nat) (e : Edition) (s : State) : (s.putEdition h e).clock = s.clock := rfl
@[simp] theorem putEdition_notices (h : Nat) (e : Edition) (s : State) : (s.putEdition h e).notices = s.notices := rfl
@[simp] theorem putEdition_mailboxes (h : Nat) (e : Edition) (s : State) : (s.putEdition h e).mailboxes = s.mailboxes := rfl
@[simp] theorem putEdition_control (h : Nat) (e : Edition) (s : State) : (s.putEdition h e).control = s.control := rfl
@[simp] theorem putEdition_links (h : Nat) (e : Edition) (s : State) : (s.putEdition h e).links = s.links := rfl
@[simp] theorem putEdition_pending (h : Nat) (e : Edition) (s : State) : (s.putEdition h e).pending = s.pending := rfl

/-! `putObject` -/

@[simp] theorem putObject_store (o : Object) (s : State) : (s.putObject o).store = s.store := rfl
@[simp] theorem putObject_intake (o : Object) (s : State) : (s.putObject o).intake = s.intake := rfl
@[simp] theorem putObject_streams (o : Object) (s : State) : (s.putObject o).streams = s.streams := rfl
@[simp] theorem putObject_relocation (o : Object) (s : State) : (s.putObject o).relocation = s.relocation := rfl
@[simp] theorem putObject_passes (o : Object) (s : State) : (s.putObject o).passes = s.passes := rfl
@[simp] theorem putObject_ledger (o : Object) (s : State) : (s.putObject o).ledger = s.ledger := rfl
@[simp] theorem putObject_billing (o : Object) (s : State) : (s.putObject o).billing = s.billing := rfl
@[simp] theorem putObject_clock (o : Object) (s : State) : (s.putObject o).clock = s.clock := rfl
@[simp] theorem putObject_notices (o : Object) (s : State) : (s.putObject o).notices = s.notices := rfl
@[simp] theorem putObject_mailboxes (o : Object) (s : State) : (s.putObject o).mailboxes = s.mailboxes := rfl
@[simp] theorem putObject_control (o : Object) (s : State) : (s.putObject o).control = s.control := rfl
@[simp] theorem putObject_links (o : Object) (s : State) : (s.putObject o).links = s.links := rfl
@[simp] theorem putObject_pending (o : Object) (s : State) : (s.putObject o).pending = s.pending := rfl

/-! `takeSerial` -/

@[simp] theorem takeSerial_store (s : State) : (takeSerial s).store = s.store := rfl
@[simp] theorem takeSerial_intake (s : State) : (takeSerial s).intake = s.intake := rfl
@[simp] theorem takeSerial_streams (s : State) : (takeSerial s).streams = s.streams := rfl
@[simp] theorem takeSerial_relocation (s : State) : (takeSerial s).relocation = s.relocation := rfl
@[simp] theorem takeSerial_passes (s : State) : (takeSerial s).passes = s.passes := rfl
@[simp] theorem takeSerial_ledger (s : State) : (takeSerial s).ledger = s.ledger := rfl
@[simp] theorem takeSerial_billing (s : State) : (takeSerial s).billing = s.billing := rfl
@[simp] theorem takeSerial_clock (s : State) : (takeSerial s).clock = s.clock := rfl
@[simp] theorem takeSerial_notices (s : State) : (takeSerial s).notices = s.notices := rfl
@[simp] theorem takeSerial_mailboxes (s : State) : (takeSerial s).mailboxes = s.mailboxes := rfl
@[simp] theorem takeSerial_control (s : State) : (takeSerial s).control = s.control := rfl
@[simp] theorem takeSerial_links (s : State) : (takeSerial s).links = s.links := rfl
@[simp] theorem takeSerial_pending (s : State) : (takeSerial s).pending = s.pending := rfl

/-! `putPortStreams` -/

@[simp] theorem putPortStreams_store (p : Port) (x : PortStreams) (s : State) : (s.putPortStreams p x).store = s.store := rfl
@[simp] theorem putPortStreams_catalog (p : Port) (x : PortStreams) (s : State) : (s.putPortStreams p x).catalog = s.catalog := rfl
@[simp] theorem putPortStreams_intake (p : Port) (x : PortStreams) (s : State) : (s.putPortStreams p x).intake = s.intake := rfl
@[simp] theorem putPortStreams_relocation (p : Port) (x : PortStreams) (s : State) : (s.putPortStreams p x).relocation = s.relocation := rfl
@[simp] theorem putPortStreams_passes (p : Port) (x : PortStreams) (s : State) : (s.putPortStreams p x).passes = s.passes := rfl
@[simp] theorem putPortStreams_ledger (p : Port) (x : PortStreams) (s : State) : (s.putPortStreams p x).ledger = s.ledger := rfl
@[simp] theorem putPortStreams_billing (p : Port) (x : PortStreams) (s : State) : (s.putPortStreams p x).billing = s.billing := rfl
@[simp] theorem putPortStreams_clock (p : Port) (x : PortStreams) (s : State) : (s.putPortStreams p x).clock = s.clock := rfl
@[simp] theorem putPortStreams_notices (p : Port) (x : PortStreams) (s : State) : (s.putPortStreams p x).notices = s.notices := rfl
@[simp] theorem putPortStreams_mailboxes (p : Port) (x : PortStreams) (s : State) : (s.putPortStreams p x).mailboxes = s.mailboxes := rfl
@[simp] theorem putPortStreams_control (p : Port) (x : PortStreams) (s : State) : (s.putPortStreams p x).control = s.control := rfl
@[simp] theorem putPortStreams_links (p : Port) (x : PortStreams) (s : State) : (s.putPortStreams p x).links = s.links := rfl
@[simp] theorem putPortStreams_pending (p : Port) (x : PortStreams) (s : State) : (s.putPortStreams p x).pending = s.pending := rfl

/-! `heldFalls` -/

@[simp] theorem heldFalls_store (a n : Nat) (s : State) : (heldFalls a n s).store = s.store := rfl
@[simp] theorem heldFalls_catalog (a n : Nat) (s : State) : (heldFalls a n s).catalog = s.catalog := rfl
@[simp] theorem heldFalls_intake (a n : Nat) (s : State) : (heldFalls a n s).intake = s.intake := rfl
@[simp] theorem heldFalls_streams (a n : Nat) (s : State) : (heldFalls a n s).streams = s.streams := rfl
@[simp] theorem heldFalls_relocation (a n : Nat) (s : State) : (heldFalls a n s).relocation = s.relocation := rfl
@[simp] theorem heldFalls_passes (a n : Nat) (s : State) : (heldFalls a n s).passes = s.passes := rfl
@[simp] theorem heldFalls_billing (a n : Nat) (s : State) : (heldFalls a n s).billing = s.billing := rfl
@[simp] theorem heldFalls_clock (a n : Nat) (s : State) : (heldFalls a n s).clock = s.clock := rfl
@[simp] theorem heldFalls_notices (a n : Nat) (s : State) : (heldFalls a n s).notices = s.notices := rfl
@[simp] theorem heldFalls_mailboxes (a n : Nat) (s : State) : (heldFalls a n s).mailboxes = s.mailboxes := rfl
@[simp] theorem heldFalls_control (a n : Nat) (s : State) : (heldFalls a n s).control = s.control := rfl
@[simp] theorem heldFalls_links (a n : Nat) (s : State) : (heldFalls a n s).links = s.links := rfl
@[simp] theorem heldFalls_pending (a n : Nat) (s : State) : (heldFalls a n s).pending = s.pending := rfl

/-! `putDescriptor` -/

@[simp] theorem putDescriptor_store (n : Nat) (d : Descriptor) (s : State) : (s.putDescriptor n d).store = s.store := rfl
@[simp] theorem putDescriptor_catalog (n : Nat) (d : Descriptor) (s : State) : (s.putDescriptor n d).catalog = s.catalog := rfl
@[simp] theorem putDescriptor_streams (n : Nat) (d : Descriptor) (s : State) : (s.putDescriptor n d).streams = s.streams := rfl
@[simp] theorem putDescriptor_relocation (n : Nat) (d : Descriptor) (s : State) : (s.putDescriptor n d).relocation = s.relocation := rfl
@[simp] theorem putDescriptor_passes (n : Nat) (d : Descriptor) (s : State) : (s.putDescriptor n d).passes = s.passes := rfl
@[simp] theorem putDescriptor_ledger (n : Nat) (d : Descriptor) (s : State) : (s.putDescriptor n d).ledger = s.ledger := rfl
@[simp] theorem putDescriptor_billing (n : Nat) (d : Descriptor) (s : State) : (s.putDescriptor n d).billing = s.billing := rfl
@[simp] theorem putDescriptor_clock (n : Nat) (d : Descriptor) (s : State) : (s.putDescriptor n d).clock = s.clock := rfl
@[simp] theorem putDescriptor_notices (n : Nat) (d : Descriptor) (s : State) : (s.putDescriptor n d).notices = s.notices := rfl
@[simp] theorem putDescriptor_mailboxes (n : Nat) (d : Descriptor) (s : State) : (s.putDescriptor n d).mailboxes = s.mailboxes := rfl
@[simp] theorem putDescriptor_control (n : Nat) (d : Descriptor) (s : State) : (s.putDescriptor n d).control = s.control := rfl
@[simp] theorem putDescriptor_links (n : Nat) (d : Descriptor) (s : State) : (s.putDescriptor n d).links = s.links := rfl
@[simp] theorem putDescriptor_pending (n : Nat) (d : Descriptor) (s : State) : (s.putDescriptor n d).pending = s.pending := rfl

/-! `freeDescriptor` -/

@[simp] theorem freeDescriptor_store (n : Nat) (s : State) : (freeDescriptor n s).store = s.store := rfl
@[simp] theorem freeDescriptor_catalog (n : Nat) (s : State) : (freeDescriptor n s).catalog = s.catalog := rfl
@[simp] theorem freeDescriptor_streams (n : Nat) (s : State) : (freeDescriptor n s).streams = s.streams := rfl
@[simp] theorem freeDescriptor_relocation (n : Nat) (s : State) : (freeDescriptor n s).relocation = s.relocation := rfl
@[simp] theorem freeDescriptor_passes (n : Nat) (s : State) : (freeDescriptor n s).passes = s.passes := rfl
@[simp] theorem freeDescriptor_ledger (n : Nat) (s : State) : (freeDescriptor n s).ledger = s.ledger := rfl
@[simp] theorem freeDescriptor_billing (n : Nat) (s : State) : (freeDescriptor n s).billing = s.billing := rfl
@[simp] theorem freeDescriptor_clock (n : Nat) (s : State) : (freeDescriptor n s).clock = s.clock := rfl
@[simp] theorem freeDescriptor_notices (n : Nat) (s : State) : (freeDescriptor n s).notices = s.notices := rfl
@[simp] theorem freeDescriptor_mailboxes (n : Nat) (s : State) : (freeDescriptor n s).mailboxes = s.mailboxes := rfl
@[simp] theorem freeDescriptor_control (n : Nat) (s : State) : (freeDescriptor n s).control = s.control := rfl
@[simp] theorem freeDescriptor_links (n : Nat) (s : State) : (freeDescriptor n s).links = s.links := rfl
@[simp] theorem freeDescriptor_pending (n : Nat) (s : State) : (freeDescriptor n s).pending = s.pending := rfl

/-! `putRound` -/

@[simp] theorem putRound_store (r : Option Round) (s : State) : (s.putRound r).store = s.store := rfl
@[simp] theorem putRound_catalog (r : Option Round) (s : State) : (s.putRound r).catalog = s.catalog := rfl
@[simp] theorem putRound_intake (r : Option Round) (s : State) : (s.putRound r).intake = s.intake := rfl
@[simp] theorem putRound_streams (r : Option Round) (s : State) : (s.putRound r).streams = s.streams := rfl
@[simp] theorem putRound_passes (r : Option Round) (s : State) : (s.putRound r).passes = s.passes := rfl
@[simp] theorem putRound_ledger (r : Option Round) (s : State) : (s.putRound r).ledger = s.ledger := rfl
@[simp] theorem putRound_billing (r : Option Round) (s : State) : (s.putRound r).billing = s.billing := rfl
@[simp] theorem putRound_clock (r : Option Round) (s : State) : (s.putRound r).clock = s.clock := rfl
@[simp] theorem putRound_notices (r : Option Round) (s : State) : (s.putRound r).notices = s.notices := rfl
@[simp] theorem putRound_mailboxes (r : Option Round) (s : State) : (s.putRound r).mailboxes = s.mailboxes := rfl
@[simp] theorem putRound_control (r : Option Round) (s : State) : (s.putRound r).control = s.control := rfl
@[simp] theorem putRound_links (r : Option Round) (s : State) : (s.putRound r).links = s.links := rfl
@[simp] theorem putRound_pending (r : Option Round) (s : State) : (s.putRound r).pending = s.pending := rfl

/-! `reply` -/

@[simp] theorem reply_store (p : Port) (tag : Octet) (a : Answer) (s : State) : (reply p tag a s).store = s.store := rfl
@[simp] theorem reply_catalog (p : Port) (tag : Octet) (a : Answer) (s : State) : (reply p tag a s).catalog = s.catalog := rfl
@[simp] theorem reply_intake (p : Port) (tag : Octet) (a : Answer) (s : State) : (reply p tag a s).intake = s.intake := rfl
@[simp] theorem reply_streams (p : Port) (tag : Octet) (a : Answer) (s : State) : (reply p tag a s).streams = s.streams := rfl
@[simp] theorem reply_relocation (p : Port) (tag : Octet) (a : Answer) (s : State) : (reply p tag a s).relocation = s.relocation := rfl
@[simp] theorem reply_passes (p : Port) (tag : Octet) (a : Answer) (s : State) : (reply p tag a s).passes = s.passes := rfl
@[simp] theorem reply_ledger (p : Port) (tag : Octet) (a : Answer) (s : State) : (reply p tag a s).ledger = s.ledger := rfl
@[simp] theorem reply_billing (p : Port) (tag : Octet) (a : Answer) (s : State) : (reply p tag a s).billing = s.billing := rfl
@[simp] theorem reply_clock (p : Port) (tag : Octet) (a : Answer) (s : State) : (reply p tag a s).clock = s.clock := rfl
@[simp] theorem reply_notices (p : Port) (tag : Octet) (a : Answer) (s : State) : (reply p tag a s).notices = s.notices := rfl
@[simp] theorem reply_mailboxes (p : Port) (tag : Octet) (a : Answer) (s : State) : (reply p tag a s).mailboxes = s.mailboxes := rfl
@[simp] theorem reply_control (p : Port) (tag : Octet) (a : Answer) (s : State) : (reply p tag a s).control = s.control := rfl
@[simp] theorem reply_pending (p : Port) (tag : Octet) (a : Answer) (s : State) : (reply p tag a s).pending = s.pending := rfl

/-! `refuse` -/

@[simp] theorem refuse_store (p : Port) (tag : Octet) (st : Status) (s : State) : (refuse p tag st s).store = s.store := by
  unfold refuse; simp only; split <;> rfl
@[simp] theorem refuse_catalog (p : Port) (tag : Octet) (st : Status) (s : State) : (refuse p tag st s).catalog = s.catalog := by
  unfold refuse; simp only; split <;> rfl
@[simp] theorem refuse_intake (p : Port) (tag : Octet) (st : Status) (s : State) : (refuse p tag st s).intake = s.intake := by
  unfold refuse; simp only; split <;> rfl
@[simp] theorem refuse_streams (p : Port) (tag : Octet) (st : Status) (s : State) : (refuse p tag st s).streams = s.streams := by
  unfold refuse; simp only; split <;> rfl
@[simp] theorem refuse_relocation (p : Port) (tag : Octet) (st : Status) (s : State) : (refuse p tag st s).relocation = s.relocation := by
  unfold refuse; simp only; split <;> rfl
@[simp] theorem refuse_passes (p : Port) (tag : Octet) (st : Status) (s : State) : (refuse p tag st s).passes = s.passes := by
  unfold refuse; simp only; split <;> rfl
@[simp] theorem refuse_ledger (p : Port) (tag : Octet) (st : Status) (s : State) : (refuse p tag st s).ledger = s.ledger := by
  unfold refuse; simp only; split <;> rfl
@[simp] theorem refuse_billing (p : Port) (tag : Octet) (st : Status) (s : State) : (refuse p tag st s).billing = s.billing := by
  unfold refuse; simp only; split <;> rfl
@[simp] theorem refuse_clock (p : Port) (tag : Octet) (st : Status) (s : State) : (refuse p tag st s).clock = s.clock := by
  unfold refuse; simp only; split <;> rfl
@[simp] theorem refuse_notices (p : Port) (tag : Octet) (st : Status) (s : State) : (refuse p tag st s).notices = s.notices := by
  unfold refuse; simp only; split <;> rfl
@[simp] theorem refuse_mailboxes (p : Port) (tag : Octet) (st : Status) (s : State) : (refuse p tag st s).mailboxes = s.mailboxes := by
  unfold refuse; simp only; split <;> rfl
@[simp] theorem refuse_control (p : Port) (tag : Octet) (st : Status) (s : State) : (refuse p tag st s).control = s.control := by
  unfold refuse; simp only; split <;> rfl
@[simp] theorem refuse_pending (p : Port) (tag : Octet) (st : Status) (s : State) : (refuse p tag st s).pending = s.pending := by
  unfold refuse; simp only; split <;> rfl

/-! `Link.heard` -/

@[simp] theorem Link.heard_reception (l : Link) : l.heard.reception = .hunting := rfl
@[simp] theorem Link.heard_breakHeld (l : Link) : l.heard.breakHeld = l.breakHeld := rfl
@[simp] theorem Link.heard_request (l : Link) : l.heard.request = l.request := rfl
@[simp] theorem Link.heard_refusal (l : Link) : l.heard.refusal = l.refusal := rfl
@[simp] theorem Link.heard_waiting (l : Link) : l.heard.waiting = l.waiting := rfl
@[simp] theorem Link.heard_sending (l : Link) : l.heard.sending = l.sending := rfl

/-! What each update writes -/

theorem notify_pending_get (n : Notice) (p q : Port) (s : State) :
    ((notify n p s).notices.get q).pending
      = if q = p then (s.notices.get q).pending ||| noticeBit n else (s.notices.get q).pending := by
  unfold notify
  simp only [PerPort.get_set]
  split
  · rename_i h; subst h; rfl
  · rfl

@[simp] theorem notify_mask_get (n : Notice) (p q : Port) (s : State) :
    ((notify n p s).notices.get q).mask = (s.notices.get q).mask := by
  unfold notify
  simp only [PerPort.get_set]
  split
  · rename_i h; subst h; rfl
  · rfl

@[simp] theorem portStreams_putPortStreams_self (p : Port) (x : PortStreams) (s : State) :
    (s.putPortStreams p x).portStreams p = x := by simp [State.putPortStreams, State.portStreams]

theorem portStreams_putPortStreams_ne (p q : Port) (x : PortStreams) (s : State) (h : q ≠ p) :
    (s.putPortStreams p x).portStreams q = s.portStreams q := by
  simp [State.putPortStreams, State.portStreams, PerPort.get_set_ne _ _ _ _ h]

theorem account_putAccount_self (s : State) (id : Nat) (a : Account) (h : Table.Ordered s.ledger.accounts) :
    (s.putAccount id a).account id = a := tgetD_tset_self _ h id a

theorem account_putAccount_ne (s : State) (id j : Nat) (a : Account) (h : j ≠ id) :
    (s.putAccount id a).account j = s.account j := tgetD_tset_ne _ _ id j a h

theorem contributor_putContributor_self (s : State) (id : Nat) (c : Contributor) (h : Table.Ordered s.ledger.contributors) :
    (s.putContributor id c).contributor id = c := tgetD_tset_self _ h id c

theorem contributor_putContributor_ne (s : State) (id j : Nat) (c : Contributor) (h : j ≠ id) :
    (s.putContributor id c).contributor j = s.contributor j := tgetD_tset_ne _ _ id j c h

theorem stripe_putStripe_self (s : State) (n : Nat) (r : Stripe) (h : Table.Ordered s.store.stripes) :
    (s.putStripe n r).stripe n = r := tgetD_tset_self _ h n r

theorem stripe_putStripe_ne (s : State) (n j : Nat) (r : Stripe) (h : j ≠ n) :
    (s.putStripe n r).stripe j = s.stripe j := tgetD_tset_ne _ _ n j r h

theorem edition_putEdition_self (s : State) (h : Nat) (e : Edition) : (s.putEdition h e).edition h = some e :=
  tget_tput_self _ h e

theorem edition_putEdition_ne (s : State) (h j : Nat) (e : Edition) (hj : j ≠ h) :
    (s.putEdition h e).edition j = s.edition j := tget_tput_ne _ h j e hj

theorem descriptor_putDescriptor_self (s : State) (n : Nat) (d : Descriptor) : (s.putDescriptor n d).descriptor n = some d :=
  tget_tput_self _ n d

theorem descriptor_putDescriptor_ne (s : State) (n j : Nat) (d : Descriptor) (h : j ≠ n) :
    (s.putDescriptor n d).descriptor j = s.descriptor j := tget_tput_ne _ n j d h

end Sys2Proof.Machine
end

