-- ==== Sys2Proof/Laws/Quiet.lean ====
section
/-! SUPPORT. What the blocks' own work leaves alone. `State.quiet` is the part of the state that no engine, no arbiter decision and no
catalog event reaches; each operation's lemma says that it keeps that part. -/

namespace Sys2Proof.Machine

/-- The part of the state the blocks' own work never changes: the money, the clock, the mailboxes, the settings and the supply, the
links, what the flash holds, the waiting commands, the masks, and which streams stand in the ports' queues. -/
structure QuietView where
  ledger : Ledger
  billing : Billing
  clock : Clock
  mailboxes : PerPort (Option Message)
  links : PerPort Link
  pending : List Instr
  settings : Settings
  formatted : Bool
  powered : Bool
  resetLine : Bool
  startCause : StartCause
  guardAsserted : Bool
  flash : Table Cell
  lost : Nat
  deskMask : NoticeSet
  benchMask : NoticeSet
  counterMask : NoticeSet
  deskQueue : List (Nat × StreamKind)
  benchQueue : List (Nat × StreamKind)
  counterQueue : List (Nat × StreamKind)
  deskEnded : List Stream
  benchEnded : List Stream
  counterEnded : List Stream

/-- The names and kinds of a queue's streams. -/
def queueView (ps : PortStreams) : List (Nat × StreamKind) := ps.queue.map (fun st => (st.id, st.kind))

/-- The quiet part of a state. -/
def State.quiet (s : State) : QuietView :=
  { ledger := s.ledger, billing := s.billing, clock := s.clock, mailboxes := s.mailboxes, links := s.links, pending := s.pending,
    settings := s.control.settings, formatted := s.control.formatted, powered := s.control.powered,
    resetLine := s.control.resetLine, startCause := s.control.startCause, guardAsserted := s.store.guardAsserted,
    flash := s.store.flash, lost := s.store.lost,
    deskMask := s.notices.desk.mask, benchMask := s.notices.bench.mask, counterMask := s.notices.counter.mask,
    deskQueue := queueView s.streams.ports.desk, benchQueue := queueView s.streams.ports.bench,
    counterQueue := queueView s.streams.ports.counter, deskEnded := s.streams.ports.desk.ended,
    benchEnded := s.streams.ports.bench.ended, counterEnded := s.streams.ports.counter.ended }

theorem foldl_quiet {α : Type} (g : State → α → State) (h : ∀ s a, (g s a).quiet = s.quiet) (l : List α) (s : State) :
    (l.foldl g s).quiet = s.quiet := by
  induction l generalizing s with
  | nil => rfl
  | cons a l ih => simp [ih, h]

/-! ### Store and notices -/

@[simp] theorem notify_quiet (n : Notice) (p : Port) (s : State) : (notify n p s).quiet = s.quiet := by cases p <;> rfl

@[simp] theorem notifyAll_quiet (n : Notice) (ps : List Port) (s : State) : (notifyAll n ps s).quiet = s.quiet :=
  foldl_quiet _ (fun s p => notify_quiet n p s) ps s

@[simp] theorem putStripe_quiet (n : Nat) (r : Stripe) (s : State) : (s.putStripe n r).quiet = s.quiet := rfl
@[simp] theorem mapStripe_quiet (n : Nat) (g : Stripe → Stripe) (s : State) : (s.mapStripe n g).quiet = s.quiet := rfl
@[simp] theorem liveRises_quiet (n k : Nat) (s : State) : (liveRises n k s).quiet = s.quiet := rfl
@[simp] theorem liveFalls_quiet (n k : Nat) (s : State) : (liveFalls n k s).quiet = s.quiet := rfl
@[simp] theorem extentsDie_quiet (es : List Extent) (s : State) : (extentsDie es s).quiet = s.quiet :=
  foldl_quiet (fun s (e : Extent) => liveFalls e.stripe e.count s) (fun s e => liveFalls_quiet e.stripe e.count s) es s
@[simp] theorem readersRise_quiet (es : List Extent) (s : State) : (readersRise es s).quiet = s.quiet :=
  foldl_quiet (fun s n => s.mapStripe n _) (fun s n => mapStripe_quiet n _ s) _ s
@[simp] theorem readersFall_quiet (es : List Extent) (s : State) : (readersFall es s).quiet = s.quiet :=
  foldl_quiet (fun s n => s.mapStripe n _) (fun s n => mapStripe_quiet n _ s) _ s
@[simp] theorem stall_quiet (f : Front) (s : State) : (stall f s).quiet = s.quiet := rfl
@[simp] theorem unstall_quiet (f : Front) (s : State) : (unstall f s).quiet = s.quiet := rfl

@[simp] theorem openStripe_quiet (f : Front) (s : State) : (openStripe f s).quiet = s.quiet := by
  unfold openStripe; split <;> rfl

@[simp] theorem detachFetcher_quiet (w : Fetcher) (s : State) : (detachFetcher w s).quiet = s.quiet := by
  unfold detachFetcher; split <;> rfl

@[simp] theorem detachFeeder_quiet (f : Front) (s : State) : (detachFeeder f s).quiet = s.quiet := by
  unfold detachFeeder; split
  · split <;> rfl
  · rfl

@[simp] theorem holdFor_quiet (p : Port) (s : State) : (holdFor p s).quiet = s.quiet := by cases p <;> rfl
@[simp] theorem holdConditions_quiet (s : State) : (holdConditions s).quiet = s.quiet := by simp [holdConditions]

/-! ### Catalog -/

@[simp] theorem putEdition_quiet (h : Nat) (e : Edition) (s : State) : (s.putEdition h e).quiet = s.quiet := rfl
@[simp] theorem putObject_quiet (o : Object) (s : State) : (s.putObject o).quiet = s.quiet := rfl
@[simp] theorem takeSerial_quiet (s : State) : (takeSerial s).quiet = s.quiet := rfl

@[simp] theorem publish_quiet (h : Nat) (s : State) : (publish h s).quiet = s.quiet := by
  unfold publish; split <;> simp

@[simp] theorem returnToOpen_quiet (h : Nat) (s : State) : (returnToOpen h s).quiet = s.quiet := by
  unfold returnToOpen; split
  · rfl
  · split <;> rfl

theorem removeObject_quiet (o : Object) (s : State) : (removeObject o s).quiet = s.quiet := by
  have h : ∀ t : State, (o.versions.foldl (fun s v => extentsDie v.extents s) t).quiet = t.quiet :=
    fun t => foldl_quiet _ (fun s (v : Version) => extentsDie_quiet v.extents s) _ t
  unfold removeObject
  split
  · exact h s
  · exact h s

theorem removeObjects_quiet (h : Nat) (s : State) : (removeObjects h s).quiet = s.quiet :=
  foldl_quiet _ (fun s o => removeObject_quiet o s) _ s

theorem markDamaged_quiet {k : Key} {number serial : Nat} {s t : State} (h : markDamaged k number serial s = some t) :
    t.quiet = s.quiet := by
  unfold markDamaged at h
  split at h
  · split at h
    · cases h
    · cases h; simp
  · cases h

/-! ### Passes -/

@[simp] theorem endPassSource_quiet (s : State) : (endPassSource s).quiet = s.quiet := by
  unfold endPassSource
  split
  · rfl
  · rename_i st _
    by_cases hf : st.fetch = .inFlight
    · simp only [hf, if_true]; exact (readersFall_quiet _ _).trans (detachFetcher_quiet _ _)
    · simp only [hf, if_false]; exact readersFall_quiet _ _

@[simp] theorem stopActive_quiet (c : Bool) (s : State) : (stopActive c s).quiet = s.quiet := by
  have h : (unstall .restore (detachFeeder .restore (endPassSource s))).quiet = s.quiet := by simp
  unfold stopActive
  cases c
  · exact (extentsDie_quiet _ _).trans h
  · exact h

@[simp] theorem recordResult_quiet (p : Pass) (o : PassOutcome) (c : Option PassCause) (s : State) :
    (recordResult p o c s).quiet = s.quiet := by unfold recordResult; rw [notify_quiet]; rfl

@[simp] theorem endActive_quiet (p : Pass) (o : PassOutcome) (c : Option PassCause) (s : State) :
    (endActive p o c s).quiet = s.quiet := by simp [endActive]

@[simp] theorem abortQueued_quiet (pick : Pass → Bool) (c : PassCause) (s : State) : (abortQueued pick c s).quiet = s.quiet := by
  unfold abortQueued
  exact foldl_quiet _ (fun s p => recordResult_quiet p .aborted (some c) s) _ _

@[simp] theorem abortPasses_quiet (pick : Pass → Bool) (c : PassCause) (s : State) : (abortPasses pick c s).quiet = s.quiet := by
  unfold abortPasses
  rw [abortQueued_quiet]
  split
  · split <;> simp
  · rfl

@[simp] theorem acceptPassSource_quiet (st : Stream) (s : State) : (acceptPassSource st s).quiet = s.quiet :=
  readersRise_quiet st.snapshot s

@[simp] theorem startPass_quiet (p : Pass) (s : State) : (startPass p s).quiet = s.quiet := by
  unfold startPass
  split
  · simp
  · cases p.mode <;> exact acceptPassSource_quiet _ s

@[simp] theorem startPasses_quiet (n : Nat) (s : State) : (startPasses n s).quiet = s.quiet := by
  induction n generalizing s with
  | zero => rfl
  | succ n ih =>
    unfold startPasses
    split
    · rw [ih, startPass_quiet]; rfl
    · rfl

@[simp] theorem surveyEnds_quiet (p : Pass) (st : Stream) (s : State) : (surveyEnds p st s).quiet = s.quiet := by
  unfold surveyEnds
  simp only
  split
  · rw [endActive_quiet]; rfl
  · exact (readersFall_quiet _ _).trans (readersRise_quiet _ _)

@[simp] theorem passTake_quiet (s : State) : (passTake s).quiet = s.quiet := by
  unfold passTake
  split
  · split
    · rfl
    · simp only
      split
      · rfl
      · split
        · rfl
        · rw [surveyEnds_quiet]; rfl
      · split
        · rfl
        · split
          · rfl
          · rw [endPassSource_quiet]; rfl
  · rfl

@[simp] theorem createVersion_quiet (p : Pass) (s : State) : (createVersion p s).quiet = s.quiet := by
  unfold createVersion
  split
  · split <;> simp
  · simp

@[simp] theorem presentOutput_quiet (s : State) : (presentOutput s).quiet = s.quiet := by
  unfold presentOutput
  split
  · rfl
  · rename_i p _
    split <;>
    · simp only
      split
      · rfl
      · split
        · simp
        · split
          · rfl
          · split
            · exact openStripe_quiet _ s
            · rfl

@[simp] theorem passWritten_quiet (op : ProgramOp) (s : State) : (passWritten op s).quiet = s.quiet := by
  unfold passWritten
  split
  · rfl
  · simp only
    split
    · rw [createVersion_quiet]; rfl
    · rfl

@[simp] theorem passFailed_quiet (s : State) : (passFailed s).quiet = s.quiet := by
  unfold passFailed; split <;> rfl

/-! ### Modes -/

@[simp] theorem abandonRound_quiet (s : State) : (abandonRound s).quiet = s.quiet := by
  have h : (unstall .relocate (detachFeeder .relocate (detachFetcher .relocation s))).quiet = s.quiet := by simp
  exact h

@[simp] theorem enterPreserve_quiet (c : PreserveCause) (s : State) : (enterPreserve c s).quiet = s.quiet := by
  unfold enterPreserve
  rw [notifyAll_quiet]
  exact (abandonRound_quiet _).trans (abortPasses_quiet _ _ _)

@[simp] theorem retireAction_quiet (s : State) : (retireAction s).quiet = s.quiet := by
  unfold retireAction; split
  · simp
  · rfl
  · rfl

@[simp] theorem judgeRetire_quiet (s : State) : (judgeRetire s).quiet = s.quiet := by unfold judgeRetire; split <;> simp

@[simp] theorem damageAction_quiet (s : State) : (damageAction s).quiet = s.quiet := by unfold damageAction; split <;> simp

@[simp] theorem retireStripe_quiet (n : Nat) (s : State) : (retireStripe n s).quiet = s.quiet := by simp [retireStripe]

@[simp] theorem leaveFullOne_quiet (kept n : Nat) (s : State) : (leaveFullOne kept n s).quiet = s.quiet := by
  unfold leaveFullOne; split
  · simp
  · rfl

theorem leaveFullLoop_quiet (kept n : Nat) (s : State) : (leaveFullLoop kept n s).quiet = s.quiet := by
  induction n generalizing s with
  | zero => rfl
  | succ n ih =>
    unfold leaveFullLoop; split
    · rfl
    · simp [ih]

@[simp] theorem leaveFull_quiet (kept : Nat) (s : State) : (leaveFull kept s).quiet = s.quiet := leaveFullLoop_quiet _ _ s

theorem takeHeads_quiet (n : Nat) (s : State) : (takeHeads n s).quiet = s.quiet := by
  induction n generalizing s with
  | zero => rfl
  | succ n ih =>
    unfold takeHeads; split
    · rfl
    · split
      · rfl
      · split
        · rfl
        · split
          · rw [ih, retireStripe_quiet]; rfl
          · rfl

@[simp] theorem eraseEngine_quiet (s : State) : (eraseEngine s).quiet = s.quiet := takeHeads_quiet _ s

/-! ### Intake -/

@[simp] theorem putDescriptor_quiet (n : Nat) (d : Descriptor) (s : State) : (s.putDescriptor n d).quiet = s.quiet := rfl
@[simp] theorem freeDescriptor_quiet (n : Nat) (s : State) : (freeDescriptor n s).quiet = s.quiet := rfl

@[simp] theorem spaceCheck_quiet (s : State) : (spaceCheck s).quiet = s.quiet := by
  unfold spaceCheck
  simp only
  split
  · rfl
  · rw [notifyAll_quiet]; rfl

@[simp] theorem enterObject_quiet (n : Nat) (d : Descriptor) (s : State) : (enterObject n d s).quiet = s.quiet := by
  unfold enterObject
  simp only
  split
  · rfl
  · split
    · rw [publish_quiet]; rfl
    · rfl

@[simp] theorem enterReady_quiet (n : Nat) (s : State) : (enterReady n s).quiet = s.quiet := by
  induction n generalizing s with
  | zero => rfl
  | succ n ih =>
    unfold enterReady; split
    · rfl
    · simp [ih]

@[simp] theorem cutRun_quiet (n : Nat) (s : State) : (cutRun n s).quiet = s.quiet := by
  unfold cutRun; split
  · split
    · rw [unstall_quiet, detachFeeder_quiet]; rfl
    · rfl
  · rfl

@[simp] theorem dropCore_quiet (k : Bool) (n : Nat) (d : Descriptor) (s : State) : (dropCore k n d s).quiet = s.quiet := by
  have h : ∀ t : State, t.quiet = s.quiet →
      ({ t with intake.descriptors := t.intake.descriptors.map (fun e => (e.1, unawait d.key e.2)) } : State).quiet = s.quiet :=
    fun t ht => ht
  have h1 : (cutRun n { extentsDie (s.provisional n) s with
      intake.provisional := tdel (extentsDie (s.provisional n) s).intake.provisional n }).quiet = s.quiet :=
    (cutRun_quiet _ _).trans (extentsDie_quiet _ s)
  unfold dropCore
  apply h
  cases k <;> by_cases hd : d.state = .ended <;> simp only [hd, if_true, if_false, Bool.false_eq_true] <;>
    first | exact h1 | exact (returnToOpen_quiet _ _).trans h1

@[simp] theorem dropDeposit_quiet (k : Bool) (n : Nat) (d : Descriptor) (s : State) : (dropDeposit k n d s).quiet = s.quiet := by
  simp [dropDeposit]

@[simp] theorem dropDeposits_quiet (ds : List (Nat × Descriptor)) (s : State) : (dropDeposits ds s).quiet = s.quiet := by
  unfold dropDeposits
  simp only [spaceCheck_quiet, enterReady_quiet]
  refine foldl_quiet _ (fun s e => ?_) ds s
  split <;> simp

@[simp] theorem resetDeposits_quiet (p : Port) (s : State) : (resetDeposits p s).quiet = s.quiet :=
  dropDeposits_quiet _ s

theorem programmer_quiet (n : Nat) (s : State) : (programmer n s).quiet = s.quiet := by
  induction n generalizing s with
  | zero => rfl
  | succ n ih =>
    unfold programmer
    split
    · rfl
    · have hr : ∀ t : State, t.quiet = s.quiet →
          (match t.intake.run with
          | none => t
          | some r => match t.descriptor r.descriptor with
            | none => t
            | some d =>
              let extents := t.provisional r.descriptor
              if Config.extentsPerVersion ≤ extents.length && !wouldExtend (t.frontStripe .intake) extents then
                programmer n (dropDeposit true r.descriptor d t)
              else match t.frontStripe .intake with
                | some _ => { t with intake.request := .pending }
                | none =>
                  if t.mayOpen .intake then { openStripe .intake t with intake.request := .pending }
                  else stall .intake t).quiet = s.quiet := by
        intro t ht
        split
        · exact ht
        · split
          · exact ht
          · simp only
            split
            · rw [ih, dropDeposit_quiet, ht]
            · split
              · exact ht
              · split
                · exact (openStripe_quiet .intake t).trans ht
                · exact ht
      refine hr _ ?_
      split <;> rfl

@[simp] theorem intakeWritten_quiet (op : ProgramOp) (s : State) : (intakeWritten op s).quiet = s.quiet := by
  unfold intakeWritten
  split
  · rfl
  · split
    · rfl
    · simp only [enterReady_quiet, spaceCheck_quiet]; rfl

@[simp] theorem intakeFailed_quiet (s : State) : (intakeFailed s).quiet = s.quiet := rfl

/-! ### Relocation -/

@[simp] theorem putRound_quiet (r : Option Round) (s : State) : (s.putRound r).quiet = s.quiet := rfl

@[simp] theorem lookNext_quiet (r : Round) (s : State) : (lookNext r s).quiet = s.quiet := by
  unfold lookNext; split
  · rfl
  · split
    · rfl
    · split <;> rfl

@[simp] theorem clearBlocked_quiet (s : State) : (clearBlocked s).quiet = s.quiet := by unfold clearBlocked; split <;> rfl

@[simp] theorem makeChoice_quiet (s : State) : (makeChoice s).quiet = s.quiet := by
  unfold makeChoice; split
  · rfl
  · split
    · rfl
    · rfl
    · rw [lookNext_quiet]; rfl

@[simp] theorem presentCopy_quiet (r : Round) (c : Copy) (s : State) : (presentCopy r c s).quiet = s.quiet := by
  have go : ∀ t : State, t.quiet = s.quiet →
      (match t.frontStripe .relocate with
      | some (n, q) => t.putRound (some { r with copy := some { c with
          dest := (match c.dest with | some d => some d | none => some (n, q.written)), request := .pending } })
      | none =>
        if t.mayOpen .relocate then
          match (openStripe .relocate t).frontStripe .relocate with
          | some (n, q) => (openStripe .relocate t).putRound (some { r with copy := some { c with
              dest := (match c.dest with | some d => some d | none => some (n, q.written)), request := .pending } })
          | none => openStripe .relocate t
        else stall .relocate t).quiet = s.quiet := by
    intro t ht
    split
    · exact ht
    · split
      · split
        · exact (openStripe_quiet .relocate t).trans ht
        · exact (openStripe_quiet .relocate t).trans ht
      · exact ht
  unfold presentCopy
  split
  · rfl
  · refine go _ ?_
    split
    · split <;> rfl
    · rfl

@[simp] theorem engineOnce_quiet (s : State) : (engineOnce s).quiet = s.quiet := by
  unfold engineOnce; split
  · simp
  · split <;> split <;> simp

@[simp] theorem engine_quiet (s : State) : (engine s).quiet = s.quiet := by simp [engine]

@[simp] theorem mapCopy_quiet (g : Copy → Copy) (s : State) : (mapCopy g s).quiet = s.quiet := by
  unfold mapCopy; split <;> rfl

@[simp] theorem copyFetched_quiet (w : Wing) (b : List Octet) (s : State) : (copyFetched w b s).quiet = s.quiet := by
  simp [copyFetched]

@[simp] theorem commit_quiet (c : Copy) (d : Nat × Nat) (s : State) : (commit c d s).quiet = s.quiet := by
  unfold commit; split <;> rfl

@[simp] theorem commitCopy_quiet (c : Copy) (s : State) : (commitCopy c s).quiet = s.quiet := by
  unfold commitCopy; split
  · split <;> simp
  · rfl

@[simp] theorem endCopy_quiet (r : Round) (s : State) : (endCopy r s).quiet = s.quiet := lookNext_quiet _ s

@[simp] theorem copyNext_quiet (r : Round) (c : Copy) (s : State) : (copyNext r c s).quiet = s.quiet := by
  unfold copyNext; split <;> simp

@[simp] theorem withdrawCopy_quiet (before s : State) : (withdrawCopy before s).quiet = s.quiet := by
  unfold withdrawCopy; split
  · rfl
  · split
    · rfl
    · split <;> simp

@[simp] theorem copyWritten_quiet (s : State) : (copyWritten s).quiet = s.quiet := by
  unfold copyWritten
  split
  · rfl
  · split
    · rfl
    · simp only; split <;> simp

@[simp] theorem copyFailed_quiet (s : State) : (copyFailed s).quiet = s.quiet := by
  unfold copyFailed; split
  · rfl
  · split <;> simp

/-! ### Streams and the arbiter -/

/-- A change of the ACTIVE stream that keeps its id and kind. -/
theorem mapActive_quiet (p : Port) (g : Stream → Stream) (h : ∀ st, (g st).id = st.id ∧ (g st).kind = st.kind) (s : State) :
    (mapActive p g s).quiet = s.quiet := by
  unfold mapActive
  simp only
  split
  · rfl
  · rename_i st rest hq
    cases p <;> simp only [State.portStreams, PerPort.get] at hq <;>
      simp [State.quiet, State.putPortStreams, State.portStreams, PerPort.set, PerPort.get, queueView, hq, h st]

@[simp] theorem presentStream_quiet (p : Port) (s : State) : (presentStream p s).quiet = s.quiet := by
  refine mapActive_quiet p _ (fun st => ?_) s
  split <;> simp

@[simp] theorem presentSource_quiet (s : State) : (presentSource s).quiet = s.quiet := by
  unfold presentSource; split
  · split <;> rfl
  · rfl

@[simp] theorem putFetch_quiet (w : Wing) (op : FetchOp) (s : State) : (putFetch w op s).quiet = s.quiet := by
  unfold putFetch; split <;> rfl

@[simp] theorem startStreamFetch_quiet (o : Fetcher) (st : Stream) (s : State) : (startStreamFetch o st s).quiet = s.quiet := by
  unfold startStreamFetch; split
  · rfl
  · split <;> simp

@[simp] theorem startFetch_quiet (c : Claim) (s : State) : (startFetch c s).quiet = s.quiet := by
  unfold startFetch
  split
  · split
    · rfl
    · simp only
      rw [mapActive_quiet]
      · exact startStreamFetch_quiet _ _ s
      · exact fun st => ⟨rfl, rfl⟩
  · split
    · rfl
    · exact startStreamFetch_quiet _ _ s
  · split
    · rfl
    · simp
  · rfl

@[simp] theorem startProgram_quiet (f : Front) (k : Key) (v l : Nat) (d : List Octet) (s : State) :
    (startProgram f k v l d s).quiet = s.quiet := by
  unfold startProgram; split <;> rfl

@[simp] theorem startWide_quiet (c : Claim) (s : State) : (startWide c s).quiet = s.quiet := by
  unfold startWide
  split
  · split
    · rfl
    · split
      · simp only; rw [startProgram_quiet]; rfl
      · rfl
  · split <;> rfl
  · split
    · rfl
    · simp
  · split
    · rfl
    · rw [startProgram_quiet]; rfl
  · rfl

theorem decideLoop_quiet (n : Nat) (s : State) : (decideLoop n s).quiet = s.quiet := by
  induction n generalizing s with
  | zero => rfl
  | succ n ih =>
    unfold decideLoop; split
    · rfl
    · split
      · split
        · simp
        · rfl
      · simp [ih]

@[simp] theorem arbitrate_quiet (s : State) : (arbitrate s).quiet = s.quiet := by
  unfold arbitrate; split
  · split
    · rw [startWide_quiet]; rfl
    · exact decideLoop_quiet _ _
  · rw [decideLoop_quiet]; rfl

/-! ### The blocks' work of an event -/

@[simp] theorem settleRound_quiet (kept : Nat) (s : State) : (settleRound kept s).quiet = s.quiet := by
  simp [settleRound, programmer_quiet]

@[simp] theorem settleBlocks_quiet (s : State) : (settleBlocks s).quiet = s.quiet := by simp [settleBlocks]

/-- The blocks' work of an event keeps the quiet part of the state. -/
@[simp] theorem settle_quiet (s : State) : (settle s).quiet = s.quiet := by
  unfold settle; split
  · rfl
  · simp

@[simp] theorem judgeConditions_quiet (s : State) : (judgeConditions s).quiet = s.quiet := by
  unfold judgeConditions; split <;> simp

/-- A transmitter writes its link alone. -/
theorem transmit_links (p : Port) (s : State) : ∃ l, transmit p s = { s with links := s.links.set p l } := by
  unfold transmit
  simp only
  split
  · exact ⟨s.links.get p, by simp⟩
  · split
    · exact ⟨_, rfl⟩
    · split
      · exact ⟨_, rfl⟩
      · exact ⟨s.links.get p, by simp⟩

/-- The transmitters write the links alone. -/
theorem transmitAll_links (s : State) : ∃ l, transmitAll s = { s with links := l } := by
  obtain ⟨a, ha⟩ := transmit_links .desk s
  obtain ⟨b, hb⟩ := transmit_links .bench (transmit .desk s)
  obtain ⟨c, hc⟩ := transmit_links .counter (transmit .bench (transmit .desk s))
  exact ⟨_, by unfold transmitAll; rw [hc, hb, ha]⟩

/-- The end of an event keeps the quiet part of the state but the links. -/
theorem conclude_quiet (s : State) : ∃ l, (conclude s).quiet = { s.quiet with links := l } := by
  obtain ⟨l, h⟩ := transmitAll_links (judgeConditions (settle s))
  refine ⟨l, ?_⟩
  have hq : (judgeConditions (settle s)).quiet = s.quiet := by simp
  unfold conclude
  rw [h, ← hq]
  rfl

end Sys2Proof.Machine
end

