-- ==== Sys2Proof/Laws/Relocation.lean ====
section
/-! SUPPORT. What the relocation engine's operations and the dirty queue's entry can do, one lemma per operation. -/

namespace Sys2Proof.Machine

/-! ### The dirty queue (R8) -/

/-- The entries below a bound at the front of a list, and the others after a new entry, are the list's entries and the new one. -/
theorem takeWhile_insert_perm (p : Nat → Bool) (n : Nat) (l : List Nat) :
    (l.takeWhile p ++ n :: l.dropWhile p).Perm (n :: l) := by
  have h := List.perm_middle (a := n) (l₁ := l.takeWhile p) (l₂ := l.dropWhile p)
  rwa [List.takeWhile_append_dropWhile] at h

/-- The queue gains the stripe and no other. -/
theorem joinDirty_perm (kept n : Nat) (queue : List Nat) : (joinDirty kept n queue).Perm (n :: queue) := by
  have h := (takeWhile_insert_perm (fun k => decide (k < n)) n (queue.drop kept)).append_left (queue.take kept)
  have m := List.perm_middle (a := n) (l₁ := queue.take kept) (l₂ := queue.drop kept)
  rw [List.take_append_drop] at m
  simpa [joinDirty] using h.trans m

@[simp] theorem mem_joinDirty (kept n k : Nat) (queue : List Nat) : k ∈ joinDirty kept n queue ↔ k = n ∨ k ∈ queue := by
  rw [(joinDirty_perm kept n queue).mem_iff, List.mem_cons]

/-- A stripe that was not in the queue leaves it without repeats. -/
theorem joinDirty_nodup {kept n : Nat} {queue : List Nat} (h : queue.Nodup) (hn : n ∉ queue) : (joinDirty kept n queue).Nodup :=
  (joinDirty_perm kept n queue).nodup_iff.2 (List.nodup_cons.2 ⟨hn, h⟩)

/-! ### The engine (R85 to R94) -/

/-- A look changes the round alone: it ends it, or leaves its victim and cause with no copy or with one that has copied nothing. -/
theorem lookNext_cases (r : Round) (s : State) :
    ∃ x, lookNext r s = s.putRound x ∧ ∀ y ∈ x, y.victim = r.victim ∧ y.cause = r.cause ∧
      ∀ c ∈ y.copy, c.copied = 0 ∧ c.dest = none ∧ c.step = .fetchLow ∧ c.request = .pending := by
  unfold lookNext
  split
  · exact ⟨none, rfl, by simp⟩
  · split
    · exact ⟨_, rfl, by simp⟩
    · split
      · exact ⟨none, rfl, by simp⟩
      · exact ⟨_, rfl, by simp [copyOf]⟩

/-- A choice changes the engine's own state alone. -/
theorem makeChoice_cases (s : State) : ∃ x, makeChoice s = { s with relocation := x } := by
  unfold makeChoice
  split
  · exact ⟨s.relocation, rfl⟩
  · split
    · exact ⟨s.relocation, rfl⟩
    · exact ⟨_, rfl⟩
    · rename_i n cause _
      obtain ⟨x, hx, -⟩ := lookNext_cases ⟨n, cause, none⟩ { s with relocation := ⟨some ⟨n, cause, none⟩, false⟩ }
      exact ⟨_, hx⟩

/-- A copy ends, or presents the fetch of its next leaf; either changes the round alone. -/
theorem copyNext_cases (r : Round) (c : Copy) (s : State) : ∃ x, copyNext r c s = s.putRound x := by
  unfold copyNext
  split
  · exact ⟨_, rfl⟩
  · obtain ⟨x, hx, -⟩ := lookNext_cases { r with copy := none } s
    exact ⟨x, hx⟩

/-- A removal of versions changes the round alone, and only where a request of its copy was pending. -/
theorem withdrawCopy_cases (before s : State) :
    withdrawCopy before s = s ∨ ∃ r c x, s.relocation.round = some r ∧ r.copy = some c ∧ c.request = .pending ∧
      withdrawCopy before s = s.putRound x := by
  unfold withdrawCopy
  split
  · exact .inl rfl
  · rename_i r hr
    split
    · exact .inl rfl
    · rename_i c hc
      split
      · rename_i h
        obtain ⟨x, hx, -⟩ := lookNext_cases { r with copy := none } s
        exact .inr ⟨r, c, x, hr, hc, h.1, hx⟩
      · exact .inl rfl

/-- A commit does nothing, or replaces one extent of one version and moves live between two stripes. -/
theorem commitCopy_cases (c : Copy) (s : State) :
    commitCopy c s = s ∨ ∃ d o, c.dest = some d ∧ s.copyValid c = true ∧ s.object c.key = some o ∧
      commitCopy c s = liveFalls c.source.stripe c.source.count (liveRises d.1 c.source.count
        (s.putObject (mapVersion c.version c.serial (replaceExtent c.index ⟨d.1, d.2, c.source.count⟩) o))) := by
  unfold commitCopy
  split
  · rename_i d hd
    split
    · rename_i hv
      unfold commit
      split
      · exact .inl rfl
      · rename_i o ho
        exact .inr ⟨d, o, hd, hv, ho, rfl⟩
    · exact .inl rfl
  · exact .inl rfl

end Sys2Proof.Machine
end

