-- ==== Sys2Proof/Laws/Requests.lean ====
section
/-! SUPPORT. What serving a request comes to, one lemma per outcome: it is not received, it is refused BUSY, the screening answers it, or
its rule acts. -/

namespace Sys2Proof.Machine

variable {after : State → State} {ports : List Port} {inStart : Bool} {f : Frame} {rule : State → State × Answer} {s : State}

theorem serveWith_of_not_received (h : s.receives f.port = false) : serveWith after ports inStart f rule s = s := by
  simp [serveWith, h]

theorem serveWith_of_busy (h : s.receives f.port = true) (b : s.inProgress f.port = true) :
    serveWith after ports inStart f rule s = transmit f.port (refuse f.port f.tag .busy s) := by
  simp [serveWith, h, b]

theorem serveWith_of_screened (h : Listening f.port s) {st : Status} (b : screen ports inStart f s = some st) :
    serveWith after ports inStart f rule s = answered f (plain st) s := by
  simp [serveWith, h.1, h.2, b, answered]

theorem serveWith_of_passed (h : Listening f.port s) (b : screen ports inStart f s = none) :
    serveWith after ports inStart f rule s = after (reply f.port f.tag (rule s).2 (rule s).1) := by
  simp [serveWith, h.1, h.2, b]

theorem screen_of_not_permitted (h : f.port ∉ ports) : screen ports inStart f s = some .notPermitted := by
  simp [screen, h]

theorem screen_of_start (h : f.port ∈ ports) (m : s.control.mode = .start) : screen ports false f s = some .starting := by
  simp [screen, h, m]

theorem screen_of_misfit (h : f.port ∈ ports) (m : s.control.mode = .start → inStart = true) (n : f.fits = false) :
    screen ports inStart f s = some .badArgument := by
  by_cases k : s.control.mode = .start
  · simp [screen, h, k, m k, n]
  · simp [screen, h, k, n]

theorem screen_of_passed (h : f.port ∈ ports) (m : s.control.mode = .start → inStart = true) (n : f.fits = true) :
    screen ports inStart f s = none := by
  by_cases k : s.control.mode = .start
  · simp [screen, h, k, m k, n]
  · simp [screen, h, k, n]

theorem serve_of_admitted (h : Admitted ports f s) : serve ports f rule s = answered f (rule s).2 (rule s).1 :=
  serveWith_of_passed h.1 (screen_of_passed h.2.1 (fun m => absurd m h.2.2.1) h.2.2.2)

theorem serveSettling_of_admitted (h : Admitted ports f s) :
    serveSettling ports f rule s = concluded f (rule s).2 (rule s).1 :=
  serveWith_of_passed h.1 (screen_of_passed h.2.1 (fun m => absurd m h.2.2.1) h.2.2.2)

theorem serveAlways_of_listening (h : Listening f.port s) (n : f.fits = true) :
    serveAlways f rule s = answered f (rule s).2 (rule s).1 :=
  serveWith_of_passed h (screen_of_passed (by cases f.port <;> decide) (fun _ => rfl) n)

end Sys2Proof.Machine
end

