-- ==== Sys2Proof/Tests/Slice0.lean ====
section
/-! SUPPORT. Tests: the checks of WellFormed, values the manual works out, and for each statement with hypotheses a state that meets
them. -/

namespace Sys2Proof.Tests

open Sys2Proof Sys2Proof.Machine

/-! ### WellFormed: a term that each check refuses -/

def desk : Frame := ⟨.desk, 7#8, true⟩
def bench : Frame := ⟨.bench, 7#8, true⟩
def counter : Frame := ⟨.counter, 7#8, true⟩
def wire : WireKey := ⟨0, 1, 1⟩
/-- A key whose handle needs three octets. -/
def wide : WireKey := ⟨65536, 1, 1⟩

theorem test_wf_accepts :
    ([.openEdition desk 65535 255, .beginObject desk 65535 255 65535 4294967295 255 65535 255 [wire], .putChunk desk 255 0 [1#8],
      .read desk wire (.number 255) 0 4294967295, .findEdition desk (.key 65535 255), .unknownRequest .desk 0#8 0x2F#8,
      .setClock desk 65535 16777215, .creditAccount counter 255 1099511627775] : List Instr).all Instr.wf = true := by decide

theorem test_wf_refuses_wide_editions :
    ([.openEdition desk 65536 0, .openEdition desk 0 256, .closeEdition desk 65536 ⟨0, 0⟩, .closeEdition desk 0 ⟨65536, 0⟩,
      .closeEdition desk 0 ⟨0, 16777216⟩, .abandonEdition desk 65536, .withdrawEdition desk 65536, .reinstateEdition desk 65536,
      .purgeEdition desk 65536, .findEdition desk (.handle 65536), .findEdition desk (.key 65536 0), .findEdition desk (.key 0 256),
      .findObject desk wide, .findObject desk ⟨0, 256, 1⟩, .findObject desk ⟨0, 1, 65536⟩, .discardVersion bench wide 0,
      .discardVersion bench wire 256] : List Instr).any Instr.wf = false := by decide

theorem test_wf_refuses_wide_deposits :
    ([.beginObject desk 65536 1 1 1 1 0 1 [], .beginObject desk 0 256 1 1 1 0 1 [], .beginObject desk 0 1 65536 1 1 0 1 [],
      .beginObject desk 0 1 1 4294967296 1 0 1 [], .beginObject desk 0 1 1 1 256 0 1 [], .beginObject desk 0 1 1 1 1 65536 1 [],
      .beginObject desk 0 1 1 1 1 0 256 [], .beginObject desk 0 1 1 1 1 0 1 (List.replicate 256 wire),
      .beginObject desk 0 1 1 1 1 0 1 [wide], .putChunk desk 256 0 [], .putChunk desk 0 4294967296 [],
      .putChunk desk 0 0 (List.replicate 4194 0#8), .endObject desk 256 0#32, .dropObject desk 256] : List Instr).any Instr.wf
      = false := by decide +kernel

theorem test_wf_refuses_wide_streams_and_passes :
    ([.read desk wide .best 0 0, .read desk wire (.number 256) 0 0, .read desk wire .best 4294967296 0,
      .read desk wire .best 0 4294967296, .cancelStream desk 256, .submitPass bench wide .best 1 1 0 0 0 0,
      .submitPass bench wire (.number 256) 1 1 0 0 0 0, .submitPass bench wire .best 256 1 0 0 0 0,
      .submitPass bench wire .best 1 256 0 0 0 0, .submitPass bench wire .best 1 1 256 0 0 0,
      .submitPass bench wire .best 1 1 0 256 0 0, .submitPass bench wire .best 1 1 0 0 256 0,
      .submitPass bench wire .best 1 1 0 0 0 256, .cancelPass bench 256] : List Instr).any Instr.wf = false := by decide

theorem test_wf_refuses_wide_sales :
    ([.registerContributor desk 65536, .setContributorState desk 65536 1, .setContributorState desk 1 256, .setShare counter 65536 0,
      .setShare counter 1 65536, .openAccount counter 256 0 0, .openAccount counter 1 256 0, .openAccount counter 1 0 1099511627776,
      .setAccount counter 256 0 0, .setAccount counter 1 256 0, .setAccount counter 1 0 1099511627776, .creditAccount counter 256 1,
      .creditAccount counter 1 1099511627776, .suspendAccount counter 256, .reinstateAccount counter 256, .closeAccount counter 256,
      .findAccount counter 256, .quote counter 256 wire 1 1, .quote counter 1 wide 1 1, .quote counter 1 wire 256 1,
      .quote counter 1 wire 1 65536, .order counter 256 wire 1 1, .order counter 1 wide 1 1, .order counter 1 wire 256 1,
      .order counter 1 wire 1 65536] : List Instr).any Instr.wf = false := by decide

theorem test_wf_refuses_wide_settings :
    ([.setTariff counter 256 1 0 1 0 1 0, .setTariff counter 1 256 0 1 0 1 0, .setTariff counter 1 1 256 1 0 1 0,
      .setTariff counter 1 1 0 256 0 1 0, .setTariff counter 1 1 0 1 16777216 1 0, .setTariff counter 1 1 0 1 0 65536 0,
      .setTariff counter 1 1 0 1 0 1 16777216, .setTariffGlobals counter 65536 0 0 0 0 0, .setTariffGlobals counter 0 65536 0 0 0 0,
      .setTariffGlobals counter 0 0 65536 0 0 0, .setTariffGlobals counter 0 0 0 65536 0 0,
      .setTariffGlobals counter 0 0 0 0 16777216 0, .setTariffGlobals counter 0 0 0 0 0 65536, .setPeriodLength counter 65536,
      .releaseStatements counter 4294967296, .setClock desk 65536 0, .setClock desk 0 16777216, .setOperating desk 65536 0 0 0 0,
      .setOperating desk 0 65536 0 0 0, .setOperating desk 0 0 65536 0 0, .setOperating desk 0 0 0 256 0,
      .setOperating desk 0 0 0 0 256, .postMessage desk 0#8 (List.replicate 256 0#8), .unknownRequest .desk 0#8 0x01#8,
      .unknownRequest .desk 0#8 0x2E#8, .sheetFetchComplete .low (some ⟨[0#8], none, []⟩)] : List Instr).any Instr.wf = false := by
  decide +kernel

/-- A delivered sheet carries all 1,024 tag octets, the record's and the others (R1, R2). -/
theorem test_wf_sheet :
    (Instr.sheetFetchComplete .low (some ⟨List.replicate 16384 0#8, none, List.replicate 1011 0#8⟩)).wf = true ∧
    (Instr.sheetFetchComplete .low (some ⟨List.replicate 16384 0#8, none, [0#8]⟩)).wf = false := by
  simp only [Instr.wf, Option.map, Option.getD, Sheet.wf, List.length_replicate]
  decide

/-! ### Values the manual works out -/

/-- The check value of the CRC-32 that R55 describes, over the digits 1 to 9 in ASCII. -/
theorem test_crc32_of_the_digits :
    crc32 [0x31#8, 0x32#8, 0x33#8, 0x34#8, 0x35#8, 0x36#8, 0x37#8, 0x38#8, 0x39#8] = 0xCBF43926#32 := by decide +kernel

/-- The check value of the CRC-16 that R176 describes, over the digits 1 to 9 in ASCII. -/
theorem test_crc16_of_the_digits :
    crc16 [0x31#8, 0x32#8, 0x33#8, 0x34#8, 0x35#8, 0x36#8, 0x37#8, 0x38#8, 0x39#8] = 0x29B1#16 := by decide +kernel

def oldPage : Breakdown := feeBreakdown
  { kind := .page, usage := .print, tariffClass := 1, copies := 2350, cell := ⟨true, 1237, 100, 5000⟩,
    today := 31002, date := 20002, version := 5, origin := .pass, globals := ⟨1000, 850, 1100, 1215, 4500, 250⟩,
    sharers := .page [17, 17, 42] }

/-- Chapter 8, "An old page served restored". -/
theorem test_fee_of_an_old_page :
    oldPage = ⟨.page, .print, 1, 2350, 5, .pass, 24, 29688, 11000, 3, 36071, 4500, 40571, false, 36071, some 9017, some 3,
      [(17, 6010), (42, 3005)], 31556⟩ := by decide

def smallPhoto : Breakdown := feeBreakdown
  { kind := .photo, usage := .digital, tariffClass := 1, copies := 3, cell := ⟨true, 800, 10, 2000⟩,
    today := 31002, date := 30990, version := 0, origin := .deposit, globals := ⟨1000, 850, 1100, 1215, 4500, 250⟩,
    sharers := .photo 17 400 }

/-- Chapter 8, "A small photo sale lifted to the minimum". -/
theorem test_fee_of_a_small_photo :
    smallPhoto = ⟨.photo, .digital, 1, 3, 0, .deposit, 1, 800, 12, 0, 800, 0, 2000, false, 800, none, none, [(17, 320)], 1680⟩ := by
  decide

def capped : Breakdown := feeBreakdown
  { kind := .photo, usage := .broadcast, tariffClass := 3, copies := 65535, cell := ⟨true, 1000000, 1, 0⟩,
    today := 9200, date := 0, version := 1, origin := .pass, globals := ⟨1000, 850, 1100, 5000, 1000000, 200⟩,
    sharers := .photo 9 1000 }

def smallPool : Breakdown := feeBreakdown
  { kind := .page, usage := .editorial, tariffClass := 0, copies := 1, cell := ⟨true, 10, 1000, 0⟩,
    today := 20, date := 0, version := 0, origin := .deposit, globals := ⟨1000, 850, 1100, 1215, 0, 200⟩,
    sharers := .page [5, 6, 7] }

/-- Chapter 8, "At the limits": the cap case and the small pool case. -/
theorem test_fees_at_the_limits :
    capped = ⟨.photo, .broadcast, 3, 65535, 1, .pass, 65535, 65535000000, 9200, 3, 327675000000, 1000000, 999999999, true, 998999999,
      none, none, [(9, 998999999)], 1000000⟩ ∧
    smallPool = ⟨.page, .editorial, 0, 1, 0, .deposit, 1, 10, 20, 0, 10, 0, 10, false, 10, some 2, some 3, [(5, 0), (6, 0), (7, 0)],
      10⟩ := by decide

/-- Chapter 6, "surveying and correcting a faded page": the table of corrections under K 36, P 219. -/
theorem test_corrections :
    ([30, 36, 37, 128, 200, 218, 219, 240] : List (BitVec 8)).map (correct 36 219)
      = [0, 0, 1, 128, 229, 254, 255, 255] := by decide

def fadedBins : List Nat :=
  List.replicate 8 0 ++ [4100, 2900] ++ List.replicate 20 0 ++ [1029576] ++ List.replicate 23 0 ++ [9000, 3000] ++ List.replicate 8 0

/-- Chapter 6, the same example: the profile of the histogram, with the counts between the bins it names in bin 30. -/
theorem test_profile :
    profileOf ⟨.complete, none, 1048576, false, fadedBins⟩ 5 5 = (36, 219) := by decide +kernel

/-- Chapter 7, "an account across a suspension": the limits applied by its two SET_ACCOUNTs. -/
theorem test_applied_limits :
    appliedLimit { Account.formatted with balance := 20000, held := 42571, limit := 50000 } 10000 = 22571 ∧
    appliedLimit { Account.formatted with balance := -20571, limit := 22571 } 0 = 20571 := by decide

/-! ### States the witnesses use -/

/-- A formatted part in NORMAL on day 5. -/
def work : State := { State.reset with control.mode := .normal, control.formatted := true, clock := ⟨5, 100, true⟩ }

def pageKey : Key := ⟨0, .page, 1⟩
def photoKey : Key := ⟨0, .photo, 1⟩
def photoWire : WireKey := ⟨0, 2, 1⟩

def editionIn (st : EditionState) (owner : Port) : Edition :=
  { date := 5, number := 1, origin := (if owner = .desk then .current else .historical), owner := owner, state := st, opened := ⟨5, 0⟩,
    release := some ⟨5, 0⟩, published := some ⟨5, 0⟩, outstanding := 0, pages := 1, photos := 0 }

def versionOf (n : Nat) (damaged : Bool) (origin : VersionOrigin) : Version :=
  { number := n, origin := origin, damaged := damaged, length := 40000, check := 0#32, profile := none, created := 5, serial := n,
    extents := [⟨3, 0, 1⟩, ⟨4, 10, 1⟩] }

def page (versions : List Version) : Object := ⟨pageKey, .reprint, 0, .grey8, [], 2, versions⟩

/-- The page with version 0 GOOD, 1 DAMAGED and 2 made by a pass. -/
def stockedPage : Object := page [versionOf 0 false .deposit, versionOf 1 true .pass, versionOf 2 false .pass]

def fullStripe : Stripe := ⟨.full, 96, 1, 0, 5, false, 0⟩

/-- One edition in a state, with one page. -/
def stocked (st : EditionState) : State :=
  { work with
    catalog := ⟨[(0, editionIn st .desk)], [(pageKey.code, stockedPage)], 3⟩, store.stripes := [(3, fullStripe), (4, fullStripe)] }

def filling (length next : Nat) (staged : List StagedLeaf) : Descriptor :=
  { holder := .desk, state := .filling, key := photoKey, rights := .reprint, contributor := 0, format := .grey8, placements := [],
    waits := [], length := length, next := next, register := 0xFFFFFFFF#32, staged := staged, programmed := 0 }

/-- One descriptor of the desk port. -/
def depositing (d : Descriptor) : State := { stocked .opened with intake.descriptors := [(0, d)] }

def streamOf (id : Nat) (kind : StreamKind) : Stream :=
  { id := id, kind := kind, key := pageKey, version := 2, serial := 2, snapshot := [⟨3, 0, 1⟩, ⟨4, 10, 1⟩], length := 40000, offset := 0,
    size := 40000, position := 0, send := none, ahead := none, fetch := .none, final := none }

/-- A fee of 100 with 60 for contributor 17. -/
def soldFor : Breakdown :=
  { kind := .photo, usage := .print, tariffClass := 1, copies := 1, version := 2, origin := .pass, units := 1, gross := 100, age := 0,
    band := 0, aged := 100, surcharge := 0, fee := 100, capped := false, base := 100, pool := none, sharing := none,
    parts := [(17, 60)], house := 40 }

def orderOf (account : Nat) : OrderPart := ⟨account, soldFor, none⟩

def customer (st : AccountState) : Account :=
  { Account.formatted with state := st, tariffClass := 1, balance := 500, limit := 50 }

/-- Streams on the three ports' queues, account 37 in a state, and the tariff cell it prices a page from. -/
def selling (st : AccountState) (counterQueue : List Stream) : State :=
  { stocked .published with
    streams.ports := ⟨⟨[streamOf 0 .read], []⟩, ⟨[], []⟩, ⟨counterQueue, []⟩⟩,
    ledger.accounts := [(37, customer st)], ledger.contributors := [(17, ⟨.active, 600, 0, 0, false⟩)],
    ledger.tariffs := [(1, ⟨true, 100, 1, 0⟩)] }

def onDeskLine (t : Transmission) (s : State) : State := { s with links.desk.sending := some t }
def onCounterLine (t : Transmission) (s : State) : State := { s with links.counter.sending := some t }

def passOf (id : Nat) : Pass :=
  { id := id, key := pageKey, source := .best, bound := none, mode := .survey, stride := 1, low := 0, high := 0, profile := none,
    phase := .queued, newNumber := none, leaf := [], written := 0, register := 0xFFFFFFFF#32, request := .none }

/-- A pass in CORRECT under the profile 36, 219, with a sheet at hand. -/
def correcting : Pass :=
  { passOf 9 with bound := some ⟨2, 2, 40000⟩, mode := .manual, profile := some (36, 219), phase := .correct, newNumber := some 3 }

def sourceStream : Stream := { streamOf 0 .passSource with send := some ⟨0, [1#8, 128#8, 255#8]⟩ }

def passing : State :=
  { stocked .published with passes.queue := [passOf 10], passes.active := some correcting, streams.passSource := some sourceStream }

def houseRecord : Statement := ⟨.house 40 1 100, 0, ⟨0, 0⟩, ⟨5, 0⟩, 0, false, false⟩

/-- What a property says of the next state, false of a stop. -/
def after (o : Host.Outcome State Fault Refusal) (p : State → Bool) : Bool :=
  match o with
  | .next t => p t
  | _ => false

/-! ### A state for the invariants -/

/-- An order of account 37 is streaming, a program is in flight, statements wait, and the desk port has a reply on the line. -/
def rich : State :=
  { stocked .published with
    store.stripes := [(3, { fullStripe with readers := 1 }), (4, { fullStripe with readers := 1 }), (6, ⟨.opened .intake, 7, 7, 1, 5, false, 0⟩)],
    store.wings := .both (.program ⟨.intake, 6, 7, photoKey, 0, 0, [1#8], true⟩), store.mark := some (6, 7),
    store.dirtyQueue := [9], store.eraseRequested := true,
    streams.ports.counter := ⟨[streamOf 0 (.order (orderOf 37))], []⟩,
    ledger.accounts := [(37, { customer .opened with held := 100, charged := 60, orders := 1 })],
    ledger.contributors := [(17, ⟨.active, 600, 20, 1, false⟩)],
    billing := { Billing.reset with length := 366, countdown := 1, sequence := 8, revenue := 40, latch := [houseRecord],
                                    queue := [(6, houseRecord), (7, houseRecord)] },
    notices := ⟨.reset, .reset, ⟨noticeBit .statementsWaiting, BitVec.allOnes 13⟩⟩,
    control.settings.lowMark := 16, store.freeQueue := List.range 16,
    links.desk := ⟨.hunting, false, some ⟨7#8, .ok, []⟩, some ⟨8#8, .busy, []⟩, [.refusal], some (.reply .request)⟩,
    links.bench := ⟨.hunting, true, none, none, [], none⟩,
    pending := [.tick] }

/-! ### Witnesses: the machine, the links, the invariants -/

theorem witness_step_runs : ∃ c rest, rich.pending = c :: rest ∧ work.pending = [] := ⟨.tick, [], rfl, rfl⟩

theorem witness_requests_are_screened :
    (frameOf (.status desk) = some desk ∧ rich.receives .bench = false) ∧
    (rich.receives .desk = true ∧ rich.inProgress .desk = true) ∧
    (Listening .counter work ∧ Port.counter ∉ permittedTo 0x08 ∧ Port.bench ∉ permittedTo 0x09 ∧ Port.bench ∉ permittedTo 0x10 ∧
      Port.desk ∉ permittedTo 0x11 ∧ Port.desk ∉ permittedTo 0x15 ∧ Port.desk ∉ permittedTo 0x16 ∧ Port.desk ∉ permittedTo 0x25) ∧
    (Listening .desk State.reset ∧ Port.desk ∈ permittedTo 0x28 ∧ State.reset.control.mode = .start ∧
      requestCodeOf (.cancelStream desk 0) = 0x28 ∧ requestCodeOf (.takeNotices desk) = 0x2B) ∧
    (Listening .desk work ∧ Port.desk ∈ permittedTo 0x26 ∧ work.control.mode ≠ .start ∧ (⟨.desk, 7#8, false⟩ : Frame).fits = false) := by
  decide

theorem witness_frames_that_are_no_request :
    (work.receives .desk = true ∧ work.inProgress .desk = false ∧ (0#8 : Octet).toNat = 0 ∧ 0x2E < (0x2F#8 : Octet).toNat) ∧
    (rich.receives .desk = true ∧ rich.inProgress .desk = true ∧ (rich.links.get .desk).refusal.isSome = true) := by decide

theorem witness_replies_leave :
    ((rich.links.get .desk).sending = some (.reply .request) ∧ (rich.links.get .desk).waiting = Slot.refusal :: [] ∧
      (rich.links.get .desk).breakHeld = false) ∧
    (let s := { onDeskLine (.reply .refusal) work with streams.ports.desk.ended := [streamOf 3 .read] }
     (s.links.get .desk).sending = some (.reply .refusal) ∧ (s.links.get .desk).waiting = [] ∧
      (s.streams.ports.get .desk).ended = streamOf 3 .read :: []) ∧
    (rich.running = true ∧ rich.links.get .bench = { Link.reset with breakHeld := true } ∧
      streamFrame (rich.streams.ports.get .bench) = none) := by
  refine ⟨by decide, ⟨rfl, rfl, rfl⟩, by decide⟩

theorem witness_request_payloads :
    (Instr.openEdition desk 65535 255).wf = true ∧ frameOf (.openEdition desk 65535 255) = some desk ∧ desk.fits = true := by decide

theorem witness_request_frames :
    (List.replicate 4200 (0#8 : Octet)).length ≤ Config.maxPayload ∧ (∀ o ∈ [(0xC2#8 : Octet)], o ≠ 0xC3#8) ∧
    work.receives .desk = true ∧ (work.links.get .desk).reception = .hunting := by
  refine ⟨Nat.le_of_eq List.length_replicate, by decide, by decide, rfl⟩

/-- R44, R180: FIND_EDITION's payload has the selector, the handle, the date and the number in either case, 0 where unused; a payload with
the chosen fields alone does not match. -/
theorem test_find_edition_payload :
    payloadOf (.findEdition desk (.handle 0x1234)) = [1#8, 0x12#8, 0x34#8, 0#8, 0#8, 0#8] ∧
    payloadOf (.findEdition desk (.key 0x5678 7)) = [2#8, 0#8, 0#8, 0x56#8, 0x78#8, 7#8] ∧
    commandOf .desk desk.tag 0x26#8 [2#8, 0#8, 0#8, 0x56#8, 0x78#8, 7#8] = .findEdition desk (.key 0x5678 7) ∧
    commandOf .desk desk.tag 0x26#8 [1#8, 0x12#8, 0x34#8] = .findEdition ⟨.desk, desk.tag, false⟩ (.handle 0) := by decide

/-- R176: an octet that is no start octet leaves a hunting unit hunting; a STATUS request's octets make it the next command, and short
of the last one they stand in the link unit and no command waits. -/
theorem test_octets_become_a_command :
    let frame := requestFrame 7#8 0x29#8 []
    (let s := frame.foldl (fun s o => hear .bench o s) (hear .bench 0xC2#8 work)
     s.pending = [.status bench] ∧ s.links.bench.reception = .hunting) ∧
    (let s := frame.dropLast.foldl (fun s o => hear .bench o s) work
     s.pending = [] ∧ s.links.bench.reception ≠ .hunting) := by decide +kernel

theorem witness_commands_reach : ∃ t, Part.ledger ∉ reach .tick ∧ exec .tick work = .next t := ⟨_, by decide, rfl⟩

theorem witness_flash_changes :
    (∃ op t, rich.store.wings = .both (.program op) ∧ exec .leafProgramFailed rich = .next t) ∧
    (∃ op t, rich.store.wings = .both (.program op) ∧ exec .leafProgramWritten rich = .next t) ∧
    (∃ t, Memory.wf work.store.flash ∧
      exec (.stripeEraseComplete true) { work with store.wings := .both (.erase 9), store.dirtyQueue := [9] } = .next t) :=
  ⟨⟨_, _, rfl, rfl⟩, ⟨_, _, rfl, rfl⟩, ⟨_, by decide, rfl⟩⟩

theorem rich_step : ∃ t, step rich = .next t := ⟨_, rfl⟩

theorem witness_links : LinksOk rich :=
  ⟨by intro p; cases p <;> constructor <;> decide, by intro p; cases p <;> decide⟩

theorem witness_notices : rich.working = true ∧ NoticesOk rich := by
  refine ⟨by decide, fun _ => by decide⟩

theorem witness_statements : StatementsOk rich :=
  ⟨by decide, by decide, by decide, by decide, by decide⟩

theorem witness_operating : OperatingOk rich := by constructor <;> decide

theorem witness_tables : TablesOk { rich with intake.descriptors := [(3, filling 1 0 [])] } := by
  constructor
  case orders =>
    intro p st h
    cases p
    · exact nomatch h
    · exact nomatch h
    · have h : st = streamOf 0 (.order (orderOf 37)) := by simpa [rich, PerPort.get] using h
      subst h
      simp only [namesRecords, streamOf, orderOf]
      decide
  all_goals decide

theorem witness_money : MoneyOk rich := by
  refine ⟨?_, ?_, ?_, ?_, ?_, ?_, ?_, ?_, ?_, ?_, ?_, ?_, ?_, ?_, ?_, ?_, ?_, ?_⟩ <;> first | decide +kernel | skip
  · intro st h
    have h : st = streamOf 0 (.order (orderOf 37)) := by simpa [rich] using h
    subst h
    simp only [soundOrder, streamOf, orderOf]
    decide

theorem witness_readers : ReadersOk rich := by
  refine ⟨by decide, by decide, by decide, by decide, by decide, by decide, by decide, ?_⟩
  intro n
  by_cases h3 : n = 3
  · subst h3; decide
  by_cases h4 : n = 4
  · subst h4; decide
  by_cases h6 : n = 6
  · subst h6; decide
  have readers : (rich.stripe n).readers = 0 := by
    simp [State.stripe, tgetD, rich, tget, Ne.symm h3, Ne.symm h4, Ne.symm h6, Stripe.formatted]
  have snapshots : rich.snapshotsOn n = 0 := by
    have one : rich.readerStreams = [streamOf 0 (.order (orderOf 37))] := rfl
    have stripes : snapshotStripes (streamOf 0 (.order (orderOf 37))).snapshot = [3, 4] := by decide
    rw [State.snapshotsOn, one]
    simp [stripes, h3, h4]
  rw [readers, snapshots]

theorem witness_wings : WingsOk rich := by
  refine ⟨by decide, by decide, by decide, ?_, by decide⟩
  intro n h
  exact nomatch h

/-! ### A state for the stripe table, the catalog and the queues -/

/-- The stripes whose records differ from a formatted one's: a FULL pair, one OPEN per front, a FREE one. -/
def shelvedStripes : List (Nat × Stripe) :=
  [(3, fullStripe), (4, fullStripe), (5, ⟨.opened .intake, 1, 1, 1, 5, false, 0⟩), (6, ⟨.free, 0, 0, 2, 5, false, 0⟩),
   (7, ⟨.opened .restore, 95, 1, 1, 5, false, 0⟩), (8, ⟨.opened .relocate, 7, 6, 1, 5, false, 0⟩)]

/-- The other stripes, all DIRTY. -/
@[irreducible] def shelvedDirty : List Nat := (List.range 8192).filter (fun n => !([3, 4, 5, 6, 7, 8] : List Nat).contains n)

/-- A deposit with one leaf of two programmed, a pass with one leaf of two, a queued pass, a stream, and the copy of a two-leaf extent
whose second program is in flight. -/
def shelved : State :=
  { stocked .opened with
    store.stripes := shelvedStripes, store.freeQueue := [6], store.dirtyQueue := shelvedDirty,
    store.wings := .both (.program ⟨.relocate, 8, 7, pageKey, 0, 1, [1#8], false⟩), store.mark := some (8, 7),
    intake.descriptors := [(0, { filling 40000 32769 [⟨1, 4, [1#8]⟩] with programmed := 1 })], intake.provisional := [(0, [⟨5, 0, 1⟩])],
    streams.ports.desk := ⟨[streamOf 15 .read], []⟩,
    relocation.round := some ⟨3, .reclaim, some ⟨pageKey, 0, 0, 0, ⟨3, 0, 2⟩, 0, some (8, 6), 1, .program, [], [1#8], .inFlight⟩⟩,
    passes := { Passes.reset with active := some { correcting with written := 1 }, queue := [passOf 255], output := [⟨7, 0, 1⟩] },
    pending := [.tick] }

theorem shelved_stripe (n : Nat) : n ∈ ([3, 4, 5, 6, 7, 8] : List Nat) ∨ shelved.stripe n = Stripe.formatted := by
  by_cases h : n ∈ ([3, 4, 5, 6, 7, 8] : List Nat)
  · exact .inl h
  · simp only [List.mem_cons, List.not_mem_nil, or_false, not_or] at h
    obtain ⟨h3, h4, h5, h6, h7, h8⟩ := h
    right
    simp [State.stripe, tgetD, shelved, shelvedStripes, tget, Ne.symm h3, Ne.symm h4, Ne.symm h5, Ne.symm h6, Ne.symm h7, Ne.symm h8]

/-- What holds of the six listed stripes and of a formatted record holds of every stripe of the state. -/
theorem shelved_all {p : Nat → Stripe → Prop} (h : ∀ n ∈ ([3, 4, 5, 6, 7, 8] : List Nat), p n (shelved.stripe n))
    (rest : ∀ n, n ∉ ([3, 4, 5, 6, 7, 8] : List Nat) → p n Stripe.formatted) (n : Nat) : p n (shelved.stripe n) := by
  by_cases hn : n ∈ ([3, 4, 5, 6, 7, 8] : List Nat)
  · exact h n hn
  · rcases shelved_stripe n with hs | hs
    · exact absurd hs hn
    · rw [hs]; exact rest n hn

theorem mem_range_without (k n : Nat) (ks : List Nat) :
    n ∈ (List.range k).filter (fun n => !ks.contains n) ↔ n < k ∧ n ∉ ks := by
  simp

theorem mem_shelved_dirty (n : Nat) : n ∈ shelvedDirty ↔ n < 8192 ∧ n ∉ ([3, 4, 5, 6, 7, 8] : List Nat) := by
  unfold shelvedDirty
  exact mem_range_without _ _ _

/-- The fronts' OPEN stripes. -/
theorem shelved_open (f : Front) (n : Nat) (h : (shelved.stripe n).state = .opened f) :
    (f = .intake ∧ n = 5) ∨ (f = .restore ∧ n = 7) ∨ (f = .relocate ∧ n = 8) := by
  revert h
  refine shelved_all (p := fun n r => r.state = .opened f → (f = .intake ∧ n = 5) ∨ (f = .restore ∧ n = 7) ∨ (f = .relocate ∧ n = 8))
    ?_ ?_ n
  · cases f <;> decide
  · intro m _ h; cases h

theorem witness_stripe_tables : TablesOk shelved := by
  constructor
  case stripeNumbers =>
    intro n h
    have parts : n ∈ shelvedDirty ∨ n ∈ ([3, 4, 5, 6, 7, 8] : List Nat) := by
      simp only [State.stripeNumbers, List.mem_append] at h
      rcases h with (((((((h | h) | h) | h) | h) | h) | h) | h)
      · exact .inr (by revert h; revert n; decide)
      · exact .inr (by revert h; revert n; decide)
      · exact .inl h
      all_goals exact .inr (by revert h; revert n; decide)
    rcases parts with h | h
    · exact ((mem_shelved_dirty n).1 h).1
    · clear * - h; revert h; revert n; decide
  case orders =>
    intro p st h
    cases p
    · have h : st = streamOf 15 .read := by simpa [shelved, PerPort.get] using h
      subst h
      trivial
    · exact nomatch h
    · exact nomatch h
  all_goals decide

theorem witness_stripes : StripesOk shelved ∧ ∃ t, step shelved = .next t := by
  refine ⟨⟨witness_stripe_tables, by decide, by decide, by decide, fun _ => ?_⟩, _, rfl⟩
  constructor
  case free =>
    intro n hn
    refine shelved_all (p := fun n r => n ∈ [6] ↔ r.state = .free) (by decide) ?_ n
    intro m h
    have : m ≠ 6 := fun e => h (by simp [e])
    simp [this, Stripe.formatted]
  case dirtyOnce => exact (show shelvedDirty.Nodup by unfold shelvedDirty; exact List.Nodup.filter _ List.nodup_range)
  case dirty =>
    intro n hn
    show n ∈ shelvedDirty ↔ _
    rw [mem_shelved_dirty]
    have := shelved_all (p := fun n r => n ∉ ([3, 4, 5, 6, 7, 8] : List Nat) ↔ r.state = .dirty) (by decide) (by
      intro m h; simp only [h, not_false_eq_true, Stripe.formatted]) n
    exact ⟨fun h => this.1 h.2, fun h => ⟨hn, this.2 h⟩⟩
  case fronts =>
    intro f m n hm hn
    rcases shelved_open f m hm with ⟨rfl, rfl⟩ | ⟨rfl, rfl⟩ | ⟨rfl, rfl⟩ <;>
      rcases shelved_open _ n hn with ⟨hf, rfl⟩ | ⟨hf, rfl⟩ | ⟨hf, rfl⟩ <;> first | rfl | cases hf
  case levels =>
    exact shelved_all (p := fun _ r => r.live ≤ r.written ∧ r.written ≤ Config.leavesPerStripe) (by decide)
      (fun _ _ => by decide)
  case open_ =>
    intro n f h
    rcases shelved_open f n h with ⟨rfl, rfl⟩ | ⟨rfl, rfl⟩ | ⟨rfl, rfl⟩ <;> decide
  case blank => exact shelved_all (p := fun _ r => r.state = .free → r.written = 0) (by decide) (fun _ _ => by decide)
  case dead => exact shelved_all (p := fun _ r => r.state = .dirty → r.live = 0) (by decide) (fun _ _ => by decide)
  case program => intro op h; cases h; decide
  case erase => intro n h; exact nomatch h
  case copy =>
    intro c h
    cases h
    exact ⟨by decide, by decide, by intro d hd; cases hd; decide⟩
  case fed =>
    intro op h _
    cases h
    exact ⟨fun _ => ⟨_, rfl, rfl, rfl⟩, fun h => nomatch h⟩
  case stalled => intro f h; exact nomatch h
  case cut => intro h; exact absurd h (by decide)
  case fetched => intro w op h; cases w <;> exact nomatch h
  all_goals decide

theorem witness_catalog : CatalogOk shelved ∧ ∃ t, step shelved = .next t := by
  refine ⟨⟨witness_stripe_tables, by decide, ?_, by decide, by decide, ?_, ?_, ?_, ?_, by decide, ?_⟩, _, rfl⟩
  · intro x h
    have h : x = (pageKey.code, stockedPage) := by simpa [shelved, stocked] using h
    subst h
    exact ⟨by decide, by decide, by decide, by decide⟩
  · intro _ n h
    by_cases h0 : n = 0
    · subst h0; exact nomatch h
    · simp [State.provisional, shelved, tget, Ne.symm h0, leavesIn]
  · intro r h; exact nomatch h
  · intro _
    constructor
    · intro h; exact nomatch h
    · intro p h; cases h; decide
  · intro p h; cases h
    intro b h; cases h; decide
  · intro p h; cases h
    intro n h; cases h
    refine ⟨by decide, ?_⟩
    intro o h
    have h : stockedPage = o := by simpa [State.object, shelved, stocked, correcting, passOf, tget] using h
    subst h
    decide

theorem witness_queues : QueuesOk shelved ∧ ∃ t, step shelved = .next t := by
  refine ⟨⟨by decide, by decide, ?_, ?_, ?_, by decide, by decide⟩, _, rfl⟩ <;> intro p <;> cases p <;> decide

/-! ### Witnesses: editions, objects, intake, streams -/

def published : State := stocked .published
def opened : State := stocked .opened

theorem witness_open_edition :
    (Admitted deskAndBench desk opened ∧ Admitted deskAndBench bench opened) ∧
    (¬(4 ≤ opened.clock.day ∧ 5 + 2 ≤ opened.clock.day) ∧ ¬opened.clock.day + 1 + 1 ≤ opened.clock.day + 1) ∧
    (∃ e ∈ opened.catalog.editions, e.2.date = 5 ∧ e.2.number = 1) ∧
    (¬∃ e ∈ opened.catalog.editions, e.2.date = 6 ∧ e.2.number = 7) ∧ (¬∃ e ∈ opened.catalog.editions, e.2.date = 3 ∧ e.2.number = 0) ∧
    Table.Ordered opened.catalog.editions ∧ tget opened.catalog.editions 1 = none ∧
    (∀ k < 1, (tget opened.catalog.editions k).isSome = true) := by decide

theorem witness_close_edition :
    let ended := depositing { filling 1 1 [] with state := .ended }
    (Admitted deskAndBench desk ended ∧ ended.edition 0 = some (editionIn .opened .desk) ∧ (editionIn .opened .desk).owner = desk.port ∧
      (1382399 ≤ 1382399) ∧ ended.depositsOf 0 .filling = 0 ∧ ended.depositsOf 0 .ended ≠ 0) ∧
    (Admitted deskAndBench desk opened ∧ opened.edition 0 = some (editionIn .opened .desk) ∧ opened.depositsOf 0 .filling = 0 ∧
      opened.depositsOf 0 .ended = 0) := by
  intro ended
  exact ⟨⟨by decide, by decide, by decide, by decide, by decide, by decide⟩, by decide⟩

theorem witness_abandon_edition :
    Admitted deskAndBench desk (depositing (filling 1 0 [])) ∧
    (∀ x ∈ (depositing (filling 1 0 [])).catalog.objects, x.1 = x.2.key.code) ∧
    (depositing (filling 1 0 [])).edition 0 = some (editionIn .opened .desk) ∧ (editionIn .opened .desk).owner = desk.port ∧
    (editionIn .opened .desk).state = .opened := by decide

theorem witness_abandon_edition_tables : TablesOk (depositing (filling 1 0 [])) := by
  constructor
  case orders => intro p st h; cases p <;> exact nomatch h
  all_goals decide

theorem witness_withdraw_edition :
    let s := { selling .opened [streamOf 0 (.order (orderOf 37))] with passes.queue := [passOf 10] }
    Admitted deskOnly desk s ∧ s.edition 0 = some (editionIn .published .desk) ∧ (editionIn .published .desk).state = .published := by
  intro s; exact ⟨by decide, by decide, by decide⟩

theorem witness_withdrawn_editions :
    Admitted deskOnly desk (stocked .withdrawn) ∧ (stocked .withdrawn).edition 0 = some (editionIn .withdrawn .desk) ∧
    (editionIn .withdrawn .desk).state = .withdrawn ∧ (∀ x ∈ (stocked .withdrawn).catalog.objects, x.1 = x.2.key.code) := by decide

theorem witness_withdrawn_editions_tables : TablesOk (stocked .withdrawn) := by
  constructor
  case orders => intro p st h; cases p <;> exact nomatch h
  all_goals decide

theorem witness_discard_version :
    (Admitted benchOnly bench published ∧ keyOf wire = some pageKey ∧ published.edition wire.handle = some (editionIn .published .desk) ∧
      published.object pageKey = some stockedPage ∧ stockedPage.key = pageKey ∧ Table.Ordered published.catalog.objects) ∧
    (stockedPage.version 0 = some (versionOf 0 false .deposit) ∧ (versionOf 0 false .deposit).origin = .deposit) ∧
    (stockedPage.version 1 = some (versionOf 1 true .pass) ∧ stockedPage.versions.filter (fun x => x.number != 1) ≠ []) ∧
    (stockedPage.version 2 = some (versionOf 2 false .pass) ∧ stockedPage.versions.filter (fun x => x.number != 2) ≠ []) ∧
    ((page [versionOf 1 true .pass]).version 1 = some (versionOf 1 true .pass) ∧
      (page [versionOf 1 true .pass]).versions.filter (fun x => x.number != 1) = []) := by decide

theorem witness_unpublished_editions :
    (Listening counter.port opened ∧ opened.control.mode ≠ .start ∧ opened.edition 0 = some (editionIn .opened .desk) ∧
      counter.port ≠ (editionIn .opened .desk).owner) ∧
    (Listening bench.port (stocked .closing) ∧ (stocked .closing).edition 0 = some (editionIn .closing .desk) ∧
      bench.port ∈ deskAndBench ∧ bench.port ≠ (editionIn .closing .desk).owner ∧ wire.handle = 0) ∧
    (let s := { work with catalog.editions := [(0, editionIn .opened .bench)] }
     Listening desk.port s ∧ s.edition 0 = some (editionIn .opened .bench) ∧ desk.port ≠ (editionIn .opened .bench).owner) := by
  refine ⟨by decide, by decide, ⟨by decide, by decide, by decide⟩⟩

theorem witness_best_version :
    (stockedPage.versions = [versionOf 0 false .deposit, versionOf 1 true .pass] ++ versionOf 2 false .pass :: [] ∧
      (page [versionOf 0 true .deposit]).best = none) ∧
    (∀ x ∈ [versionOf 0 false .deposit], x.number ≠ (versionOf 1 true .pass).number) ∧ (∀ v ∈ stockedPage.versions, v.number ≠ 255) := by
  decide

theorem witness_begin_object :
    let s := { opened with intake.descriptors := [(0, { filling 1 0 [] with holder := .bench, key := ⟨7, .photo, 2⟩ }),
                                                  (1, { filling 1 0 [] with key := ⟨0, .photo, 9⟩ })] }
    (Admitted deskAndBench desk s ∧ s.control.mode = .normal ∧ s.edition 0 = some (editionIn .opened .desk) ∧
      keyOf ⟨0, 2, 4095⟩ = some ⟨0, .photo, 4095⟩ ∧ s.object ⟨0, .photo, 4095⟩ = none ∧
      (∀ x ∈ s.intake.descriptors, x.2.key = ⟨0, .photo, 4095⟩ → x.2.state = .dropped)) ∧
    (rightsOf 2 = some .noReprint ∧ formatOf 2 = some .opaqueBody ∧ photoKeys [] = some [] ∧ (33554432 ≤ 33554432)) ∧
    ((s.intake.descriptors.filter (fun x => x.2.holder == desk.port)).length < 3 ∧
      s.catalog.objects.length + (s.intake.descriptors.filter (fun x => x.2.state != .dropped)).length < 1048576 ∧
      2 ∉ s.intake.descriptors.map (·.1) ∧ (∀ m < 2, m ∈ s.intake.descriptors.map (·.1))) := by
  intro s; exact ⟨by decide, by decide, by decide⟩

theorem witness_begin_object_with_a_placement :
    let s := depositing { filling 1 1 [] with state := .ended }
    Admitted deskAndBench desk s ∧ keyOf ⟨0, 1, 255⟩ = some ⟨0, .page, 255⟩ ∧ photoKeys [photoWire] = some [photoKey] ∧ s.object ⟨0, .page, 255⟩ = none ∧
    [photoKey].Nodup ∧ s.endedHolds .desk photoKey = true ∧ s.photoEntered .desk photoKey = false := by
  intro s; exact ⟨by decide, by decide, by decide, by decide, by decide, by decide, by decide⟩

/-- Each clause at the edges of a leaf: the last octets of a leaf, the first of one, and a chunk across. -/
theorem witness_put_chunk :
    let late := filling 70000 28672 [⟨0, 0, []⟩]
    let start := filling 4096 0 []
    let across := filling 70000 32767 [⟨0, 0, []⟩]
    let crowd := List.range 80
    (Admitted deskAndBench desk (depositing late) ∧ (depositing late).descriptor 0 = some late ∧ late.next % 32768 ≠ 0 ∧
      4096 ≤ 32768 - late.next % 32768 ∧ late.next + 4096 ≤ late.length) ∧
    ((depositing start).descriptor 0 = some start ∧ start.next % 32768 = 0 ∧ (depositing start).occupancy < 80 ∧
      (∀ l ∈ start.staged, l.leaf ≠ 0) ∧ start.next + 4096 ≤ start.length) ∧
    ((depositing across).descriptor 0 = some across ∧ across.next % 32768 ≠ 0 ∧ 32768 - across.next % 32768 < 2 ∧
      (depositing across).occupancy < 80) ∧
    (let full := { start with staged := crowd.map (fun i => ⟨i + 1, i, []⟩) }
     (depositing full).descriptor 0 = some full ∧ full.next % 32768 = 0 ∧ 80 ≤ (depositing full).occupancy) := by
  intro late start across crowd
  exact ⟨by decide, by decide, by decide, ⟨rfl, by decide, by decide⟩⟩

theorem witness_end_object :
    let d := filling 1 1 [⟨0, 0, [5#8]⟩]
    (Admitted deskAndBench desk (depositing d) ∧ Table.Ordered (depositing d).intake.descriptors ∧
      (depositing d).descriptor 0 = some d ∧ d.holder = desk.port ∧ d.state = .filling ∧ d.next = d.length) ∧
    (d.staged ≠ [] ∧ ∀ x ∈ (depositing d).intake.descriptors, x.2.complete = true → x.2.waits ≠ []) ∧ (1#32 ≠ ~~~d.register) := by
  intro d; exact ⟨by decide, by decide, by decide⟩

theorem witness_drop_object :
    let d := filling 40000 40000 [⟨1, 1, [5#8]⟩]
    let s := { depositing d with intake.provisional := [(0, [⟨4, 11, 1⟩])], intake.run := some ⟨0, [1]⟩ }
    (Admitted deskAndBench desk s ∧ Table.Ordered s.intake.descriptors ∧ Table.Ordered s.intake.provisional ∧
      s.descriptor 0 = some d ∧ d.holder = desk.port ∧ d.state ≠ .dropped) ∧
    (let dropped := { d with state := .dropped }
     (depositing dropped).descriptor 0 = some dropped ∧ dropped.state = .dropped) := by
  intro d s; exact ⟨⟨by decide, by decide, by decide, by decide, by decide, by decide⟩, by decide, by decide⟩

/-- The window's last octet, and the whole body; four streams wait behind the ACTIVE one's place. -/
theorem witness_read :
    let s := { published with streams.ports.desk.queue := [streamOf 0 .read, streamOf 1 .read, streamOf 2 .read, streamOf 4 .read] }
    (Admitted deskAndBench desk s ∧ s.seeObject .desk wire = .ok (editionIn .published .desk, stockedPage) ∧
      stockedPage.choose .best = .ok (versionOf 2 false .pass)) ∧
    (39999 < (versionOf 2 false .pass).length ∧ 1 ≤ (versionOf 2 false .pass).length - 39999 ∧ (0 ≤ (versionOf 2 false .pass).length - 0)) ∧
    ((s.streams.ports.get .desk).queue.length < 5 ∧ 3 ∉ (s.streams.ports.get .desk).ids ∧
      (∀ m < 3, m ∈ (s.streams.ports.get .desk).ids) ∧ Table.Ordered s.store.stripes) := by
  intro s; exact ⟨⟨by decide, rfl, rfl⟩, by decide, by decide⟩

theorem witness_cancel_stream :
    let s := { selling .opened [streamOf 0 (.order (orderOf 37)), streamOf 1 (.order (orderOf 37))] with
               streams.ports.desk.ended := [{ streamOf 15 .read with final := some .ok }] }
    (Listening counter.port s ∧ s.control.mode ≠ .start ∧
      (s.streams.ports.get .counter).queue = [streamOf 0 (.order (orderOf 37))] ++ streamOf 1 (.order (orderOf 37)) :: [] ∧
      (∀ x ∈ [streamOf 0 (.order (orderOf 37))] ++ [], x.id ≠ 1)) ∧
    ((s.streams.ports.get .desk).queue = [] ++ streamOf 0 .read :: [] ∧ (streamOf 0 .read).kind = .read) ∧
    ((∀ x ∈ (s.streams.ports.get .desk).queue, x.id ≠ 15) ∧ (∃ x ∈ (s.streams.ports.get .desk).ended, x.id = 15)) ∧
    ((∀ x ∈ (s.streams.ports.get .bench).queue, x.id ≠ 0) ∧ (∀ x ∈ (s.streams.ports.get .bench).ended, x.id ≠ 0)) := by
  intro s; exact ⟨⟨by decide, by decide, by decide, by decide⟩, by decide, by decide, by decide⟩

/-- The first and the last leaf of the second extent, and the leaf after it. -/
theorem witness_locate :
    let es : List Extent := [⟨3, 5, 2⟩, ⟨4, 10, 3⟩]
    (es = [⟨3, 5, 2⟩] ++ ⟨4, 10, 3⟩ :: [] ∧ (([⟨3, 5, 2⟩] : List Extent).map (·.count)).sum ≤ 2 ∧ 4 < 2 + 3) ∧
    locate es 2 = some (4, 10) ∧ locate es 4 = some (4, 12) ∧ locate es 5 = none ∧ (es.map (·.count)).sum ≤ 5 := by decide

theorem witness_sent_frames :
    let s := onDeskLine (.data 0 0 (List.replicate 4096 0#8)) (selling .opened [])
    let last := { streamOf 0 .read with position := 39999 }
    let t := { onDeskLine (.data 0 39999 [0#8]) work with streams.ports.desk.queue := [last] }
    ((s.links.get .desk).sending = some (.data 0 0 (List.replicate 4096 0#8)) ∧
      (s.streams.ports.get .desk).queue = streamOf 0 .read :: [] ∧
      (streamOf 0 .read).position + 4096 < (streamOf 0 .read).offset + (streamOf 0 .read).size) ∧
    ((t.links.get .desk).sending = some (.data last.id 39999 [0#8]) ∧ (t.streams.ports.get .desk).queue = last :: [] ∧
      last.kind = .read ∧ last.offset + last.size ≤ last.position + 1) ∧
    (((onDeskLine (.ending 3) work).links.get .desk).sending = some (.ending 3)) := by
  intro s last t; exact ⟨⟨rfl, by decide, by decide⟩, by decide, rfl⟩

/-! ### Witnesses: passes, accounts, sales -/

theorem witness_submit_pass :
    let s := { passing with passes.nextId := 255, passes.queue := [passOf 255, passOf 0] }
    let full := { passing with passes.queue := [passOf 0, passOf 1, passOf 2, passOf 3] }
    (Admitted benchOnly bench s ∧ s.control.mode = .normal ∧ passModeOf 2 = some .manual ∧ (223 + 32 ≤ 255) ∧
      passModeOf 1 = some .survey ∧ s.seeObject .bench wire = .ok (editionIn .published .desk, stockedPage) ∧
      stockedPage.choose (.number 0) = .ok (versionOf 0 false .deposit) ∧ stockedPage.format = .grey8 ∧
      stockedPage.versions.length < 4 ∧ stockedPage.lastNumber < 255) ∧
    (s.passes.queue.length < 4 ∧ (s.passes.nextId + 2) % 256 ∉ s.passIds ∧
      (∀ i < 2, (s.passes.nextId + i) % 256 ∈ s.passIds)) ∧
    (Admitted benchOnly bench full ∧ 4 ≤ full.passes.queue.length) := by
  intro s full
  exact ⟨⟨by decide, by decide, by decide, by decide, by decide, rfl, rfl, by decide, by decide, by decide⟩, by decide, by decide⟩

theorem witness_cancel_pass :
    (Admitted benchOnly bench passing ∧ passing.passes.queue = [] ++ passOf 10 :: [] ∧ (passOf 10).id = 10 ∧
      (∀ x ∈ passing.passes.active, x.id ≠ 10)) ∧
    (passing.passes.active = some correcting ∧ correcting.id = 9 ∧ (∀ x ∈ passing.passes.queue, x.id ≠ 9)) ∧ 255 ∉ passing.passIds := by
  refine ⟨⟨by decide, rfl, rfl, ?_⟩, ⟨rfl, rfl, by decide⟩, by decide⟩
  intro x h
  cases h
  decide

/-- The narrowest and the widest profile, and a pass with a sheet at hand. -/
theorem witness_correction :
    ((223 + 32 ≤ 255) ∧ (0 + 32 ≤ 32) ∧ (224#8 : Octet).toNat ≤ 254 ∧ 223 < (224#8 : Octet).toNat) ∧
    (passing.passes.active = some correcting ∧ correcting.phase = .correct ∧ correcting.leafComplete = false ∧
      correcting.profile = some (36, 219) ∧ (36 + 32 ≤ 219) ∧ passing.streams.passSource = some sourceStream ∧
      sourceStream.send = some ⟨0, [1#8, 128#8, 255#8]⟩) := by
  decide

theorem witness_surveys :
    (1048576 * 100 / 1000 < fadedBins.sum ∧ fadedBins.length = 64) ∧
    (let s := { passing with passes.histogram := ⟨.counting, some 9, 1, false, List.replicate 20 0 ++ [1] ++ List.replicate 43 0⟩ }
     (profileOf s.passes.histogram 0 0).2 < (profileOf s.passes.histogram 0 0).1 + 32) ∧
    (let s := { passing with passes.histogram := ⟨.counting, some 9, 2, false, [1] ++ List.replicate 6 0 ++ [1] ++ List.replicate 56 0⟩ }
     (profileOf s.passes.histogram 0 0).1 + 31 = (profileOf s.passes.histogram 0 0).2) ∧
    (let s := { passing with passes.histogram := ⟨.counting, some 9, 2, false, [1] ++ List.replicate 7 0 ++ [1] ++ List.replicate 55 0⟩ }
     (profileOf s.passes.histogram 0 0).1 + 32 ≤ (profileOf s.passes.histogram 0 0).2) := by
  refine ⟨by decide +kernel, ?_, ?_, ?_⟩ <;> decide +kernel

theorem witness_accounts :
    (Admitted counterOnly counter (selling .opened []) ∧ (¬(256 ≤ 255)) ∧ (549755813887 ≤ 549755813887) ∧
      ((selling .opened []).account 255).state = .unused ∧ ((selling .opened []).account 37).state ≠ .unused) ∧
    (549755813887 < ((selling .opened []).account 37).balance + (549755813387 + 1 : Nat) ∧
      ((selling .opened []).account 37).balance + (549755813387 : Nat) ≤ 549755813887) := by decide

theorem witness_set_account :
    let s := { work with ledger.accounts := [(255, { customer .suspended with balance := -20, held := 3 })] }
    Admitted counterOnly counter s ∧ (s.account 255).state ≠ .unused ∧
    (23 : Int) = max (0 : Int) ((s.account 255).held - (s.account 255).balance) ∧
    (24 : Int) = max (24 : Int) ((s.account 255).held - (s.account 255).balance) := by
  intro s; exact ⟨by decide, by decide, by decide, by decide⟩

theorem witness_suspended_accounts :
    let queue := [streamOf 0 (.order (orderOf 37)), streamOf 1 (.order (orderOf 38)), streamOf 2 (.order (orderOf 37))]
    (Admitted counterOnly counter (selling .opened queue) ∧ ((selling .opened queue).account 37).state = .opened ∧
      ((selling .opened queue).streams.ports.counter.queue.map (·.id)).Nodup) ∧
    (((selling .suspended []).account 37).state = .suspended ∧ ((selling .suspended []).account 1).state = .unused) ∧
    (let a := (selling .suspended []).account 37
     a ≠ { Account.formatted with state := a.state, tariffClass := a.tariffClass, limit := a.limit }) ∧
    (let s := { work with ledger.accounts := [(1, { customer .opened with balance := 0 })] }
     let a := s.account 1
     a.state ≠ .unused ∧ a = { Account.formatted with state := a.state, tariffClass := a.tariffClass, limit := a.limit }) := by
  intro queue; exact ⟨by decide, by decide, by decide, ⟨by decide, by decide⟩⟩

theorem witness_contributors :
    (Admitted deskOnly desk (selling .opened []) ∧ Admitted counterOnly counter (selling .opened [])) ∧
    (((selling .opened []).contributor 1).state = .unused ∧ ((selling .opened []).contributor 1023).state = .unused ∧
      ((selling .opened []).contributor 17).state ≠ .unused) ∧ (1000 ≤ 1000) := by decide

theorem witness_tariffs :
    (Admitted counterOnly counter (selling .opened []) ∧ kindOf 2 = some .photo ∧ usageOf 4 = some .editorial ∧
      Table.Ordered (selling .opened []).ledger.tariffs) ∧
    (¬((1000001 ≤ 1000000) ∧ (1 = 1) ∧ (0 ≤ 1000000))) ∧
    ((∀ m ∈ [100, 5000, 100, 5000], 100 ≤ m ∧ m ≤ 5000) ∧ ¬∀ m ∈ [99, 100, 100, 100], 100 ≤ m ∧ m ≤ 5000) := by decide

/-- A page with a vacant entry, a NO_REPRINT photo and a photo of a BARRED contributor. -/
def judged : State :=
  { work with
    catalog.objects := [((⟨0, .photo, 1⟩ : Key).code, ⟨⟨0, .photo, 1⟩, .noReprint, 0, .grey8, [], 0, []⟩),
                        ((⟨0, .photo, 2⟩ : Key).code, ⟨⟨0, .photo, 2⟩, .reprint, 17, .grey8, [], 0, []⟩)],
    ledger.contributors := [(17, ⟨.barred, 0, 0, 0, false⟩)] }

/-- Chapter 7 judges a page so: each case alone, in the order of the table, the vacant entry not consulted. -/
theorem test_rights :
    let entry := fun n vacant => (⟨⟨0, .photo, n⟩, vacant⟩ : Placement)
    let pageWith := fun rights contributor placements => (⟨pageKey, rights, contributor, .grey8, placements, 0, []⟩ : Object)
    judged.judgeRights (pageWith .noReprint 17 []) = some ⟨1, none⟩ ∧ judged.judgeRights (pageWith .reprint 17 []) = some ⟨2, none⟩ ∧
    judged.judgeRights (pageWith .reprint 0 [entry 2 false, entry 1 false]) = some ⟨3, some 2⟩ ∧
    judged.judgeRights (pageWith .reprint 0 [entry 1 true, entry 2 false]) = some ⟨4, some 2⟩ ∧
    judged.judgeRights (pageWith .reprint 0 [entry 1 true, entry 2 true]) = none := by decide

theorem witness_rights :
    (judged.object ⟨0, .photo, 1⟩ = some ⟨⟨0, .photo, 1⟩, .noReprint, 0, .grey8, [], 0, []⟩) ∧
    (judged.object ⟨0, .photo, 2⟩ = some ⟨⟨0, .photo, 2⟩, .reprint, 17, .grey8, [], 0, []⟩ ∧ (17 ≠ 0) ∧
      (judged.contributor 17).state = .barred ∧ (judged.contributor 0).state ≠ .barred) := by decide

theorem witness_fees :
    let i : FeeInputs := ⟨.photo, .broadcast, 3, 65535, ⟨true, 1000000, 1000, 1000000⟩, 9125, 0, 1, .pass,
      ⟨100, 5000, 100, 5000, 1000000, 1000⟩, .photo 9 1000⟩
    i.copies ≤ 65535 ∧ i.cell.base ≤ 1000000 ∧ i.cell.minimum ≤ 1000000 ∧ i.cell.copyUnit = 1000 ∧ i.globals.inRange = true ∧
      (∀ c share, i.sharers = .photo c share → share ≤ 1000) := by
  refine ⟨by decide, by decide, by decide, by decide, by decide, ?_⟩
  intro c share h
  cases h
  decide

theorem witness_quote :
    let s := selling .suspended []
    let a := s.account 37
    (Admitted counterOnly counter s ∧ usageOf 1 = some .print ∧ keyOf wire = some pageKey ∧ a.state ≠ .unused ∧
      s.seeObject .counter wire = .ok (editionIn .published .desk, stockedPage) ∧ (editionIn .published .desk).state = .published) ∧
    (s.judgeRights stockedPage = none ∧ (s.cell .page .print a.tariffClass).isSet = true ∧
      stockedPage.best = some (versionOf 2 false .pass)) ∧ (s.cell .page .digital a.tariffClass).isSet = false ∧
    (let barred := { s with catalog.objects := [(pageKey.code, { stockedPage with rights := .noReprint })] }
     barred.judgeRights { stockedPage with rights := .noReprint } = some ⟨1, none⟩) ∧
    (page [versionOf 0 true .deposit]).best = none := by
  intro s a
  exact ⟨⟨by decide, by decide, by decide, by decide, rfl, by decide⟩, by decide, by decide, by decide, by decide⟩

/-- The reservation takes the account to the edge of its limit: a fee of 550 on a balance of 500 and a limit of 50, and one of 551. -/
theorem witness_order :
    let s := selling .opened [streamOf 0 (.order (orderOf 37))]
    let a := s.account 37
    (Admitted counterOnly counter s ∧ usageOf 1 = some .print ∧ keyOf wire = some pageKey ∧
      s.seeObject .counter wire = .ok (editionIn .published .desk, stockedPage)) ∧
    (a.state = .opened ∧ s.embargoed (editionIn .published .desk) = false ∧ s.judgeRights stockedPage = none ∧
      (s.cell .page .print a.tariffClass).isSet = true ∧ stockedPage.best = some (versionOf 2 false .pass)) ∧
    (s.streams.ports.counter.queue.length < 5 ∧ 1 ∉ s.streams.ports.counter.ids ∧ (∀ m < 1, m ∈ s.streams.ports.counter.ids) ∧
      Table.Ordered s.store.stripes ∧ Table.Ordered s.ledger.accounts) ∧
    ((s.breakdown a (editionIn .published .desk) stockedPage .print 5 (versionOf 2 false .pass)).fee = 500 ∧
      -(a.limit : Int) ≤ a.balance - a.held - 550 ∧ ¬-(a.limit : Int) ≤ a.balance - a.held - 551 ∧ s.exposure + 500 ≤ 1099511627775) ∧
    ((selling .suspended []).account 37).state = .suspended ∧
    s.embargoed { editionIn .published .desk with release := some ⟨5, 101⟩ } = true := by
  intro s a
  exact ⟨⟨by decide, by decide, by decide, rfl⟩, by decide, by decide, by decide, by decide, by decide⟩

theorem witness_charge :
    let st := { streamOf 0 (.order (orderOf 37)) with position := 39999 }
    let s := onCounterLine (.data 0 39999 [1#8]) (selling .opened [st, streamOf 1 (.order (orderOf 37))])
    (s.links.counter.sending = some (.data st.id 39999 [1#8]) ∧ s.streams.ports.counter.queue = st :: [streamOf 1 (.order (orderOf 37))] ∧
      (∀ x ∈ [streamOf 1 (.order (orderOf 37))], x.id ≠ st.id) ∧ st.kind = .order (orderOf 37) ∧
      st.offset + st.size ≤ st.position + [1#8].length) ∧
    (Table.Ordered s.ledger.accounts ∧ Table.Ordered s.ledger.contributors ∧ soldFor.kind = .photo ∧ soldFor.parts = (17, 60) :: []) := by
  intro st s; exact ⟨by decide, by decide⟩

/-! ### Witnesses: periods, clock, operating control -/

theorem witness_periods :
    (Admitted counterOnly counter (selling .opened []) ∧ (selling .opened []).billing.latch = [] ∧
      Table.Ordered (selling .opened []).ledger.accounts ∧ Table.Ordered (selling .opened []).ledger.contributors) ∧
    (Admitted counterOnly counter rich ∧ rich.billing.latch ≠ []) ∧ (366 ≤ 366) := by decide

theorem witness_statements_moved :
    (Admitted counterOnly counter rich ∧ rich.billing.queue ≠ [] ∧ rich.billing.latch = houseRecord :: [] ∧
      rich.billing.queue.length < 512) ∧
    (rich.billing.queue = [(6, houseRecord)] ++ (7, houseRecord) :: [] ∧ (∀ y ∈ [(6, houseRecord)], y.1 ≠ (7 : Nat)) ∧
      (∀ y ∈ rich.billing.queue, y.1 ≠ 8)) ∧ (work.billing.queue = [] ∧ work.billing.latch = []) := by decide

theorem witness_clock :
    (Admitted deskOnly desk work ∧ work.running = true) ∧
    ({ work with clock.tick := 1382398 }.clock.tick = 1382398) ∧
    (work.working = true ∧ ¬(1152000 ≤ { work with clock.tick := 1151999 }.clock.tick ∨ work.clock.confirmed = false)) ∧
    (1152000 ≤ { work with clock.tick := 1152000 }.clock.tick ∧ work.billing.length = 0) ∧
    (rich.working = true ∧ rich.billing.length ≠ 0 ∧ rich.billing.countdown ≤ 1 ∧
      1 < { rich with billing.countdown := 2 }.billing.countdown) ∧ State.reset.control.mode = .start := by decide

/-- A part with sixteen stripes RETIRED. -/
def worn : State := { work with store.stripes := (List.range 16).map (fun n => (n, { fullStripe with state := .retired })) }

theorem witness_settings :
    (Admitted deskOnly desk worn ∧ failSafeOf 1 = some .flag ∧ failSafeOf 2 = some .preserve ∧ worn.control.mode = .normal) ∧
    ((⟨16, 90, 16, .preserve, .flag⟩ : Settings).inRange ∧ (⟨512, 3650, 1024, .preserve, .flag⟩ : Settings).inRange ∧
      ¬(⟨15, 90, 16, .preserve, .flag⟩ : Settings).inRange) ∧ (worn.retiredTotal < 17 ∧ 16 ≤ worn.retiredTotal) ∧
    (let s := { worn with control.mode := .preserve, control.cause := some .retire, control.settings.retireLimit := 16 }
     Admitted deskOnly desk s ∧ s.control.settings.retireLimit ≤ s.retiredTotal ∧ s.control.settings.retireAction = .preserve) ∧
    (let s := { worn with control.mode := .preserve, control.cause := some .damage, control.settings.retireLimit := 17 }
     s.control.mode = .preserve ∧ s.retiredTotal < s.control.settings.retireLimit) := by
  refine ⟨by decide, by decide, by decide, ⟨by decide, by decide, by decide⟩, ⟨by decide, by decide⟩⟩

/-- Two targets, one octet and thirty-two. -/
theorem witness_notices_and_messages :
    let s := { work with mailboxes.bench := some ⟨.counter, [1#8]⟩ }
    (Admitted allPorts desk s ∧ s.mailboxes.get .desk = none ∧ s.mailboxes.get .bench = some ⟨.counter, [1#8]⟩) ∧
    ((6#8 : BitVec 8).getLsbD (portBit .bench) = true ∧ (6#8 : BitVec 8).getLsbD (portBit .counter) = true ∧
      ¬(6#8 : BitVec 8).getLsbD (portBit .desk) = true ∧ (s.mailboxes.get .bench).isSome = true) ∧
    ((4#8 : BitVec 8).getLsbD (portBit .counter) = true ∧ ¬(4#8 : BitVec 8).getLsbD (portBit .bench) = true ∧
      s.mailboxes.get .counter = none) ∧ ¬(1#8 : BitVec 8).getLsbD (portBit .bench) = true := by
  intro s; exact ⟨by decide, by decide, by decide, by decide⟩

theorem witness_inquiries :
    (Listening desk.port State.reset ∧ Listening counter.port published ∧ published.control.mode ≠ .start) ∧
    (published.edition 0 = some (editionIn .published .desk) ∧ hidden (editionIn .published .desk) .counter = none ∧
      (∀ x ∈ published.catalog.editions, x.2.date = 5 → x.2.number = 1 → x.1 = 0)) ∧
    published.seeObject .counter wire = .ok (editionIn .published .desk, stockedPage) := by
  refine ⟨by decide, by decide, rfl⟩

/-! ### Witnesses: the store, resets -/

def fetchOf (owner : Fetcher) : FetchOp := ⟨owner, pageKey, 2, 0, 3, 0⟩

theorem witness_fetches :
    let s := { selling .opened [] with store.wings := .split (some (fetchOf (.stream .desk))) none }
    let t := { selling .opened [] with store.wings := .split none (some (fetchOf .ceased)) }
    (s.store.wings = .split (some (fetchOf (.stream .desk))) none ∧ (s.streams.ports.get .desk).queue = streamOf 0 .read :: [] ∧
      (streamOf 0 .read).send = none ∧ (streamOf 0 .read).kind = .read) ∧
    (t.store.wings = .split none (some (fetchOf .ceased)) ∧ (fetchOf .ceased).owner = .ceased) ∧
    (sound pageKey 2 0 .low ⟨[], none, []⟩ = false ∧ sound pageKey 2 0 .low ⟨[5#8], some ⟨wire, 2, 0, 0, crc32 [5#8]⟩, []⟩ = true) ∧
    (s.object pageKey = some stockedPage ∧ s.held pageKey 2 2 = some (versionOf 2 false .pass) ∧
      s.control.settings.damageAction = .flag) := by
  intro s t; exact ⟨by decide, by decide, by decide +kernel, by decide⟩

/-- The 96th leaf, and a leaf of a run with another to go. -/
theorem witness_programs :
    let op : ProgramOp := ⟨.intake, 6, 95, photoKey, 0, 0, [1#8], false⟩
    let d := filling 70000 70000 [⟨0, 0, []⟩, ⟨1, 1, []⟩]
    let s := { depositing d with
               store.wings := .both (.program op), store.stripes := [(6, ⟨.opened .intake, 95, 95, 1, 5, false, 0⟩)],
               intake.run := some ⟨0, [0, 1]⟩, intake.request := .inFlight }
    (s.store.wings = .both (.program op) ∧ Table.Ordered s.store.stripes ∧ (s.stripe 6).written + 1 = 96) ∧
    (op.ceased = false ∧ op.front = .intake ∧ s.intake.run = some ⟨0, [0, 1]⟩ ∧ s.descriptor 0 = some d ∧
      (∀ x ∈ s.intake.descriptors, x.2.complete = false) ∧ (∃ l ∈ d.staged, l.leaf ≠ op.leaf)) ∧
    (Table.Ordered rich.store.stripes ∧ rich.store.wings = .both (.program ⟨.intake, 6, 7, photoKey, 0, 0, [1#8], true⟩)) := by
  intro op d s; exact ⟨by decide, by decide, by decide⟩

theorem witness_erases :
    let s := { work with store.wings := .both (.erase 9), store.dirtyQueue := [9] }
    (s.store.wings = .both (.erase 9) ∧ Table.Ordered s.store.stripes ∧ s.store.stalled = []) ∧
    ({ s with store.stalled := [.relocate] }.store.stalled = [.relocate] ∧ s.store.freeQueue = []) ∧
    (let short := { s with store.stalled := [.intake], store.freeQueue := [1, 2, 3] }
     let enough := { s with store.stalled := [.restore], store.freeQueue := [1, 2, 3, 4] }
     (short.store.stalled = [.intake] ∧ short.store.freeQueue.length < 4) ∧
     (enough.store.stalled = [.restore] ∧ enough.store.freeQueue = 1 :: [2, 3, 4] ∧ 4 ≤ enough.store.freeQueue.length ∧ 1 ≠ 9)) ∧
    (work.working = true ∧ State.reset.working = false) ∧
    ({ work with store.guardAsserted := true }.store.guardAsserted = true ∧ work.store.wings = .split none none) := by
  intro s; exact ⟨by decide, by decide, by decide, by decide, by decide⟩

/-- The desk port with a deposit of the bench port beside its own, the bench port with a pass, the counter port with an order, and a
part in START. -/
theorem witness_link_reset :
    (let d := { filling 40000 1 [⟨0, 0, [1#8]⟩] with holder := .bench, key := ⟨0, .photo, 2⟩ }
     let s := { rich with intake.descriptors := [(0, filling 1 0 []), (1, d)] }
     s.running = true ∧ Table.Ordered s.intake.descriptors ∧ Table.Ordered s.ledger.accounts ∧ s.descriptor 1 = some d ∧
       d.holder ≠ .desk ∧ d.complete = false ∧ (∀ st ∈ (s.streams.ports.get .desk).queue, st.isOrder = false)) ∧
    (shelved.running = true ∧ Table.Ordered shelved.intake.descriptors ∧ Table.Ordered shelved.ledger.accounts ∧
      shelved.passes.active ≠ none ∧ shelved.passes.queue ≠ []) ∧
    (rich.running = true ∧ Table.Ordered rich.ledger.accounts ∧ feesIn 37 rich.streams.ports.counter.queue = 100) ∧
    (State.reset.running = true ∧ State.reset.control.mode = .start ∧ State.reset.intake.descriptors = [] ∧
      ∀ x, State.reset.intake.space.get x = false) := by
  refine ⟨by decide, by decide, by decide, rfl, rfl, rfl, ?_⟩
  intro x; cases x <;> rfl

/-- R169, R183: before start-up's end the sets of the other ports are empty, and a link reset leaves them so. -/
theorem test_link_reset_in_start :
    after (exec (.linkReset .desk) State.reset)
      (fun t => t.notices.bench == NoticeBoard.reset && t.notices.counter == NoticeBoard.reset) = true := by decide

theorem witness_power_and_start_up :
    (Table.Ordered rich.store.stripes ∧ Table.Ordered rich.ledger.accounts ∧ Table.Ordered rich.catalog.editions) ∧
    (rich.control.powered = true ∧ rich.control.resetLine = false) ∧
    ({ rich with control.powered := false }.control.powered = false ∧ { rich with control.resetLine := true }.control.resetLine = true) ∧
    (State.reset.running = true ∧ State.reset.control.mode = .start ∧ State.reset.control.formatted = false) ∧
    ({ rich with control.mode := .start }.running = true ∧ rich.control.formatted = true) ∧
    (let cut := { stocked .closing with
       control.mode := .start, store.stripes := [(6, ⟨.opened .intake, 7, 7, 1, 5, false, 0⟩)], store.mark := some (6, 7),
       intake.provisional := [(2, [⟨6, 6, 1⟩])],
       catalog.editions := [(0, { editionIn .closing .desk with outstanding := 2 })] }
     cut.running = true ∧ cut.control.formatted = true ∧ cut.edition 1 = none ∧
       cut.edition 0 = some { editionIn .closing .desk with outstanding := 2 } ∧
       (stocked .closing).edition 0 = some (editionIn .closing .desk) ∧ (editionIn .closing .desk).outstanding = 0 ∧
       (stocked .withdrawn).edition 0 = some (editionIn .withdrawn .desk) ∧ cut.store.mark.map (·.1) = some 6 ∧
       cut.intake.provisional = [(2, [⟨6, 6, 1⟩])]) := by decide

/-! ### Steps the manual works out -/

def readerAt (position : Nat) (fetch : Req) : Stream :=
  { streamOf 0 .read with snapshot := [⟨3, 0, 2⟩], position := position, fetch := fetch }

/-- Chapter 1, "a hold during the deadline hour": the state on entry. -/
def deadline : State :=
  { work with
    store.wings := .split (some (fetchOf (.stream .desk))) none, store.turn := .desk, store.eraseRequested := true,
    store.dirtyQueue := [733],
    streams.ports := ⟨⟨[readerAt 0 .inFlight], []⟩, ⟨[], []⟩, ⟨[readerAt 0 .pending], []⟩⟩ }

/-- Chapter 1, the same sequence: the desk fetch has completed and the bench port has presented a fetch in wing 1. -/
def deadlineHeld : State :=
  { deadline with
    store.wings := .split none none, store.held := some .high, streams.ports.bench := ⟨[readerAt 16384 .pending], []⟩,
    streams.ports.desk := ⟨[], []⟩ }

/-- Chapter 1, the same sequence, row by row. -/
theorem test_hold_sequence :
    (arbitrate deadline).store.held = some .high ∧ (arbitrate deadline).store.wings = deadline.store.wings ∧
    (arbitrate deadlineHeld).store.wings = .both (.erase 733) ∧ (arbitrate deadlineHeld).store.held = none ∧
    (let s := arbitrate { deadlineHeld with store.held := none, store.eraseRequested := false, store.dirtyQueue := [] }
     s.store.wings = .split (some ⟨.stream .counter, pageKey, 2, 0, 3, 0⟩) (some ⟨.stream .bench, pageKey, 2, 0, 3, 0⟩) ∧
      s.store.turn = .counter) := by
  refine ⟨by decide, by decide, by decide, by decide, ⟨by decide, by decide⟩⟩

/-! ### Witnesses: last leaves, the arbiter, relocation -/

/-- An ENDED deposit of two leaves whose second is in flight; one edition with a number of objects outstanding. -/
def lastLeaf (st : EditionState) (outstanding : Nat) : State :=
  { stocked st with
    catalog.editions := [(0, { editionIn st .desk with outstanding := outstanding })],
    intake.descriptors := [(2, { filling 40000 40000 [⟨1, 1, [1#8]⟩] with state := .ended, programmed := 1 })],
    intake.provisional := [(2, [⟨6, 6, 1⟩])], intake.run := some ⟨2, [1]⟩, intake.request := .inFlight,
    store.stripes := [(6, ⟨.opened .intake, 7, 7, 1, 5, false, 0⟩)],
    store.wings := .both (.program ⟨.intake, 6, 7, photoKey, 0, 1, [1#8], false⟩) }

/-- A pass of two leaves with a number of them programmed and the next in flight. -/
def lastPassLeaf (written : Nat) : State :=
  { passing with
    passes.active := some { correcting with written := written, request := .inFlight },
    store.stripes := [(7, ⟨.opened .restore, 2, 1, 1, 5, false, 0⟩)],
    store.wings := .both (.program ⟨.restore, 7, 2, pageKey, 3, written, [1#8], false⟩) }

theorem witness_last_leaves :
    let op : ProgramOp := ⟨.intake, 6, 7, photoKey, 0, 1, [1#8], false⟩
    let d := { filling 40000 40000 [⟨1, 1, [1#8]⟩] with state := .ended, programmed := 1 }
    let ready := fun (s : State) (e : Edition) =>
      s.store.wings = .both (.program op) ∧ op.ceased = false ∧ Table.Ordered s.store.stripes ∧ op.front = .intake ∧
      Table.Ordered s.intake.descriptors ∧ Table.Ordered s.intake.provisional ∧ s.intake.run = some ⟨2, [1]⟩ ∧
      s.descriptor 2 = some d ∧ d.state = .ended ∧ d.waits = [] ∧ (∀ l ∈ d.staged, l.leaf = op.leaf) ∧
      d.programmed + 1 = leavesOf d.length ∧ (∀ x ∈ s.intake.descriptors, x.1 ≠ 2 → x.2.complete = false) ∧
      s.edition d.key.handle = some e
    let pass := fun (s : State) (op : ProgramOp) =>
      s.store.wings = .both (.program op) ∧ op.ceased = false ∧ Table.Ordered s.store.stripes ∧ op.front = .restore
    ready (lastLeaf .opened 0) (editionIn .opened .desk) ∧
    ready (lastLeaf .closing 2) { editionIn .closing .desk with outstanding := 2 } ∧
    ready (lastLeaf .closing 1) { editionIn .closing .desk with outstanding := 1 } ∧
    (pass (lastPassLeaf 0) ⟨.restore, 7, 2, pageKey, 3, 0, [1#8], false⟩ ∧
      (lastPassLeaf 0).passes.active = some { correcting with written := 0, request := .inFlight } ∧ 0 + 1 < leavesOf 40000) ∧
    (pass (lastPassLeaf 1) ⟨.restore, 7, 2, pageKey, 3, 1, [1#8], false⟩ ∧
      (lastPassLeaf 1).passes.active = some { correcting with written := 1, request := .inFlight } ∧ 1 + 1 = leavesOf 40000 ∧
      (lastPassLeaf 1).object pageKey = some stockedPage ∧ stockedPage.key = pageKey ∧
      (lastPassLeaf 1).edition 0 = some (editionIn .published .desk)) := by
  intro op d ready pass
  refine ⟨?_, ?_, ?_, ?_, ?_⟩ <;> simp only [ready, pass] <;> decide

/-- A claim that is pending and eligible, and one that can start or hold a wing, as the arbiter's statement spells them. -/
abbrev standing (s : State) (c : Claim) : Prop := s.claims c = true ∧ (c.wide = true → s.store.guardAsserted = false)
abbrev startable (s : State) (c : Claim) : Prop :=
  standing s c ∧ ∃ w, s.idle w = true ∧ s.store.held ≠ some w ∧ (c.wide = false → w = s.wants c)

theorem exists_wing {p : Wing → Prop} : (∃ w, p w) ↔ p .low ∨ p .high :=
  ⟨fun ⟨w, h⟩ => by cases w; exacts [.inl h, .inr h], fun h => h.elim (⟨_, ·⟩) (⟨_, ·⟩)⟩

theorem no_claim {p : Claim → Prop} (h : ∀ c ∈ State.reset.ranking, p c) (c : Claim) : p c := by
  cases c with
  | streamFetch q => cases q <;> exact h _ (by decide)
  | _ => exact h _ (by decide)

/-- Staging at the promotion threshold. -/
def crowded : State :=
  depositing { filling 3000000 2097152 [] with staged := (List.range 64).map (fun i => ⟨i, i, []⟩) }

theorem witness_arbiter_ranks :
    (deadline.occupancy < 64 ∧ 64 ≤ crowded.occupancy) ∧
    (deadline.ranking = [.streamFetch .bench, .streamFetch .counter, .streamFetch .desk, .intakeProgram] ++ .erase ::
        [.copyFetch, .copyProgram, .passFetch, .passProgram] ∧ startable deadline .erase ∧
      ∀ x ∈ ([.streamFetch .bench, .streamFetch .counter, .streamFetch .desk, .intakeProgram] : List Claim), ¬startable deadline x) ∧
    (∀ c, ¬startable work c) := by
  refine ⟨by decide, ⟨by decide, ?_, ?_⟩, ?_⟩
  · simp only [startable, exists_wing]; decide
  · simp only [startable, exists_wing]; decide
  · refine no_claim ?_
    simp only [startable, exists_wing]; decide

theorem witness_arbiter_starts :
    let idle := { deadline with store.wings := .split none none, streams.ports.desk := ⟨[], []⟩, streams.ports.counter := ⟨[], []⟩ }
    let high := { deadline with store.wings := .split none (some (fetchOf (.stream .desk))), streams.ports.counter := ⟨[], []⟩ }
    let fetch := { idle with streams.ports.bench := ⟨[readerAt 16384 .pending], []⟩ }
    (work.store.held = none ∧ work.winner = none) ∧
    (fetch.store.held = none ∧ fetch.winner = some (.streamFetch .bench) ∧
      (fetch.streams.ports.get .bench).queue = readerAt 16384 .pending :: [] ∧ nextSheet (readerAt 16384 .pending) = some 1 ∧
      locate (readerAt 16384 .pending).snapshot (1 / 2) = some (3, 0)) ∧
    (idle.store.held = none ∧ idle.winner = some .erase ∧ Claim.erase.wide = true ∧ idle.idle .low = true ∧ idle.idle .high = true) ∧
    (deadline.store.held = none ∧ deadline.winner = some .erase ∧ deadline.idle .low = false ∧ deadline.idle .high = true) ∧
    (high.store.held = none ∧ high.winner = some .erase ∧ high.idle .low = true ∧ high.idle .high = false) := by decide

theorem witness_arbiter_holds :
    (deadlineHeld.store.held = some .high ∧
      deadlineHeld.ranking = [.streamFetch .bench, .streamFetch .counter, .streamFetch .desk, .intakeProgram] ++ .erase ::
        [.copyFetch, .copyProgram, .passFetch, .passProgram] ∧ standing deadlineHeld .erase ∧ Claim.erase.wide = true ∧
      (∀ x ∈ ([.streamFetch .bench, .streamFetch .counter, .streamFetch .desk, .intakeProgram] : List Claim),
        ¬(standing deadlineHeld x ∧ x.wide = true)) ∧ deadlineHeld.idle .low = true ∧ deadlineHeld.idle .high = true) ∧
    (∀ c, standing { deadlineHeld with store.eraseRequested := false } c → c.wide = false) ∧
    { deadlineHeld with store.guardAsserted := true }.store.guardAsserted = true ∧ deadlineHeld.store.dirtyQueue = 733 :: [] ∧
    shelved.relocation.round
      = some { (⟨3, .reclaim, none⟩ : Round) with
          copy := some ⟨pageKey, 0, 0, 0, ⟨3, 0, 2⟩, 0, some (8, 6), 1, .program, [], [1#8], .inFlight⟩ } ∧
    shelved.frontStripe .relocate = some (8, ⟨.opened .relocate, 7, 6, 1, 5, false, 0⟩) := by
  refine ⟨by decide, no_claim (by decide), rfl, rfl, rfl, by decide⟩

/-- What makes a stripe provisional, damaged and movable, as the choice's statement spells it. -/
abbrev provisionalAt (s : State) (n : Nat) : Prop :=
  (∃ x ∈ s.intake.provisional, ∃ e ∈ x.2, e.stripe = n) ∨ ∃ e ∈ s.passes.output, e.stripe = n
abbrev damagedAt (s : State) (n : Nat) : Prop :=
  ∃ x ∈ s.catalog.objects, ∃ v ∈ x.2.versions, v.damaged = true ∧ ∃ e ∈ v.extents, e.stripe = n
abbrev movableAt (s : State) (n : Nat) : Prop :=
  (s.stripe n).state = .full ∧ 0 < (s.stripe n).live ∧ ¬provisionalAt s n ∧ ¬damagedAt s n

theorem listed_of_full {s : State} {n : Nat} (h : (s.stripe n).state = .full) : n ∈ s.store.stripes.map (·.1) := by
  have key : ∀ t : List (Nat × Stripe), (tgetD Stripe.formatted t n).state = .full → n ∈ t.map (·.1) := by
    intro t
    induction t with
    | nil => intro h; cases h
    | cons e rest ih =>
      intro h
      by_cases hn : e.1 = n
      · simp [hn]
      · exact List.mem_cons_of_mem _ (ih (by simpa [tgetD, tget, hn] using h))
  exact key _ h

/-- Chapter 5, "the choice at a quiet hour": stripes 2,980, 4,411, 5,006 and 6,130, with 58 stripes free under a low mark of 64. -/
def quietHour : State :=
  { work with
    clock := ⟨31002, 259200, true⟩, control.settings := ⟨64, 1095, 16, .flag, .flag⟩, store.freeQueue := List.range 58,
    store.stripes := [(2980, { fullStripe with live := 3 }), (4411, { fullStripe with live := 12 }),
                      (5006, { fullStripe with live := 12 }), (6130, { fullStripe with live := 9 })],
    catalog.objects := [(pageKey.code, page [{ versionOf 1 true .deposit with extents := [⟨2980, 0, 2⟩] }])],
    intake.provisional := [(0, [⟨6130, 4, 1⟩])] }

/-- The same hour with every movable stripe at live 96. -/
def quietFull : State :=
  { quietHour with store.stripes := [(2980, { fullStripe with live := 3 }), (4411, { fullStripe with live := 96 }),
                                     (5006, { fullStripe with live := 96 })] }

/-- Chapter 5, the same example: the choice, the choice once 6,130 is movable, and reclaim blocked. -/
theorem test_choice_at_a_quiet_hour :
    quietHour.choose = .victim 4411 .reclaim ∧ { quietHour with intake.provisional := [] }.choose = .victim 6130 .reclaim ∧
    quietFull.choose = .blocked := by decide

theorem witness_victims :
    let low := fun (s : State) => s.store.freeQueue.length < s.control.settings.lowMark
    let worn := fun (s : State) n => movableAt s n ∧ (s.stripe n).retirePending = true
    let old := fun (s : State) n => movableAt s n ∧ (s.stripe n).programDay + s.control.settings.retentionDays ≤ s.clock.day
    let wearing := { quietHour with store.stripes := [(4411, { fullStripe with live := 96 }),
      (5006, { fullStripe with live := 96, retirePending := true }), (6130, { fullStripe with live := 9, retirePending := true })] }
    let plenty := { quietHour with store.freeQueue := List.range 64 }
    (Table.Ordered wearing.store.stripes ∧ worn wearing 5006 ∧ (∀ m < 5006, ¬worn wearing m)) ∧
    (Table.Ordered quietHour.store.stripes ∧ (∀ n, ¬worn quietHour n) ∧ low quietHour ∧ movableAt quietHour 4411 ∧
      (quietHour.stripe 4411).live ≠ 96 ∧
      (∀ m, movableAt quietHour m → (quietHour.stripe 4411).live < (quietHour.stripe m).live ∨
        ((quietHour.stripe 4411).live = (quietHour.stripe m).live ∧ 4411 ≤ m))) ∧
    ((∀ n, ¬worn quietFull n) ∧ low quietFull ∧ movableAt quietFull 4411 ∧ (quietFull.stripe 4411).live = 96 ∧
      (∀ m, movableAt quietFull m → 96 ≤ (quietFull.stripe m).live)) ∧
    (low { work with store.stripes := [] } ∧ ∀ n, ¬movableAt { work with store.stripes := [] } n) ∧
    ((∀ n, ¬worn plenty n) ∧ ¬low plenty ∧ old plenty 4411 ∧
      (∀ m, old plenty m → (plenty.stripe 4411).programDay < (plenty.stripe m).programDay ∨
        ((plenty.stripe 4411).programDay = (plenty.stripe m).programDay ∧ 4411 ≤ m))) ∧
    (let young := { plenty with clock.day := 1000 }
     ¬low young ∧ ∀ n, ¬old young n) := by
  intro low worn old wearing plenty
  have listed : ∀ (s : State) n, movableAt s n → n ∈ s.store.stripes.map (·.1) := fun s n h => listed_of_full h.1
  refine ⟨⟨by decide, by decide, ?_⟩, ⟨by decide, ?_, by decide, by decide, by decide, ?_⟩, ⟨?_, by decide, by decide, by decide, ?_⟩,
    ⟨by decide, ?_⟩, ⟨?_, by decide, by decide, ?_⟩, by decide, ?_⟩
  · intro m hm h
    have := listed _ _ h.1
    revert hm h; revert m; decide
  · intro m h; have := listed _ _ h.1; revert h; revert m; decide
  · intro m h; have := listed _ _ h; revert h; revert m; decide
  · intro m h; have := listed _ _ h.1; revert h; revert m; decide
  · intro m h; have := listed _ _ h; revert h; revert m; decide
  · intro m h; exact nomatch listed _ _ h
  · intro m h; have := listed _ _ h.1; revert h; revert m; decide
  · intro m h; have := listed _ _ h.1; revert h; revert m; decide
  · intro m h; have := listed _ _ h.1; revert h; revert m; decide

/-- The engine acts on a choice in NORMAL with the guard line released, and on none otherwise. -/
theorem witness_choices :
    (quietHour.control.mode = .normal ∧ quietHour.store.guardAsserted = false) ∧ work.choose = .nothing ∧ quietFull.choose = .blocked ∧
    quietHour.choose = .victim 4411 .reclaim ∧
    ({ quietHour with control.mode := .preserve }.control.mode ≠ .normal ∨ quietHour.store.guardAsserted = true) := by decide

/-! ### Witnesses: the extent copy -/

/-- The page's version 0 in two extents of stripe 3 and one of stripe 4, all GOOD. -/
def copiedVersion : Version := { versionOf 0 false .deposit with extents := [⟨3, 20, 1⟩, ⟨4, 0, 2⟩, ⟨3, 5, 2⟩] }

def copying : State := { stocked .published with catalog.objects := [(pageKey.code, page [copiedVersion])] }

/-- A copy of the version's last extent, at its third and fourth leaf. -/
def copyAt (copied : Nat) (dest : Option (Nat × Nat)) (step : CopyStep) (request : Req) : Copy :=
  { key := pageKey, version := 0, serial := 0, index := 2, source := ⟨3, 5, 2⟩, leafBase := 3, dest := dest, copied := copied,
    step := step, low := [], high := [], request := request }

def inCopy (c : Copy) (s : State) : State := { s with relocation.round := some ⟨3, .reclaim, some c⟩ }

/-- R90: the copy takes the victim's extent with the lowest first leaf, at its index and leaf base. -/
theorem test_next_extent :
    (lookNext ⟨3, .reclaim, none⟩ copying).relocation.round = some ⟨3, .reclaim, some (copyAt 0 none .fetchLow .pending)⟩ := by decide

/-- R92: a commit puts the extent in its place and moves live, victim 3 to stripe 8. -/
theorem test_commit :
    let s := commitCopy (copyAt 2 (some (8, 6)) .program .inFlight)
      { copying with store.stripes := [(3, { fullStripe with live := 3 }), (8, ⟨.opened .relocate, 8, 6, 1, 5, false, 0⟩)] }
    (s.held pageKey 0 0).map (·.extents) = some [⟨3, 20, 1⟩, ⟨4, 0, 2⟩, ⟨8, 6, 2⟩] ∧ (s.stripe 3).live = 1 ∧ (s.stripe 8).live = 8 := by
  decide

theorem witness_looks :
    let r : Round := ⟨3, .reclaim, none⟩
    ((copying.stripe 9).live = 0 ∨ copying.movable 9 = false) ∧
    (copying.movable 3 = true ∧ { copying with store.guardAsserted := true }.movable r.victim = true) ∧
    { copying with relocation.round := some r }.relocation.round = some { r with copy := none } ∧
    (copying.store.guardAsserted = false ∧ ∃ e ∈ copying.catalogExtents, e.stripe = r.victim) := by decide

theorem witness_copy_fetches :
    let low := inCopy (copyAt 1 (some (8, 6)) .fetchLow .inFlight)
      { copying with store.wings := .split (some ⟨.relocation, pageKey, 0, 4, 3, 6⟩) none }
    let high := inCopy (copyAt 1 (some (8, 6)) .fetchHigh .inFlight)
      { copying with store.wings := .split none (some ⟨.relocation, pageKey, 0, 4, 3, 6⟩) }
    (low.store.wings = .split (some ⟨.relocation, pageKey, 0, 4, 3, 6⟩) none ∧ low.relocation.round
      = some { (⟨3, .reclaim, none⟩ : Round) with copy := some (copyAt 1 (some (8, 6)) .fetchLow .inFlight) }) ∧
    (high.store.wings = .split none (some ⟨.relocation, pageKey, 0, 4, 3, 6⟩) ∧ high.relocation.round
      = some { (⟨3, .reclaim, none⟩ : Round) with copy := some (copyAt 1 (some (8, 6)) .fetchHigh .inFlight) }) ∧
    (sound pageKey 0 4 .low ⟨[5#8], some ⟨wire, 0, 4, 0, crc32 [5#8]⟩, []⟩ = true ∧
      sound pageKey 0 4 .high ⟨[5#8], some ⟨wire, 0, 4, 1, crc32 [5#8]⟩, []⟩ = true ∧ sound pageKey 0 4 .low ⟨[], none, []⟩ = false) ∧
    (low.object pageKey = some (page [copiedVersion]) ∧ (page [copiedVersion]).key = pageKey ∧
      low.held pageKey 0 0 = some copiedVersion ∧ copiedVersion.damaged = false ∧ low.control.settings.damageAction = .flag) := by
  intro low high
  refine ⟨⟨rfl, rfl⟩, ⟨rfl, rfl⟩, by decide +kernel, by decide⟩

/-- A state whose table lists one stripe has that one alone outside its formatted record. -/
theorem single_stripe (s : State) (n : Nat) (r : Stripe) (h : s.store.stripes = [(n, r)]) (k : Nat) :
    s.stripe k = if n = k then r else Stripe.formatted := by
  simp only [State.stripe, tgetD, h, tget]
  split <;> simp

/-- The extent fits the front's stripe exactly, is one leaf too long for it, and finds no stripe. -/
theorem witness_placement :
    let c := copyAt 0 none .program .none
    let on := fun written => { inCopy c copying with store.stripes := [(8, ⟨.opened .relocate, written, 6, 1, 5, false, 0⟩)],
                                                     store.freeQueue := [11, 12] }
    let ready := fun (s : State) => Table.Ordered s.store.stripes ∧ s.programInFlight .relocate = false ∧
      s.isStalled .relocate = false ∧ c.copied = 0 ∧ c.dest = none
    (ready (on 94) ∧ (on 94).frontStripe .relocate = some (8, ⟨.opened .relocate, 94, 6, 1, 5, false, 0⟩) ∧ 94 + c.source.count ≤ 96) ∧
    (ready (on 95) ∧ (∀ k, ((on 95).stripe k).state = .opened .relocate ↔ k = 8) ∧ ((on 95).stripe 8).written ≤ 96 ∧
      96 < ((on 95).stripe 8).written + c.source.count ∧ (on 95).store.freeQueue = 11 :: [12] ∧ 11 ≠ 8) ∧
    (let s := { inCopy c copying with store.stripes := [] }
     ready s ∧ (∀ k, (s.stripe k).state ≠ .opened .relocate) ∧ s.store.freeQueue = []) := by
  intro c on ready
  refine ⟨⟨by simp only [ready]; decide, by decide, by decide⟩,
    ⟨by simp only [ready]; decide, ?_, by decide, by decide, rfl, by decide⟩, by simp only [ready]; decide, ?_, rfl⟩
  · intro k
    rw [single_stripe (on 95) 8 _ rfl]
    by_cases hk : 8 = k
    · simp [hk]
    · rw [if_neg hk]
      exact ⟨fun h => (nomatch h), fun h => absurd h.symm hk⟩
  · intro k h; exact nomatch h

/-- A copy's first and last program, the last with its version gone, and a failed one. -/
theorem witness_copy_programs :
    let c := fun copied => copyAt copied (some (8, 6)) .program .inFlight
    let s := fun copied => inCopy (c copied) { copying with
      store.stripes := [(3, { fullStripe with live := 3 }), (8, ⟨.opened .relocate, 6 + copied, 6, 1, 5, false, 0⟩)],
      store.wings := .both (.program ⟨.relocate, 8, 6 + copied, pageKey, 0, 3 + copied, [1#8], false⟩) }
    let op : Nat → ProgramOp := fun copied => ⟨.relocate, 8, 6 + copied, pageKey, 0, 3 + copied, [1#8], false⟩
    (∀ copied ∈ [0, 1], (s copied).store.wings = .both (.program (op copied)) ∧ (op copied).front = .relocate ∧
      (op copied).ceased = false ∧ (s copied).relocation.round = some { (⟨3, .reclaim, none⟩ : Round) with copy := some (c copied) } ∧
      Table.Ordered (s copied).store.stripes ∧ (s copied).copyValid (c copied) = true) ∧
    ((c 0).copied + 1 ≠ (c 0).source.count ∧ (c 1).copied + 1 = (c 1).source.count ∧ (c 1).dest = some (8, 6)) ∧
    ((s 1).object pageKey = some (page [copiedVersion]) ∧ (s 1).held pageKey 0 0 = some copiedVersion) ∧
    ({ s 1 with catalog.objects := [] }.copyValid (c 1) = false) := by
  intro c s op
  refine ⟨?_, by decide, by decide, by decide⟩
  intro copied h
  simp only [List.mem_cons, List.not_mem_nil, or_false] at h
  rcases h with rfl | rfl <;> exact ⟨rfl, rfl, rfl, rfl, by decide, by decide⟩

/-! ### More steps the manual works out -/

/-- R27: the desk port may open tomorrow's edition, and the reply carries the lowest free handle, 1. -/
theorem test_open_edition :
    after (exec (.openEdition desk 6 7) opened) (fun t => t.links.desk.request == some ⟨7#8, .ok, [0#8, 1#8]⟩
      && t.links.desk.sending == some (.reply .request)) = true := by decide

/-- R27: two days ahead is outside the desk port's window. -/
theorem test_open_edition_outside_the_window :
    after (exec (.openEdition desk 7 0) opened) (fun t => t.links.desk.request == some ⟨7#8, .badArgument, []⟩) = true := by decide

/-- Chapter 7, "an account across a suspension": a credit of 20,571 brings the balance from -20,571 to 0. -/
theorem test_credit_account :
    after (exec (.creditAccount counter 37 20571) { work with ledger.accounts := [(37, { customer .suspended with balance := -20571 })] })
      (fun t => (t.account 37).balance == 0 && t.links.counter.request == some ⟨7#8, .ok, [0, 0, 0, 0, 0]⟩) = true := by decide

/-- R166: at tick 1,151,999 a mark is ignored, at 1,152,000 it is accepted. -/
theorem test_day_mark :
    after (exec .dayMark { work with clock.tick := 1151999 }) (fun t => t.clock == ⟨5, 1151999, true⟩) = true ∧
    after (exec .dayMark { work with clock.tick := 1152000 }) (fun t => t.clock == ⟨6, 0, true⟩) = true := by
  decide +kernel

/-- R25, R46, R175: at start-up an OPEN stripe becomes FULL, a CLOSING edition with nothing outstanding is published, and the mode leaves
START. -/
theorem test_start_up :
    after (exec .startUpEnd { stocked .closing with
        control.mode := .start, store.stripes := [(3, fullStripe), (4, fullStripe), (6, ⟨.opened .intake, 7, 7, 1, 5, false, 0⟩)] })
      (fun t => t.control.mode == .normal && (t.stripe 6).state == .full
        && (t.edition 0).map (·.state) == some .published) = true := by decide +kernel

/-- R151, R175: the tick that rose in START is 0 after start-up's end, and the day stays. -/
theorem test_start_up_clock :
    after (exec .startUpEnd { work with control.mode := .start, clock := ⟨5, 100, false⟩ }) (fun t => t.clock == ⟨5, 0, false⟩) = true := by
  decide +kernel

/-- R8: a stripe joins behind the entries that stood in the queue before the event, in ascending number among those of the event. -/
theorem test_dirty_order : joinDirty 2 40 [90, 20, 30, 50] = [90, 20, 30, 40, 50] := by decide

/-- R181: an order summary with one part is 29 octets long, and a released one 19. -/
theorem test_order_summary_lengths :
    (orderSummary (streamOf 0 .read) (orderOf 37)).length = 29 ∧
    (orderSummary (streamOf 0 .read) { orderOf 37 with cause := some .damaged }).length = 19 := by decide

/-- R181: a statement record is 36 octets long and a pass result 18. -/
theorem test_record_lengths : (statementOctets (7, houseRecord)).length = 36 ∧ (passResultOctets PassResult.reset).length = 18 := by decide

end Sys2Proof.Tests
end

section
/-! What the archive store, the catalog and the relocation engine can undergo, said once. `Work` lists the changes that the blocks make
within an event, `Event` adds the starts and completions of the store's operations and the supply. Every command is a chain of these
(`exec_acts`), so an invariant that each of them keeps is kept by every step. -/

namespace Sys2Proof.Machine

/-! ### What the changes speak of -/

/-- The stripe table with its queues and fronts, the wings, the supply, the mode and the round in hand. -/
structure StoreView where
  stripes : Table Stripe
  freeQueue : List Nat
  dirtyQueue : List Nat
  stalled : List Front
  mark : Option (Nat × Nat)
  wings : Wings
  eraseRequested : Bool
  powered : Bool
  resetLine : Bool
  mode : Mode
  formatted : Bool
  round : Option Round

/-- The store's view of a state. -/
def State.storeView (s : State) : StoreView :=
  { stripes := s.store.stripes, freeQueue := s.store.freeQueue, dirtyQueue := s.store.dirtyQueue, stalled := s.store.stalled,
    mark := s.store.mark, wings := s.store.wings, eraseRequested := s.store.eraseRequested, powered := s.control.powered,
    resetLine := s.control.resetLine, mode := s.control.mode, formatted := s.control.formatted, round := s.relocation.round }

/-- The extents of the PASS_SOURCE stream's snapshot. -/
def State.sourceExtents (s : State) : List Extent := s.streams.passSource.toList.flatMap (·.snapshot)

/-- The tables of the catalog and of intake, the output record, the flash and the PASS_SOURCE stream's snapshot. -/
structure FilesView where
  editions : Table Edition
  objects : Table Object
  descriptors : Table Descriptor
  provisional : Table (List Extent)
  output : List Extent
  flash : Table Cell
  source : List Extent

/-- The tables' view of a state. -/
def State.filesView (s : State) : FilesView :=
  { editions := s.catalog.editions, objects := s.catalog.objects, descriptors := s.intake.descriptors,
    provisional := s.intake.provisional, output := s.passes.output, flash := s.store.flash, source := s.sourceExtents }

/-- The clauses of `TablesOk` on the flash, the catalog and intake. -/
structure FilesOk (s : State) : Prop where
  flash : Memory.wf s.store.flash
  editions : Table.Ordered s.catalog.editions
  handles : ∀ e ∈ s.catalog.editions, e.1 < Config.editions
  objects : Table.Ordered s.catalog.objects
  objectKeys : ∀ e ∈ s.catalog.objects, e.1 = e.2.key.code ∧ e.2.key.inRange
  credits : ∀ e ∈ s.catalog.objects, e.2.contributor ≤ 1023
  descriptors : Table.Ordered s.intake.descriptors
  numbers : ∀ e ∈ s.intake.descriptors, e.1 < Config.descriptors
  deposits : ∀ e ∈ s.intake.descriptors, e.2.key.inRange ∧ e.2.contributor ≤ 1023
  provisional : Table.Ordered s.intake.provisional
  records : ∀ e ∈ s.intake.provisional, e.1 < Config.descriptors

/-- The catalog and intake change while the store's view stays: no new extent comes in, the PASS_SOURCE stream takes its snapshot from
the extents there are, and the tables keep their form. -/
structure Refiled (s t : State) : Prop where
  store : t.storeView = s.storeView
  extents : ∀ e ∈ t.liveExtents, e ∈ s.liveExtents
  source : ∀ e ∈ t.sourceExtents, e ∈ s.sourceExtents ∨ e ∈ s.liveExtents
  files : FilesOk s → FilesOk t

/-- A copy as a look makes it: of an extent of the catalog, with nothing copied and no destination. -/
def FreshCopy (s : State) (c : Copy) : Prop :=
  c.source ∈ s.catalogExtents ∧ c.copied = 0 ∧ c.dest = none ∧ c.step = .fetchLow ∧ c.request = .pending

/-- The step of a copy that fetches on a wing. -/
def fetchStep : Wing → CopyStep
  | .low => .fetchLow
  | .high => .fetchHigh

/-- The state once the program in flight has completed: the wings idle, the mark cleared, and its stripe's record changed. -/
def programTaken (op : ProgramOp) (g : Stripe → Stripe) (s : State) : State :=
  ({ s with store.wings := .split none none, store.mark := none } : State).mapStripe op.stripe g

/-- The state once the erase in flight has completed: the wings idle, and its stripe out of the dirty queue with its record changed. -/
def eraseTaken (n : Nat) (g : Stripe → Stripe) (s : State) : State :=
  ({ s with store.wings := .split none none, store.dirtyQueue := s.store.dirtyQueue.erase n } : State).mapStripe n g

/-! ### The changes -/

/-- A change that the blocks make within an event. Where `loose` holds, nothing is said of where a stripe
joins the dirty queue, nor of the mode in which a look is made. -/
inductive Work (loose : Prop) : State → State → Prop where
  | refiles {s t : State} (h : Refiled s t) : Work loose s t
  | dies {s : State} (n k : Nat) : Work loose s (liveFalls n k s)
  | falls {s : State} (n : Nat) : Work loose s (s.mapStripe n (fun r => { r with readers := r.readers - 1 }))
  | rises {s : State} (n : Nat) (h : ∃ e ∈ s.liveExtents ++ s.sourceExtents, e.stripe = n) :
      Work loose s (s.mapStripe n (fun r => { r with readers := r.readers + 1 }))
  | opens {s : State} (f : Front) (h : s.frontStripe f = none) (hs : f ∉ s.store.stalled) : Work loose s (openStripe f s)
  | examines {s : State} : Work loose s (examineStalled s)
  | stalls {s : State} (f : Front) (m : s.control.mode ≠ .start) (h : s.frontStripe f = none) (hs : f ∉ s.store.stalled) :
      Work loose s (stall f s)
  | unstalls {s : State} (f : Front) : Work loose s (unstall f s)
  | ceases {s : State} (who : Fetcher) (h : who ≠ .relocation) : Work loose s (detachFetcher who s)
  | leaves {s : State} (f : Front) (h : f ≠ .relocate) : Work loose s (detachFeeder f s)
  | abandons {s : State} : Work loose s ((detachFeeder .relocate (detachFetcher .relocation s)).putRound none)
  | retires {s : State} (n : Nat) (r : Stripe) (hr : (n, r) ∈ s.store.stripes) (hf : r.state = .full) :
      Work loose s (s.mapStripe n (fun r => { r with state := .retired }))
  | joins {s : State} (n kept : Nat) (r : Stripe) (hr : (n, r) ∈ s.store.stripes) (hf : r.state = .full) (hl : r.live = 0)
      (hk : s.store.wings.erasing.isSome = true → loose ∨ 0 < kept) :
      Work loose s { s.mapStripe n (fun r => { r with state := .dirty }) with
        store.dirtyQueue := joinDirty kept n s.store.dirtyQueue }
  | scraps {s : State} (n : Nat) (rest : List Nat) (hq : s.store.dirtyQueue = n :: rest) (he : s.store.wings.erasing = none)
      (hr : s.store.eraseRequested = false) :
      Work loose s (({ s with store.dirtyQueue := rest } : State).mapStripe n (fun r => { r with state := .retired }))
  | asks {s : State} (m : s.control.mode ≠ .start) (hq : s.store.dirtyQueue ≠ []) (he : s.store.wings.erasing = none) :
      Work loose s { s with store.eraseRequested := true }
  | drops {s : State} : Work loose s { s with store.eraseRequested := false }
  | modes {s : State} (m : Mode) (h : s.control.mode ≠ .start) (hm : m ≠ .start) : Work loose s { s with control.mode := m }
  | closes {s : State} (n : Nat) (r : Stripe) (c : Copy) (hr : (n, r) ∈ s.store.stripes) (ho : r.state = .opened .relocate)
      (hp : s.programInFlight .relocate = false) (hc : s.copy = some c) (hz : c.copied = 0)
      (hfew : Config.leavesPerStripe - r.written < c.source.count) :
      Work loose s (s.mapStripe n (fun r => { r with state := .full }))
  | presents {s : State} (n : Nat) (q : Stripe) (r : Round) (c : Copy) (hr : s.relocation.round = some r) (hc : r.copy = some c)
      (hst : c.step = .program) (hq : c.request = .none) (hp : s.programInFlight .relocate = false)
      (hf : s.frontStripe .relocate = some (n, q)) (hroom : c.copied = 0 → q.written = 0 ∨ c.source.count ≤ Config.leavesPerStripe - q.written) :
      Work loose s (s.putRound (some { r with copy := some { c with
        dest := (match c.dest with | some d => some d | none => some (n, q.written)), request := .pending } }))
  | astray {s : State} (m n : Nat) (p q : Stripe) (r : Round) (c : Copy) (hm : (m, p) ∈ s.store.stripes)
      (ho : p.state = .opened .relocate) (hn : (n, q) ∈ (s.mapStripe m (fun r => { r with state := .full })).store.stripes)
      (hq : q.state = .opened .relocate) (hr : s.relocation.round = some r) (hc : r.copy = some c) :
      Work loose s ((s.mapStripe m (fun r => { r with state := .full })).putRound (some { r with copy := some { c with
        dest := (match c.dest with | some d => some d | none => some (n, q.written)), request := .pending } }))
  | looks {s : State} (x : Option Round) (m : loose ∨ s.control.mode ≠ .start ∨ x = none)
      (hc : ∀ c, s.copy = some c → c.request ≠ .inFlight) (hx : ∀ y ∈ x, ∀ c ∈ y.copy, FreshCopy s c) :
      Work loose s (s.putRound x)
  | goes {s : State} (hc : ∀ c, s.copy = some c → c.request = .pending) :
      Work loose s (mapCopy (fun c => { c with request := .inFlight }) s)

/-- A change of an event: the blocks' work, the start or the completion of an operation of the store, or the supply's. -/
inductive Event (loose : Prop) : State → State → Prop where
  | work {s t : State} (h : Work loose s t) : Event loose s t
  | fetches {s : State} (w : Wing) (op : FetchOp) (m : s.control.mode ≠ .start) (hi : s.idle w = true)
      (ho : op.owner = .relocation → ∃ c, s.copy = some c ∧ c.request = .inFlight ∧
        c.step = fetchStep w) :
      Event loose s (putFetch w op s)
  | programs {s : State} (r : Stripe) (op : ProgramOp) (m : s.control.mode ≠ .start) (hi : s.store.wings = .split none none)
      (hf : s.frontStripe op.front = some (op.stripe, r)) (hp : op.place = r.written) (hn : op.ceased = false)
      (hc : op.front = .relocate → ∃ c, s.copy = some c ∧ c.step = .program ∧ c.request = .inFlight) :
      Event loose s { s with store.wings := .both (.program op), store.mark := some (op.stripe, op.place) }
  | erases {s : State} (n : Nat) (rest : List Nat) (m : s.control.mode ≠ .start) (hi : s.store.wings = .split none none)
      (hq : s.store.dirtyQueue = n :: rest) :
      Event loose s { s with store.wings := .both (.erase n), store.eraseRequested := false }
  | fetched {s t : State} (w : Wing) (op : FetchOp) (h : takeFetch w s = some (op, t)) : Event loose s t
  | buffers {s t : State} (w : Wing) (op : FetchOp) (body : List Octet) (h : takeFetch w s = some (op, t))
      (ho : op.owner = .relocation) : Event loose s (copyFetched w body t)
  | spoils {s t : State} (w : Wing) (op : FetchOp) (h : takeFetch w s = some (op, t)) (ho : op.owner = .relocation) :
      Event loose s (t.putRound none)
  | finishes {s : State} (op : ProgramOp) (g : Stripe → Stripe) (hw : s.store.wings = .both (.program op))
      (hg : g = writtenStripe ∨ g = failedStripe) (hc : op.ceased = true ∨ op.front ≠ .relocate ∨ s.copy = none) :
      Event loose s (programTaken op g s)
  | records {s : State} (op : ProgramOp) (n : Nat) (d : Descriptor) (hw : s.store.wings = .both (.program op))
      (hf : op.front ≠ .relocate) (hn : s.descriptor n = some d) :
      Event loose s (liveRises op.stripe 1 { programTaken op writtenStripe s with
        intake.provisional := tput s.intake.provisional n (recordLeaf (s.provisional n) op.stripe op.place) })
  | outputs {s : State} (op : ProgramOp) (hw : s.store.wings = .both (.program op)) (hf : op.front ≠ .relocate) :
      Event loose s (liveRises op.stripe 1 { programTaken op writtenStripe s with
        passes.output := recordLeaf s.passes.output op.stripe op.place })
  | copies {s : State} (op : ProgramOp) (r : Round) (c : Copy) (hw : s.store.wings = .both (.program op))
      (hf : op.front = .relocate) (hn : op.ceased = false) (hr : s.relocation.round = some r) (hc : r.copy = some c)
      (hmore : c.copied + 1 ≠ c.source.count) :
      Event loose s ((programTaken op writtenStripe s).putRound (some { r with copy := some { c with
        copied := c.copied + 1, request := .pending, low := [], high := [], step := .fetchLow } }))
  | commits {s : State} (op : ProgramOp) (r : Round) (c : Copy) (d : Nat × Nat) (o : Object)
      (hw : s.store.wings = .both (.program op)) (hf : op.front = .relocate) (hn : op.ceased = false)
      (hr : s.relocation.round = some r) (hc : r.copy = some c) (hlast : c.copied + 1 = c.source.count) (hd : c.dest = some d)
      (ho : s.object c.key = some o) :
      Event loose s ((commit c d (programTaken op writtenStripe s)).putRound (some { r with copy := none }))
  | ends {s : State} (op : ProgramOp) (g : Stripe → Stripe) (r : Round) (hw : s.store.wings = .both (.program op))
      (hg : g = writtenStripe ∨ g = failedStripe) (hr : s.relocation.round = some r) :
      Event loose s ((programTaken op g s).putRound (some { r with copy := none }))
  | restarts {s : State} (op : ProgramOp) (r : Round) (c : Copy) (hw : s.store.wings = .both (.program op))
      (hr : s.relocation.round = some r) (hc : r.copy = some c) :
      Event loose s ((programTaken op failedStripe s).putRound (some { r with copy := some { c with
        copied := 0, dest := none, low := [], high := [], step := .fetchLow, request := .pending } }))
  | erased {s : State} (n : Nat) (hw : s.store.wings = .both (.erase n)) :
      Event loose s { eraseTaken n erasedStripe s with store.freeQueue := s.store.freeQueue ++ [n] }
  | wears {s : State} (n : Nat) (hw : s.store.wings = .both (.erase n)) :
      Event loose s (eraseTaken n (fun r => { r with state := .retired }) s)
  | cuts {s : State} (p q : Bool) :
      Event loose s { loseVolatile s with control.powered := p, control.resetLine := q }
  | supplies {s : State} (p q : Bool) (m : Mode) (h : s.running = false) (hm : m = s.control.mode ∨ m = .start) :
      Event loose s { s with control.powered := p, control.resetLine := q, control.mode := m }
  | formats {s : State} (m : s.control.mode = .start) : Event loose s (format s)
  | recovers {s : State} (m : s.control.mode = .start) : Event loose s (recoverStore s)
  | begins {s : State} (m : Mode) (h : s.control.mode = .start) (hm : m ≠ .start) (hr : s.running = true)
      (hf : s.control.formatted = true) (hk : s.store.mark = none) : Event loose s { s with control.mode := m }

/-- A chain of the blocks' changes. -/
abbrev Works (loose : Prop) : State → State → Prop := Relation.ReflTransGen (Work loose)

/-- A chain of an event's changes. -/
abbrev Acts (loose : Prop) : State → State → Prop := Relation.ReflTransGen (Event loose)

end Sys2Proof.Machine
end

section
namespace Sys2Proof.Machine

variable {loose : Prop} {s t : State}

/-! ### Chains -/

theorem Works.one (h : Work loose s t) : Works loose s t := .single h

theorem Works.trans {u : State} (h : Works loose s t) (k : Works loose t u) : Works loose s u := Relation.ReflTransGen.trans h k

theorem Acts.trans {u : State} (h : Acts loose s t) (k : Acts loose t u) : Acts loose s u := Relation.ReflTransGen.trans h k

/-- A change that neither view shows. -/
theorem Refiled.of_eq (hs : t.storeView = s.storeView) (hf : t.filesView = s.filesView) : Refiled s t := by
  simp only [State.filesView, FilesView.mk.injEq] at hf
  obtain ⟨he, ho, hd, hp, hu, hm, hx⟩ := hf
  refine ⟨hs, fun e h => ?_, fun e h => .inl (hx ▸ h), fun k => ?_⟩
  · simpa only [State.liveExtents, State.catalogExtents, ho, hp, hu] using h
  · obtain ⟨a, b, c, d, e, f, g, i, j, l, m⟩ := k
    constructor <;> simp only [he, ho, hd, hp, hm] <;> assumption

theorem Works.aside (hs : t.storeView = s.storeView) (hf : t.filesView = s.filesView) : Works loose s t :=
  .one (.refiles (.of_eq hs hf))

/-- A chain after a change that neither view shows. -/
theorem Works.behind {u : State} (h : Works loose t u) (hs : t.storeView = s.storeView) (hf : t.filesView = s.filesView) :
    Works loose s u := (Works.aside hs hf).trans h

theorem Works.of_eq (h : t = s) : Works loose s t := h ▸ .refl

theorem Works.acts (h : Works loose s t) : Acts loose s t := h.lift id (fun _ _ => .work)

theorem Acts.one (h : Event loose s t) : Acts loose s t := .single h

/-- A fold of changes. -/
theorem Works.foldl {α : Type} (g : State → α → State) (h : ∀ s a, Works loose s (g s a)) (l : List α) (s : State) :
    Works loose s (l.foldl g s) := by
  induction l generalizing s with
  | nil => exact .refl
  | cons a l ih => exact (h s a).trans (ih _)

/-! ### Links, notices and the ledger -/

theorem notify_works (n : Notice) (p : Port) (s : State) : Works loose s (notify n p s) := .aside rfl rfl
theorem notifyAll_works (n : Notice) (ps : List Port) (s : State) : Works loose s (notifyAll n ps s) :=
  .foldl _ (fun s p => notify_works n p s) ps s
theorem reply_works (p : Port) (tag : Octet) (a : Answer) (s : State) : Works loose s (reply p tag a s) := .aside rfl rfl
theorem refuse_works (p : Port) (tag : Octet) (st : Status) (s : State) : Works loose s (refuse p tag st s) := by
  unfold refuse; simp only; split <;> exact .aside rfl rfl
theorem transmit_works (p : Port) (s : State) : Works loose s (transmit p s) := by
  obtain ⟨l, h⟩ := transmit_links p s
  rw [h]; exact .aside rfl rfl
theorem transmitAll_works (s : State) : Works loose s (transmitAll s) := by
  obtain ⟨l, h⟩ := transmitAll_links s
  rw [h]; exact .aside rfl rfl
theorem holdFor_works (p : Port) (s : State) : Works loose s (holdFor p s) := .aside rfl rfl
theorem judgeConditions_works (s : State) : Works loose s (judgeConditions s) := by
  unfold judgeConditions; split <;> exact .aside rfl rfl
theorem putAccount_works (id : Nat) (a : Account) (s : State) : Works loose s (s.putAccount id a) := .aside rfl rfl
theorem putContributor_works (id : Nat) (c : Contributor) (s : State) : Works loose s (s.putContributor id c) := .aside rfl rfl
theorem putPortStreams_works (p : Port) (x : PortStreams) (s : State) : Works loose s (s.putPortStreams p x) := .aside rfl rfl
theorem mapActive_works (p : Port) (g : Stream → Stream) (s : State) : Works loose s (mapActive p g s) := by
  unfold mapActive; simp only; split
  · exact .refl
  · exact putPortStreams_works _ _ _

/-! ### The stripe table -/

theorem liveFalls_works (n k : Nat) (s : State) : Works loose s (liveFalls n k s) := .one (.dies n k)
theorem extentsDie_works (es : List Extent) (s : State) : Works loose s (extentsDie es s) :=
  .foldl _ (fun s (e : Extent) => liveFalls_works e.stripe e.count s) es s
theorem readersFall_works (es : List Extent) (s : State) : Works loose s (readersFall es s) :=
  .foldl _ (fun _ n => .one (.falls n)) _ s

/-- The readers of extents that there are rise. -/
theorem readersRise_works (es : List Extent) (s : State) (h : ∀ e ∈ es, e ∈ s.liveExtents ++ s.sourceExtents) :
    Works loose s (readersRise es s) := by
  have hn : ∀ n ∈ snapshotStripes es, ∃ e ∈ s.liveExtents ++ s.sourceExtents, e.stripe = n := by
    intro n hn
    obtain ⟨e, he, rfl⟩ := List.mem_map.1 (List.mem_dedup.1 hn)
    exact ⟨e, h e he, rfl⟩
  unfold readersRise
  generalize snapshotStripes es = l at hn
  induction l generalizing s with
  | nil => exact .refl
  | cons n l ih =>
    refine .head (.rises n (hn n (by simp))) (ih _ h fun k hk => ?_)
    exact hn k (by simp [hk])

theorem unstall_works (f : Front) (s : State) : Works loose s (unstall f s) := .one (.unstalls f)
theorem detachFetcher_works (who : Fetcher) (h : who ≠ .relocation) (s : State) : Works loose s (detachFetcher who s) :=
  .one (.ceases who h)
theorem detachFeeder_works (f : Front) (h : f ≠ .relocate) (s : State) : Works loose s (detachFeeder f s) := .one (.leaves f h)

/-! ### Streams -/

theorem endStream_works (p : Port) (st : Stream) (k : StreamKind) (final : Option Status) (s : State) :
    Works loose s (endStream p st k final s) := by
  have h : Works loose s (readersFall st.snapshot (if st.fetch = .inFlight then detachFetcher (.stream p) s else s)) := by
    refine .trans ?_ (readersFall_works _ _)
    split
    · exact detachFetcher_works _ (by simp) s
    · exact .refl
  unfold endStream
  cases final <;> exact h.trans (putPortStreams_works _ _ _)

theorem heldFalls_works (a n : Nat) (s : State) : Works loose s (heldFalls a n s) := .aside rfl rfl

theorem releaseOrder_works (p : Port) (st : Stream) (o : OrderPart) (c : ReleaseCause) (e : Bool) (s : State) :
    Works loose s (releaseOrder p st o c e s) := (heldFalls_works _ _ s).trans (endStream_works _ _ _ _ _)

theorem cutStream_works (p : Port) (st : Stream) (x : Status) (c : ReleaseCause) (s : State) :
    Works loose s (cutStream p st x c s) := by
  unfold cutStream; split
  · exact releaseOrder_works _ _ _ _ _ s
  · exact endStream_works _ _ _ _ s

theorem releaseOrders_works (pick : Stream → OrderPart → Bool) (c : ReleaseCause) (sts : List Stream) (s : State) :
    Works loose s (releaseOrders pick c sts s) := by
  refine .foldl _ (fun s st => ?_) sts s
  split
  · split
    · exact releaseOrder_works _ _ _ _ _ s
    · exact .refl
  · exact .refl

theorem resetStreams_works (p : Port) (s : State) : Works loose s (resetStreams p s) := by
  refine Works.trans (.foldl _ (fun s st => ?_) _ s) (putPortStreams_works _ _ _)
  split
  · exact releaseOrder_works _ _ _ _ _ s
  · exact endStream_works _ _ _ _ s

theorem chargeOrder_works (o : OrderPart) (s : State) : Works loose s (chargeOrder o s) := by
  have hc : ∀ t : State, Works loose t (countPhotoOrder (photoContributor o.breakdown) t) := by
    intro t; unfold countPhotoOrder; split
    · exact .refl
    · exact putContributor_works _ _ _
  refine Works.trans ((putAccount_works _ _ s).trans ((Works.foldl (fun s e => accrue e s) (fun s e => ?_) _ _).trans (hc _)))
    (.aside rfl rfl)
  exact putContributor_works _ _ _

theorem completeStream_works (p : Port) (st : Stream) (s : State) : Works loose s (completeStream p st s) := by
  unfold completeStream; split
  · exact (chargeOrder_works _ s).trans (endStream_works _ _ _ _ _)
  · exact (endStream_works _ _ _ _ _).behind rfl rfl

theorem creditFrame_works (p : Port) (id n : Nat) (s : State) : Works loose s (creditFrame p id n s) := by
  unfold creditFrame; simp only; split
  · split
    · exact (putPortStreams_works _ _ s).trans (completeStream_works _ _ _)
    · exact putPortStreams_works _ _ s
  · exact putPortStreams_works _ _ s

/-- A stream takes its snapshot from the extents there are. -/
theorem acceptStream_works (p : Port) (st : Stream) (s : State) (h : ∀ e ∈ st.snapshot, e ∈ s.liveExtents) :
    Works loose s (acceptStream p st s) :=
  (readersRise_works _ s (fun e he => List.mem_append_left _ (h e he))).trans (putPortStreams_works _ _ _)

/-! ### The catalog -/

theorem putEdition_works {h : Nat} {e : Edition} {s : State} (hh : FilesOk s → h < Config.editions) :
    Works loose s (s.putEdition h e) := by
  refine .one (.refiles ⟨rfl, fun _ k => k, fun _ k => .inl k, fun k => ?_⟩)
  refine { k with editions := ordered_tput k.editions _ _, handles := fun x hx => ?_ }
  rcases mem_tput hx with rfl | hx
  · exact hh k
  · exact k.handles x hx

/-- A listed record is under its key. -/
theorem mem_of_tget {α : Type} {t : Table α} {k : Nat} {v : α} (h : tget t k = some v) : (k, v) ∈ t := by
  induction t with
  | nil => cases h
  | cons e rest ih =>
    obtain ⟨j, w⟩ := e
    simp only [tget] at h
    split at h
    · rename_i hj; cases h; simp [hj]
    · simp [ih h]

theorem edition_handle_lt {h : Nat} {e : Edition} (he : s.edition h = some e) (k : FilesOk s) : h < Config.editions :=
  k.handles (h, e) (mem_of_tget he)

theorem publish_works (h : Nat) (s : State) : Works loose s (publish h s) := by
  unfold publish; split
  · exact .refl
  · rename_i e he
    exact (putEdition_works (edition_handle_lt he)).trans (notifyAll_works _ _ _)

theorem returnToOpen_works (h : Nat) (s : State) : Works loose s (returnToOpen h s) := by
  unfold returnToOpen; split
  · exact .refl
  · rename_i e he
    split
    · exact putEdition_works (edition_handle_lt he)
    · exact .refl

theorem see_handle_lt {p : Port} {h : Nat} {e : Edition} (he : s.see p h = .ok e) (k : FilesOk s) : h < Config.editions := by
  unfold State.see at he
  split at he
  · cases he
  · rename_i e' he'; exact edition_handle_lt he' k

/-- The extents of the catalog, of the provisional records and of the output record. -/
theorem mem_liveExtents {e : Extent} : e ∈ s.liveExtents ↔
    (∃ x ∈ s.catalog.objects, ∃ v ∈ x.2.versions, e ∈ v.extents) ∨ (∃ x ∈ s.intake.provisional, e ∈ x.2) ∨
      e ∈ s.passes.output := by
  simp [State.liveExtents, State.catalogExtents, List.mem_flatMap]

end Sys2Proof.Machine
end

section
namespace Sys2Proof.Machine

variable {loose : Prop} {s t : State}

/-! ### Objects -/

theorem object_inRange {k : Key} {o : Object} (h : s.object k = some o) (f : FilesOk s) :
    o.key.inRange ∧ o.contributor ≤ 1023 :=
  have m := mem_of_tget h
  ⟨(f.objectKeys _ m).2, f.credits _ m⟩

theorem object_extents {k : Key} {o : Object} (h : s.object k = some o) {v : Version} (hv : v ∈ o.versions) {e : Extent}
    (he : e ∈ v.extents) : e ∈ s.liveExtents := mem_liveExtents.2 (.inl ⟨_, mem_of_tget h, v, hv, he⟩)

/-- An object whose extents there are is set under its key. -/
theorem putObject_works {o : Object} {s : State} (ho : FilesOk s → o.key.inRange ∧ o.contributor ≤ 1023)
    (hx : ∀ v ∈ o.versions, ∀ e ∈ v.extents, e ∈ s.liveExtents) : Works loose s (s.putObject o) := by
  refine .one (.refiles ⟨rfl, fun e he => ?_, fun _ k => .inl k, fun k => ?_⟩)
  · rcases mem_liveExtents.1 he with ⟨x, hm, v, hv, hev⟩ | he
    · rcases mem_tput hm with rfl | hm
      · exact hx v hv e hev
      · exact mem_liveExtents.2 (.inl ⟨x, hm, v, hv, hev⟩)
    · exact mem_liveExtents.2 (.inr he)
  · refine { k with objects := ordered_tput k.objects _ _, objectKeys := fun x hm => ?_, credits := fun x hm => ?_ }
    · rcases mem_tput hm with rfl | hm
      · exact ⟨rfl, (ho k).1⟩
      · exact k.objectKeys x hm
    · rcases mem_tput hm with rfl | hm
      · exact (ho k).2
      · exact k.credits x hm

/-- A version's record changes but for its extents. -/
theorem mapVersion_extents {number serial : Nat} {g : Version → Version} (hg : ∀ v, (g v).extents = v.extents) {o : Object}
    {v : Version} (hv : v ∈ (mapVersion number serial g o).versions) : ∃ u ∈ o.versions, v.extents = u.extents := by
  obtain ⟨u, hu, rfl⟩ := List.mem_map.1 hv
  refine ⟨u, hu, ?_⟩
  split
  · exact hg u
  · rfl

theorem markDamaged_works {k : Key} {number serial : Nat} (h : markDamaged k number serial s = some t) : Works loose s t := by
  unfold markDamaged at h
  split at h
  · rename_i o v ho hv
    split at h
    · cases h
    · cases h
      refine Works.trans (putObject_works (fun k => ?_) fun v hv e he => ?_) (notifyAll_works _ _ (s.putObject _))
      · have r := object_inRange ho k
        exact r
      · obtain ⟨u, hu, heq⟩ := mapVersion_extents (g := fun v => { v with damaged := true }) (fun _ => rfl) hv
        exact object_extents ho hu (heq ▸ he)
  · cases h

/-- The tables of objects and descriptors lose entries, or change in what no key and no extent shows. -/
theorem shrinks_works {objects : Table Object} {descriptors : Table Descriptor} {s : State}
    (ho : Table.Ordered s.catalog.objects → Table.Ordered objects)
    (hm : ∀ x ∈ objects, ∃ y ∈ s.catalog.objects, x.1 = y.1 ∧ x.2.key = y.2.key ∧ x.2.contributor = y.2.contributor ∧
      x.2.versions = y.2.versions)
    (hd : Table.Ordered s.intake.descriptors → Table.Ordered descriptors)
    (hn : ∀ x ∈ descriptors, ∃ y ∈ s.intake.descriptors, x.1 = y.1 ∧ x.2.key = y.2.key ∧ x.2.contributor = y.2.contributor) :
    Works loose s { s with catalog.objects := objects, intake.descriptors := descriptors } := by
  refine .one (.refiles ⟨rfl, fun e he => ?_, fun _ k => .inl k, fun k => ?_⟩)
  · rcases mem_liveExtents.1 he with ⟨x, hx, v, hv, hev⟩ | he
    · obtain ⟨y, hy, -, -, -, hvs⟩ := hm x hx
      exact mem_liveExtents.2 (.inl ⟨y, hy, v, hvs ▸ hv, hev⟩)
    · exact mem_liveExtents.2 (.inr he)
  · refine { k with
      objects := ho k.objects, descriptors := hd k.descriptors
      objectKeys := fun x hx => ?_, credits := fun x hx => ?_, numbers := fun x hx => ?_, deposits := fun x hx => ?_ }
    · obtain ⟨y, hy, h1, h2, -, -⟩ := hm x hx
      rw [h1, h2]; exact k.objectKeys y hy
    · obtain ⟨y, hy, -, -, h3, -⟩ := hm x hx
      rw [h3]; exact k.credits y hy
    · obtain ⟨y, hy, h1, -, -⟩ := hn x hx
      rw [h1]; exact k.numbers y hy
    · obtain ⟨y, hy, -, h2, h3⟩ := hn x hx
      rw [h2, h3]; exact k.deposits y hy

/-- The descriptors change in what no key shows. -/
theorem mapDescriptors_works (g : Descriptor → Descriptor)
    (h : ∀ d, (g d).key = d.key ∧ (g d).contributor = d.contributor) (s : State) :
    Works loose s { s with intake.descriptors := s.intake.descriptors.map (fun e => (e.1, g e.2)) } := by
  refine shrinks_works (objects := s.catalog.objects) id (fun x hx => ⟨x, hx, rfl, rfl, rfl, rfl⟩)
    (fun k => ordered_mapValues k _) (fun x hx => ?_)
  obtain ⟨y, hy, rfl⟩ := List.mem_map.1 hx
  exact ⟨y, hy, rfl, (h y.2).1, (h y.2).2⟩

theorem freeDescriptor_works (n : Nat) (s : State) : Works loose s (freeDescriptor n s) :=
  shrinks_works (objects := s.catalog.objects) id (fun x hx => ⟨x, hx, rfl, rfl, rfl, rfl⟩)
    (fun k => ordered_tdel k n) (fun x hx => ⟨x, mem_tdel hx, rfl, rfl, rfl⟩)

theorem putDescriptor_works {n : Nat} {d : Descriptor} {s : State}
    (h : FilesOk s → n < Config.descriptors ∧ d.key.inRange ∧ d.contributor ≤ 1023) : Works loose s (s.putDescriptor n d) := by
  refine .one (.refiles ⟨rfl, fun _ k => k, fun _ k => .inl k, fun k => ?_⟩)
  refine { k with descriptors := ordered_tput k.descriptors _ _, numbers := fun x hx => ?_, deposits := fun x hx => ?_ }
  · rcases mem_tput hx with rfl | hx
    · exact (h k).1
    · exact k.numbers x hx
  · rcases mem_tput hx with rfl | hx
    · exact (h k).2
    · exact k.deposits x hx

/-- A held descriptor's number, key and contributor are in range. -/
theorem descriptor_inRange {n : Nat} {d : Descriptor} (h : s.descriptor n = some d) (f : FilesOk s) :
    n < Config.descriptors ∧ d.key.inRange ∧ d.contributor ≤ 1023 :=
  have m := mem_of_tget h
  ⟨f.numbers _ m, f.deposits _ m⟩

theorem foldl_intake {α : Type} (g : State → α → State) (h : ∀ s a, (g s a).intake = s.intake) (l : List α) (s : State) :
    (l.foldl g s).intake = s.intake := by
  induction l generalizing s with
  | nil => rfl
  | cons a l ih => rw [List.foldl_cons, ih, h]

@[simp] theorem extentsDie_intake (es : List Extent) (s : State) : (extentsDie es s).intake = s.intake :=
  foldl_intake (fun s (e : Extent) => liveFalls e.stripe e.count s) (fun _ _ => rfl) es s

theorem removeObject_works (o : Object) (s : State) : Works loose s (removeObject o s) := by
  have h : Works loose s (o.versions.foldl (fun s v => extentsDie v.extents s) s) :=
    .foldl (fun s (v : Version) => extentsDie v.extents s) (fun s v => extentsDie_works v.extents s) _ s
  unfold removeObject
  generalize o.versions.foldl (fun s v => extentsDie v.extents s) s = t at h
  refine h.trans ?_
  simp only
  split
  · exact shrinks_works (descriptors := t.intake.descriptors) (fun k => ordered_tdel k _)
      (fun x hx => ⟨x, mem_tdel hx, rfl, rfl, rfl, rfl⟩) id (fun x hx => ⟨x, hx, rfl, rfl, rfl⟩)
  · refine shrinks_works (fun k => ordered_mapValues (ordered_tdel k _) _) (fun x hx => ?_)
      (fun k => ordered_mapValues k _) (fun x hx => ?_)
    · obtain ⟨y, hy, rfl⟩ := List.mem_map.1 hx
      exact ⟨y, mem_tdel hy, rfl, rfl, rfl, rfl⟩
    · obtain ⟨y, hy, rfl⟩ := List.mem_map.1 hx
      exact ⟨y, hy, rfl, rfl, rfl⟩

theorem removeObjects_works (h : Nat) (s : State) : Works loose s (removeObjects h s) :=
  .foldl _ (fun s o => removeObject_works o s) _ s

theorem removeVersion_works {k : Key} {o : Object} (v : Version) (ho : s.object k = some o) :
    Works loose s (removeVersion o v s) := by
  have hc : (extentsDie v.extents s).catalog = s.catalog := by
    unfold extentsDie
    exact List.foldlRecOn (motive := fun t : State => t.catalog = s.catalog) _ _ rfl (fun t ht _ _ => ht)
  have ho' : (extentsDie v.extents s).object k = some o := by unfold State.object; rw [hc]; exact ho
  unfold removeVersion
  simp only
  split
  · exact (extentsDie_works _ s).trans (removeObject_works _ _)
  · refine (extentsDie_works _ s).trans (putObject_works (fun f => ?_) fun u hu e he => ?_)
    · have r := object_inRange ho' f
      exact r
    · exact object_extents ho' (List.mem_filter.1 hu).1 he

/-! ### Intake -/

theorem spaceCheck_works (s : State) : Works loose s (spaceCheck s) := by
  unfold spaceCheck; simp only; split
  · exact .refl
  · exact (notifyAll_works _ _ _).behind rfl rfl

/-- The leaves of a provisional record become those of an object, whose descriptor is freed. -/
theorem enters_works {n : Nat} {d : Descriptor} (hd : (n, d) ∈ s.intake.descriptors) :
    Works loose s (freeDescriptor n { takeSerial (s.putObject (enteredObject d (s.provisional n) s)) with
      intake.provisional := tdel s.intake.provisional n }) := by
  have hp : ∀ e ∈ s.provisional n, e ∈ s.liveExtents := by
    intro e he
    cases h : tget s.intake.provisional n with
    | none => simp [State.provisional, h] at he
    | some es => exact mem_liveExtents.2 (.inr (.inl ⟨_, mem_of_tget h, by simpa [State.provisional, h] using he⟩))
  refine .trans (.trans (putObject_works (o := enteredObject d (s.provisional n) s) (fun k => k.deposits _ hd) ?_) ?_)
    (freeDescriptor_works n _)
  · intro v hv e he
    simp only [enteredObject, List.mem_singleton] at hv
    subst hv
    exact hp e he
  · refine .one (.refiles ⟨rfl, fun e he => ?_, fun _ k => .inl k, fun k => ?_⟩)
    · rcases mem_liveExtents.1 he with he | ⟨x, hx, he⟩ | he
      · exact mem_liveExtents.2 (.inl he)
      · exact mem_liveExtents.2 (.inr (.inl ⟨x, mem_tdel hx, he⟩))
      · exact mem_liveExtents.2 (.inr (.inr he))
    · exact { k with provisional := ordered_tdel k.provisional n, records := fun x hx => k.records x (mem_tdel hx) }

theorem enterObject_works {n : Nat} {d : Descriptor} (hd : (n, d) ∈ s.intake.descriptors) :
    Works loose s (enterObject n d s) := by
  have h := (enters_works (loose := loose) hd).trans (mapDescriptors_works
    (fun x => { x with waits := x.waits.filter (fun k => k != d.key) }) (fun _ => ⟨rfl, rfl⟩) _)
  unfold enterObject
  simp only
  split
  · exact h
  · rename_i e he
    have h' := h.trans (putEdition_works (e := countEntry d.key.kind e) (edition_handle_lt he))
    split
    · exact h'.trans (publish_works _ _)
    · exact h'

theorem enterReady_works (n : Nat) (s : State) : Works loose s (enterReady n s) := by
  induction n generalizing s with
  | zero => exact .refl
  | succ n ih =>
    unfold enterReady; split
    · exact .refl
    · rename_i k d h
      exact (enterObject_works (List.mem_of_find?_eq_some h)).trans (ih _)

theorem cutRun_works (n : Nat) (s : State) : Works loose s (cutRun n s) := by
  unfold cutRun; split
  · split
    · refine Works.trans ?_ (unstall_works _ _)
      exact (detachFeeder_works .intake (by simp) _).behind rfl rfl
    · exact .refl
  · exact .refl

@[simp] theorem detachFeeder_intake (f : Front) (s : State) : (detachFeeder f s).intake = s.intake := by
  unfold detachFeeder; split
  · split <;> rfl
  · rfl

@[simp] theorem cutRun_descriptors (n : Nat) (s : State) : (cutRun n s).intake.descriptors = s.intake.descriptors := by
  unfold cutRun; split
  · split
    · rw [unstall_intake, detachFeeder_intake]
    · rfl
  · rfl

theorem dropProvisional_works (n : Nat) (s : State) :
    Works loose s { s with intake.provisional := tdel s.intake.provisional n } := by
  refine .one (.refiles ⟨rfl, fun e he => ?_, fun _ k => .inl k, fun k => ?_⟩)
  · rcases mem_liveExtents.1 he with he | ⟨x, hx, he⟩ | he
    · exact mem_liveExtents.2 (.inl he)
    · exact mem_liveExtents.2 (.inr (.inl ⟨x, mem_tdel hx, he⟩))
    · exact mem_liveExtents.2 (.inr (.inr he))
  · exact { k with provisional := ordered_tdel k.provisional n, records := fun x hx => k.records x (mem_tdel hx) }

/-- A drop: of a descriptor that is held, where it is kept as DROPPED. -/
theorem dropCore_works {keep : Bool} {n : Nat} {d : Descriptor} (h : keep = true → s.descriptor n = some d) :
    Works loose s (dropCore keep n d s) := by
  have hcut : Works loose s (cutRun n { extentsDie (s.provisional n) s with
      intake.provisional := tdel (extentsDie (s.provisional n) s).intake.provisional n }) :=
    ((extentsDie_works _ s).trans (dropProvisional_works n _)).trans (cutRun_works n _)
  have hds : (cutRun n { extentsDie (s.provisional n) s with
      intake.provisional := tdel (extentsDie (s.provisional n) s).intake.provisional n }).intake.descriptors
        = s.intake.descriptors := by rw [cutRun_descriptors]; simp
  unfold dropCore
  simp only
  generalize cutRun n _ = t at hcut hds
  refine Works.trans (t := if d.state = .ended then returnToOpen d.key.handle _ else _) (hcut.trans ?_)
    (mapDescriptors_works (unawait d.key) (fun x => ?_) _)
  · have hk : Works loose t (if keep = true then
        t.putDescriptor n { d with state := .dropped, staged := [], waits := [], placements := [] } else freeDescriptor n t) := by
      split
      · rename_i hk
        have hd : t.descriptor n = some d := by unfold State.descriptor; rw [hds]; exact h hk
        exact putDescriptor_works (fun k => have r := descriptor_inRange hd k; r)
      · exact freeDescriptor_works n t
    split
    · exact hk.trans (returnToOpen_works _ _)
    · exact hk
  · unfold unawait; split <;> exact ⟨rfl, rfl⟩

theorem dropDeposit_works {keep : Bool} {n : Nat} {d : Descriptor} (h : keep = true → s.descriptor n = some d) :
    Works loose s (dropDeposit keep n d s) :=
  ((dropCore_works h).trans (enterReady_works _ _)).trans (spaceCheck_works _)

theorem dropDeposits_works (ds : List (Nat × Descriptor)) (s : State) : Works loose s (dropDeposits ds s) := by
  refine .trans (.trans (.foldl _ (fun s e => ?_) ds s) (enterReady_works _ _)) (spaceCheck_works _)
  split
  · exact freeDescriptor_works _ s
  · exact dropCore_works (by simp)

theorem resetDeposits_works (p : Port) (s : State) : Works loose s (resetDeposits p s) :=
  (dropDeposits_works _ s).trans (.aside rfl rfl)

/-! ### Fronts -/

/-- A front that holds no stripe opens the next, or stalls. -/
theorem opens_or_stalls {f : Front} (h : s.frontStripe f = none) (hs : s.isStalled f = false) :
    Works loose s (openStripe f s) ∧ (s.control.mode ≠ .start → Works loose s (stall f s)) := by
  have hn : f ∉ s.store.stalled := by simpa [State.isStalled] using hs
  exact ⟨.one (.opens f h hn), fun m => .one (.stalls f m h hn)⟩

end Sys2Proof.Machine
end

section
namespace Sys2Proof.Machine

variable {loose : Prop} {s t : State}

/-! ### What the blocks' changes leave alone -/

@[simp] theorem ceaseFetch_isSome (who : Fetcher) (op : Option FetchOp) : (ceaseFetch who op).isSome = op.isSome := by
  cases op <;> rfl

/-- The end of a requester changes the owners of fetches alone. -/
theorem detachFetcher_wings (who : Fetcher) (s : State) : ∃ w : Wings, detachFetcher who s = { s with store.wings := w } ∧
    w.erasing = s.store.wings.erasing ∧ w.programmed = s.store.wings.programmed := by
  unfold detachFetcher; split
  · rename_i h; exact ⟨_, rfl, by rw [h]; exact ⟨rfl, rfl⟩⟩
  · exact ⟨s.store.wings, rfl, rfl, rfl⟩

/-- The end of a feeder changes a program's feeder alone. -/
theorem detachFeeder_wings (f : Front) (s : State) : ∃ w : Wings, detachFeeder f s = { s with store.wings := w } ∧
    w.erasing = s.store.wings.erasing ∧ w.programmed = s.store.wings.programmed := by
  unfold detachFeeder; split
  · rename_i h; split
    · exact ⟨_, rfl, by rw [h]; exact ⟨rfl, rfl⟩⟩
    · exact ⟨s.store.wings, rfl, rfl, rfl⟩
  · exact ⟨s.store.wings, rfl, rfl, rfl⟩

/-- A part of the store that the change of a stripe's record, a requester's or a feeder's end, and the fronts leave alone. -/
structure Steady where
  mark : Option (Nat × Nat)
  programmed : Option (Nat × Nat)
  erasing : Option Nat
  powered : Bool
  resetLine : Bool
  formatted : Bool
  inStart : Bool

/-- What every change of the blocks leaves as it is. -/
def State.steady (s : State) : Steady :=
  { mark := s.store.mark, programmed := s.store.wings.programmed, erasing := s.store.wings.erasing, powered := s.control.powered,
    resetLine := s.control.resetLine, formatted := s.control.formatted, inStart := s.control.mode == .start }

theorem steady_of_storeView (h : t.storeView = s.storeView) : t.steady = s.steady := by
  simp only [State.storeView, StoreView.mk.injEq] at h
  obtain ⟨-, -, -, -, hm, hw, -, hp, hl, ho, hf, -⟩ := h
  simp only [State.steady, hm, hw, hp, hl, ho, hf]

@[simp] theorem openStripe_steady (f : Front) (s : State) : (openStripe f s).steady = s.steady := by
  unfold openStripe; split <;> rfl

@[simp] theorem examineStalled_steady (s : State) : (examineStalled s).steady = s.steady := by
  unfold examineStalled
  refine List.foldlRecOn (motive := fun t : State => t.steady = s.steady) _ _ rfl (fun t ht f _ => ?_)
  split
  · exact (openStripe_steady f t).trans ht
  · exact ht

@[simp] theorem detachFetcher_steady (who : Fetcher) (s : State) : (detachFetcher who s).steady = s.steady := by
  obtain ⟨w, h, he, hp⟩ := detachFetcher_wings who s
  rw [h]; simp [State.steady, he, hp]

@[simp] theorem detachFeeder_steady (f : Front) (s : State) : (detachFeeder f s).steady = s.steady := by
  obtain ⟨w, h, he, hp⟩ := detachFeeder_wings f s
  rw [h]; simp [State.steady, he, hp]

@[simp] theorem putRound_steady (x : Option Round) (s : State) : (s.putRound x).steady = s.steady := rfl

@[simp] theorem mapCopy_steady (g : Copy → Copy) (s : State) : (mapCopy g s).steady = s.steady := by
  unfold mapCopy; split <;> rfl

theorem Work.steady (h : Work loose s t) : t.steady = s.steady := by
  cases h with
  | refiles h => exact steady_of_storeView h.store
  | opens f => simp
  | examines => simp
  | ceases who => simp
  | leaves f => simp
  | abandons => simp
  | goes => simp
  | modes m h hm => simp [State.steady, h, hm]
  | _ => rfl

theorem Works.steady (h : Works loose s t) : t.steady = s.steady := by
  induction h with
  | refl => rfl
  | tail _ h ih => rw [h.steady, ih]

theorem Works.mode (h : Works loose s t) : t.control.mode = .start ↔ s.control.mode = .start := by
  have e : (t.control.mode == .start) = (s.control.mode == .start) := congrArg Steady.inStart h.steady
  rw [← beq_iff_eq, e, beq_iff_eq]

theorem Works.erasing (h : Works loose s t) : t.store.wings.erasing = s.store.wings.erasing := congrArg Steady.erasing h.steady

/-! ### Passes -/

/-- The PASS_SOURCE stream takes its snapshot from the extents there are. -/
theorem putSource_works {x : Option Stream} {s : State} (h : ∀ st ∈ x, ∀ e ∈ st.snapshot, e ∈ s.sourceExtents ∨ e ∈ s.liveExtents) :
    Works loose s { s with streams.passSource := x } := by
  refine .one (.refiles ⟨rfl, fun _ k => k, fun e he => ?_, fun k => ?_⟩)
  · obtain ⟨st, hst, he⟩ := List.mem_flatMap.1 he
    exact h st (by simpa using hst) e he
  · obtain ⟨a, b, c, d, e, f, g, i, j, l, m⟩ := k
    exact ⟨a, b, c, d, e, f, g, i, j, l, m⟩

/-- The PASS_SOURCE stream keeps its snapshot. -/
theorem keepSource_works {st st' : Stream} (h : s.streams.passSource = some st) (hs : st'.snapshot = st.snapshot) :
    Works loose s { s with streams.passSource := some st' } := by
  refine putSource_works fun x hx e he => .inl ?_
  cases hx
  simpa [State.sourceExtents, h] using hs ▸ he

theorem endPassSource_works (s : State) : Works loose s (endPassSource s) := by
  unfold endPassSource; split
  · exact .refl
  · rename_i st _
    have h : Works loose s (readersFall st.snapshot (if st.fetch = .inFlight then detachFetcher .passSource s else s)) := by
      refine Works.trans ?_ (readersFall_works _ _)
      split
      · exact detachFetcher_works _ (by simp) s
      · exact .refl
    exact h.trans (putSource_works (by simp))

/-- The output record is emptied. -/
theorem emptyOutput_works (s : State) : Works loose s { s with passes.output := [] } := by
  refine .one (.refiles ⟨rfl, fun e he => ?_, fun _ k => .inl k, fun k => ?_⟩)
  · rcases mem_liveExtents.1 he with he | he | he
    · exact mem_liveExtents.2 (.inl he)
    · exact mem_liveExtents.2 (.inr (.inl he))
    · cases he
  · obtain ⟨a, b, c, d, e, f, g, i, j, l, m⟩ := k
    exact ⟨a, b, c, d, e, f, g, i, j, l, m⟩

theorem stopActive_works (created : Bool) (s : State) : Works loose s (stopActive created s) := by
  have h : Works loose s (unstall .restore (detachFeeder .restore (endPassSource s))) :=
    ((endPassSource_works s).trans (detachFeeder_works _ (by simp) _)).trans (unstall_works _ _)
  unfold stopActive
  cases created
  · exact (h.trans (extentsDie_works _ _)).trans ((emptyOutput_works _).trans (.aside rfl rfl))
  · exact h.trans ((emptyOutput_works _).trans (.aside rfl rfl))

theorem recordResult_works (p : Pass) (o : PassOutcome) (c : Option PassCause) (s : State) :
    Works loose s (recordResult p o c s) := .aside rfl rfl

theorem endActive_works (p : Pass) (o : PassOutcome) (c : Option PassCause) (s : State) :
    Works loose s (endActive p o c s) := (stopActive_works _ s).trans (recordResult_works _ _ _ _)

theorem abortQueued_works (pick : Pass → Bool) (c : PassCause) (s : State) : Works loose s (abortQueued pick c s) := by
  unfold abortQueued
  exact (Works.foldl (fun s p => recordResult p .aborted (some c) s) (fun s p => recordResult_works _ _ _ s) _ _).behind rfl rfl

theorem abortPasses_works (pick : Pass → Bool) (c : PassCause) (s : State) : Works loose s (abortPasses pick c s) := by
  refine Works.trans ?_ (abortQueued_works _ _ _)
  split
  · split
    · exact endActive_works _ _ _ s
    · exact .refl
  · exact .refl

theorem resetPasses_works (s : State) : Works loose s (resetPasses s) := by
  unfold resetPasses; split
  · exact (stopActive_works false s).trans (.aside rfl rfl)
  · exact .aside rfl rfl

/-- An object that a port sees is in the catalog. -/
theorem seeObject_object {p : Port} {w : WireKey} {e : Edition} {o : Object} (h : s.seeObject p w = .ok (e, o)) :
    ∃ k, s.object k = some o := by
  unfold State.seeObject at h
  split at h
  · cases h
  · split at h
    · cases h
    · rename_i k _
      split at h
      · cases h
      · rename_i o' ho
        split at h
        · cases h
        · cases h; exact ⟨k, ho⟩

theorem version_mem {o : Object} {n : Nat} {v : Version} (h : o.version n = some v) : v ∈ o.versions :=
  List.mem_of_find?_eq_some h

theorem best_mem {o : Object} {v : Version} (h : o.best = some v) : v ∈ o.versions :=
  (List.mem_filter.1 (List.mem_of_getLast? h)).1

/-- A chosen version is one of the object's. -/
theorem choose_mem {o : Object} {x : Source} {v : Version} (h : o.choose x = .ok v) : v ∈ o.versions := by
  unfold Object.choose at h
  split at h
  · split at h
    · cases h
    · rename_i b hb; cases h; exact best_mem hb
  · split at h
    · cases h
    · rename_i u hu
      split at h
      · cases h
      · cases h; exact version_mem hu

/-- A pass that passes its checks takes a version of an object of the catalog. -/
theorem passChecks_mem {w : WireKey} {x : Source} {o : Object} {v : Version} (h : s.passChecks w x = .ok (o, v)) :
    (∃ k, s.object k = some o) ∧ v ∈ o.versions := by
  unfold State.passChecks at h
  split at h
  · cases h
  · rename_i e o' hs
    split at h
    · cases h
    · split at h
      · cases h
      · cases h
      · rename_i u hu
        split at h
        · cases h
        · split at h
          · cases h
          · cases h; exact ⟨seeObject_object hs, choose_mem hu⟩

/-- A version's extents are live. -/
theorem version_extents {o : Object} {v : Version} (ho : ∃ k, s.object k = some o) (hv : v ∈ o.versions) :
    ∀ e ∈ v.extents, e ∈ s.liveExtents := fun _ he => ho.elim fun _ h => object_extents h hv he

theorem foldl_stripes_extents {α : Type} (g : State → α → State)
    (h : ∀ s a, (g s a).liveExtents = s.liveExtents ∧ (g s a).sourceExtents = s.sourceExtents) (l : List α) (s : State) :
    (l.foldl g s).liveExtents = s.liveExtents ∧ (l.foldl g s).sourceExtents = s.sourceExtents := by
  induction l generalizing s with
  | nil => exact ⟨rfl, rfl⟩
  | cons a l ih =>
    obtain ⟨h1, h2⟩ := h s a
    obtain ⟨i1, i2⟩ := ih (g s a)
    exact ⟨i1.trans h1, i2.trans h2⟩

theorem readersRise_extents (es : List Extent) (s : State) :
    (readersRise es s).liveExtents = s.liveExtents ∧ (readersRise es s).sourceExtents = s.sourceExtents :=
  foldl_stripes_extents (fun s n => s.mapStripe n _) (fun _ _ => ⟨rfl, rfl⟩) _ s

theorem readersFall_extents (es : List Extent) (s : State) :
    (readersFall es s).liveExtents = s.liveExtents ∧ (readersFall es s).sourceExtents = s.sourceExtents :=
  foldl_stripes_extents (fun s n => s.mapStripe n _) (fun _ _ => ⟨rfl, rfl⟩) _ s

theorem acceptPassSource_works {st : Stream} (h : ∀ e ∈ st.snapshot, e ∈ s.liveExtents) :
    Works loose s (acceptPassSource st s) := by
  refine (readersRise_works _ s (fun e he => List.mem_append_left _ (h e he))).trans (putSource_works fun x hx e he => .inr ?_)
  cases hx
  rw [(readersRise_extents _ s).1]
  exact h e he

theorem startPass_works (p : Pass) (s : State) : Works loose s (startPass p s) := by
  unfold startPass; split
  · exact recordResult_works _ _ _ s
  · rename_i o v h
    obtain ⟨ho, hv⟩ := passChecks_mem h
    have hs := acceptPassSource_works (loose := loose) (st := newStream 0 .passSource p.key v 0 v.length) (version_extents ho hv)
    simp only
    split <;> exact hs.trans (.aside rfl rfl)

theorem startPasses_works (n : Nat) (s : State) : Works loose s (startPasses n s) := by
  induction n generalizing s with
  | zero => exact .refl
  | succ n ih =>
    unfold startPasses; split
    · exact ((startPass_works _ _).trans (ih _)).behind rfl rfl
    · exact .refl

/-- A new PASS_SOURCE stream takes the place of another on its snapshot. -/
theorem swapSource_works {st fresh : Stream} (h : s.streams.passSource = some st) (hs : fresh.snapshot = st.snapshot)
    (a : Option Pass) : Works loose s { readersFall st.snapshot (readersRise st.snapshot s) with
      streams.passSource := some fresh, passes.active := a } := by
  have hst : ∀ e ∈ st.snapshot, e ∈ s.sourceExtents := fun e he => by simpa [State.sourceExtents, h] using he
  refine Works.trans (readersRise_works st.snapshot s (fun e he => List.mem_append_right _ (hst e he))) ?_
  refine Works.trans (readersFall_works st.snapshot _) ?_
  refine Works.trans (putSource_works (x := some fresh) fun x hx e he => .inl ?_) (.aside rfl rfl)
  cases hx
  rw [(readersFall_extents _ _).2, (readersRise_extents _ _).2]
  exact hst e (hs ▸ he)

theorem surveyEnds_works {p : Pass} {st : Stream} (h : s.streams.passSource = some st) :
    Works loose s (surveyEnds p st s) := by
  unfold surveyEnds
  generalize profileOf _ p.low p.high = kp
  simp only
  split
  · exact (endActive_works _ _ _ _).behind rfl rfl
  · refine Works.behind (swapSource_works (st := st) (fresh := { st with position := 0, send := none, ahead := none, fetch := .none })
      ?_ rfl _) ?_ ?_
    · exact h
    · rfl
    · rfl

@[simp] theorem advance_snapshot (n : Nat) (st : Stream) : (advance n st).snapshot = st.snapshot := by
  unfold advance; simp only; split
  · rfl
  · split <;> rfl

/-- The engine has taken a sheet of the source stream. -/
theorem takesSheet_works {st st' : Stream} (h : s.streams.passSource = some st) (hs : st'.snapshot = st.snapshot)
    (x : Histogram) (a : Option Pass) :
    Works loose s { s with passes.histogram := x, passes.active := a, streams.passSource := some st' } :=
  (keepSource_works h hs).trans (.aside rfl rfl)

theorem passTake_works (s : State) : Works loose s (passTake s) := by
  unfold passTake; split
  · rename_i p st _ hst
    split
    · exact .refl
    · have took := fun n x a => takesSheet_works (loose := loose) hst (advance_snapshot n st) x a
      simp only
      split
      · exact .refl
      · split
        · exact took _ _ _
        · exact Works.trans (took _ _ _) (surveyEnds_works rfl)
      · split
        · exact .refl
        · split
          · exact took _ _ _
          · exact Works.trans (took _ _ _) (endPassSource_works _)
  · exact .refl

theorem createVersion_works (p : Pass) (s : State) : Works loose s (createVersion p s) := by
  unfold createVersion; split
  · rename_i b n o e _ _ ho _
    split
    · refine Works.trans (putObject_works (s := s) (fun k => ?_) fun v hv x hx => ?_) ((endActive_works _ _ _ _).behind rfl rfl)
      · have r := object_inRange ho k
        exact r
      · rcases List.mem_append.1 hv with hv | hv
        · exact object_extents ho hv hx
        · cases List.mem_singleton.1 hv
          exact mem_liveExtents.2 (.inr (.inr hx))
    · exact endActive_works _ _ _ s
  · exact endActive_works _ _ _ s

theorem presentOutput_works (m : s.control.mode ≠ .start) : Works loose s (presentOutput s) := by
  unfold presentOutput; split
  · exact .refl
  · refine iteInduction (motive := Works loose s) (fun _ => .refl) (fun hc => ?_)
    split
    · exact endActive_works _ _ _ s
    · split
      · exact .aside rfl rfl
      · rename_i hf
        have hs : s.isStalled .restore = false := by simp_all
        split
        · exact (opens_or_stalls hf hs).1.trans (.aside rfl rfl)
        · exact (opens_or_stalls hf hs).2 m

/-! ### Modes -/

theorem abandonRound_works (s : State) : Works loose s (abandonRound s) :=
  ((Works.one .abandons).trans (unstall_works .relocate _)).trans (.aside rfl rfl)

theorem enterPreserve_works {c : PreserveCause} (m : s.control.mode ≠ .start) : Works loose s (enterPreserve c s) := by
  refine Works.trans ?_ (notifyAll_works _ _ _)
  refine Works.trans ?_ (.one .drops)
  refine Works.trans ?_ (abandonRound_works _)
  refine Works.trans ?_ (abortPasses_works _ _ _)
  exact (Works.one (.modes .preserve m (by simp))).trans (.aside rfl rfl)

theorem retireAction_works (s : State) : Works loose s (retireAction s) := by
  unfold retireAction; split
  · rename_i h; exact enterPreserve_works (by simp [h])
  · exact .aside rfl rfl
  · exact .refl

theorem judgeRetire_works (s : State) : Works loose s (judgeRetire s) := by
  unfold judgeRetire; split
  · exact retireAction_works s
  · exact .refl

theorem damageAction_works (s : State) : Works loose s (damageAction s) := by
  unfold damageAction; split
  · rename_i h; exact enterPreserve_works (by simp [h])
  · exact .refl

theorem reportDamage_works {k : Key} {number serial : Nat} {stop : State → State} (h : ∀ s, Works loose s (stop s)) (s : State) :
    Works loose s (reportDamage k number serial stop s) := by
  unfold reportDamage; split
  · rename_i t ht; exact ((markDamaged_works ht).trans (h t)).trans (damageAction_works _)
  · exact h s

theorem retireStripe_works {n : Nat} {r : Stripe} (hr : (n, r) ∈ s.store.stripes) (hf : r.state = .full) :
    Works loose s (retireStripe n s) := (Works.one (.retires n r hr hf)).trans (judgeRetire_works _)

/-- The stripe that leaves FULL is listed, FULL and without live leaves or readers. -/
theorem leaving_mem {k : Nat} (h : s.leaving = some k) :
    ∃ r, (k, r) ∈ s.store.stripes ∧ r.state = .full ∧ r.live = 0 ∧ r.readers = 0 := by
  unfold State.leaving at h
  obtain ⟨⟨j, r⟩, hf, rfl⟩ := Option.map_eq_some_iff.1 h
  have hp := List.find?_some hf
  simp only [Bool.and_eq_true, beq_iff_eq] at hp
  exact ⟨r, List.mem_of_find?_eq_some hf, hp.1.1, hp.1.2, hp.2⟩

/-- Where a stripe joins the dirty queue while its head is being erased: behind an entry at least. -/
abbrev Behind (loose : Prop) (kept : Nat) (s : State) : Prop := s.store.wings.erasing.isSome = true → loose ∨ 0 < kept

theorem leaveFullOne_works {kept n : Nat} (h : s.leaving = some n) (hk : Behind loose kept s) :
    Works loose s (leaveFullOne kept n s) := by
  obtain ⟨r, hr, hf, hl, -⟩ := leaving_mem h
  unfold leaveFullOne; split
  · exact retireStripe_works hr hf
  · exact .one (.joins n kept r hr hf hl hk)

theorem leaveFullLoop_works {kept n : Nat} (hk : Behind loose kept s) : Works loose s (leaveFullLoop kept n s) := by
  induction n generalizing s with
  | zero => exact .refl
  | succ n ih =>
    unfold leaveFullLoop; split
    · exact .refl
    · rename_i k h
      have w := leaveFullOne_works h hk
      exact w.trans (ih (by simpa [Behind, w.erasing] using hk))

theorem leaveFull_works {kept : Nat} (hk : Behind loose kept s) : Works loose s (leaveFull kept s) := leaveFullLoop_works hk

theorem takeHeads_works (n : Nat) (s : State) : Works loose s (takeHeads n s) := by
  induction n generalizing s with
  | zero => exact .refl
  | succ n ih =>
    unfold takeHeads; split
    · exact .refl
    · rename_i h
      simp only [Bool.or_eq_true, bne_iff_ne, ne_eq, not_or, Decidable.not_not, Bool.not_eq_true] at h
      split
      · exact .refl
      · rename_i hw
        have he : s.store.wings.erasing = none := by
          unfold Wings.erasing; split
          · rename_i k hk; exact absurd hk (hw k)
          · rfl
        split
        · exact .refl
        · rename_i k rest hq
          split
          · exact ((Works.one (.scraps k rest hq he h.2)).trans (judgeRetire_works _)).trans (ih _)
          · exact .one (.asks (by simp [h.1]) (by simp [hq]) he)

theorem eraseEngine_works (s : State) : Works loose s (eraseEngine s) := takeHeads_works _ s

/-- The erase engine waits while its erase is in flight. -/
theorem eraseEngine_of_erasing (h : s.store.wings.erasing.isSome = true) : eraseEngine s = s := by
  unfold eraseEngine takeHeads
  split
  · rfl
  · split
    · rfl
    · rename_i hw
      exfalso
      unfold Wings.erasing at h
      split at h
      · rename_i k hk; exact hw k hk
      · cases h

/-! ### The programmer -/

/-- The state with a run chosen where the programmer has none. -/
def chosenRun (s : State) : State :=
  match s.intake.run with
  | none => { s with intake.run := s.chooseRun }
  | some _ => s

/-- What the programmer does with its run; `next` is its work after a drop. -/
def runTurn (next : State → State) (s : State) : State :=
  match s.intake.run with
  | none => s
  | some r => match s.descriptor r.descriptor with
    | none => s
    | some d =>
      if Config.extentsPerVersion ≤ (s.provisional r.descriptor).length
          && !wouldExtend (s.frontStripe .intake) (s.provisional r.descriptor) then
        next (dropDeposit true r.descriptor d s)
      else match s.frontStripe .intake with
        | some _ => { s with intake.request := .pending }
        | none =>
          if s.mayOpen .intake then { openStripe .intake s with intake.request := .pending } else stall .intake s

theorem programmer_succ (n : Nat) (s : State) : programmer (n + 1) s =
    if s.intake.request != .none || s.programInFlight .intake || s.isStalled .intake then s
    else runTurn (programmer n) (chosenRun s) := rfl

theorem chosenRun_eq (s : State) : ∃ x, chosenRun s = { s with intake.run := x } := by
  unfold chosenRun; split
  · exact ⟨_, rfl⟩
  · exact ⟨s.intake.run, rfl⟩

theorem runTurn_works {next : State → State} (m : s.control.mode ≠ .start) (hs : s.isStalled .intake = false)
    (h : ∀ t : State, t.control.mode ≠ .start → Works loose t (next t)) : Works loose s (runTurn next s) := by
  unfold runTurn; split
  · exact .refl
  · split
    · exact .refl
    · rename_i r _ _ d hd
      split
      · have w : Works loose s (dropDeposit true r.descriptor d s) := dropDeposit_works (fun _ => hd)
        exact w.trans (h _ (by rwa [ne_eq, w.mode]))
      · split
        · exact .aside rfl rfl
        · rename_i hf
          split
          · exact (opens_or_stalls hf hs).1.trans (.aside rfl rfl)
          · exact (opens_or_stalls hf hs).2 m

theorem programmer_works {n : Nat} (m : s.control.mode ≠ .start) : Works loose s (programmer n s) := by
  induction n generalizing s with
  | zero => exact .refl
  | succ n ih =>
    rw [programmer_succ]; split
    · exact .refl
    · rename_i hc
      have hs : s.isStalled .intake = false := by simp_all
      obtain ⟨x, hx⟩ := chosenRun_eq s
      rw [hx]
      exact (runTurn_works (by exact m) (by exact hs) fun t ht => ih ht).behind rfl rfl

end Sys2Proof.Machine
end

section
namespace Sys2Proof.Machine

variable {loose : Prop} {s t : State}

/-! ### Relocation -/

theorem lowestSite_mem {l : List Site} {x : Site} (h : lowestSite l = some x) : x ∈ l := by
  induction l generalizing x with
  | nil => cases h
  | cons e rest ih =>
    simp only [lowestSite] at h
    split at h
    · cases h; simp
    · rename_i b hb
      split at h
      · cases h; simp
      · cases h; simp [ih hb]

theorem sitesIn_extent {n : Nat} {k : Key} {v : Version} {es : List Extent} {i b : Nat} {x : Site}
    (h : x ∈ sitesIn n k v i b es) : x.extent ∈ es := by
  induction es generalizing i b with
  | nil => cases h
  | cons e rest ih =>
    simp only [sitesIn] at h
    split at h
    · rcases List.mem_cons.1 h with rfl | h
      · simp
      · simp [ih h]
    · simp [ih h]

theorem sites_extent {n : Nat} {x : Site} (h : x ∈ s.sites n) : x.extent ∈ s.catalogExtents := by
  obtain ⟨o, ho, h⟩ := List.mem_flatMap.1 h
  obtain ⟨v, hv, h⟩ := List.mem_flatMap.1 h
  exact List.mem_flatMap.2 ⟨o, ho, List.mem_flatMap.2 ⟨v, hv, sitesIn_extent h⟩⟩

/-- A look changes the round alone, and begins a copy afresh. -/
theorem lookNext_fresh (r : Round) (s : State) :
    ∃ x, lookNext r s = s.putRound x ∧ ∀ y ∈ x, ∀ c ∈ y.copy, FreshCopy s c := by
  unfold lookNext
  split
  · exact ⟨none, rfl, by simp⟩
  · split
    · exact ⟨_, rfl, by simp⟩
    · split
      · exact ⟨none, rfl, by simp⟩
      · rename_i x hx
        refine ⟨_, rfl, fun y hy c hc => ?_⟩
        cases hy; cases hc
        exact ⟨sites_extent (lowestSite_mem hx), rfl, rfl, rfl, rfl⟩

theorem lookNext_works {r : Round} (m : loose ∨ s.control.mode ≠ .start) (hc : ∀ c, s.copy = some c → c.request ≠ .inFlight) :
    Works loose s (lookNext r s) := by
  obtain ⟨x, h, hx⟩ := lookNext_fresh r s
  rw [h]
  exact .one (.looks x (m.imp_right .inl) hc hx)

theorem clearBlocked_works (s : State) : Works loose s (clearBlocked s) := by
  unfold clearBlocked; split <;> exact .aside rfl rfl

theorem makeChoice_works (h : s.relocation.round = none) : Works loose s (makeChoice s) := by
  unfold makeChoice; split
  · exact .refl
  · rename_i hm
    split
    · exact .refl
    · exact .aside rfl rfl
    · rename_i n cause _
      obtain ⟨x, hx, hf⟩ := lookNext_fresh ⟨n, cause, none⟩ { s with relocation := ⟨some ⟨n, cause, none⟩, false⟩ }
      rw [hx]
      refine Works.trans (.one (.looks x (.inr (.inl ?_)) (fun c hc => by simp [State.copy, h] at hc) hf)) (.aside rfl rfl)
      rintro m; simp [m] at hm

theorem withdrawCopy_works {before : State} (m : s.control.mode ≠ .start) : Works loose s (withdrawCopy before s) := by
  unfold withdrawCopy; split
  · exact .refl
  · rename_i r hr
    split
    · exact .refl
    · rename_i c hc
      split
      · rename_i h
        refine lookNext_works (.inr m) fun c' hc' => ?_
        simp only [State.copy, hr, Option.bind_some, hc, Option.some.injEq] at hc'
        subst hc'; simp [h.1]
      · exact .refl

/-- The RELOCATE front's stripe is closed where a copy's extent does not fit it (R18). -/
def closedFront (c : Copy) (s : State) : State :=
  match s.frontStripe .relocate with
  | some (n, t) =>
    if c.copied = 0 ∧ Config.leavesPerStripe - t.written < c.source.count then
      s.mapStripe n (fun t => { t with state := .full })
    else s
  | none => s

/-- A copy's program is presented with its destination. -/
def presentAt (r : Round) (c : Copy) (n : Nat) (q : Stripe) (s : State) : State :=
  s.putRound (some { r with copy := some { c with
    dest := (match c.dest with | some d => some d | none => some (n, q.written)), request := .pending } })

/-- A copy's program is presented in the front's stripe, in the next that the front opens, or the front stalls. -/
def placedCopy (r : Round) (c : Copy) (s : State) : State :=
  match s.frontStripe .relocate with
  | some (n, q) => presentAt r c n q s
  | none =>
    if s.mayOpen .relocate then
      match (openStripe .relocate s).frontStripe .relocate with
      | some (n, q) => presentAt r c n q (openStripe .relocate s)
      | none => openStripe .relocate s
    else stall .relocate s

theorem presentCopy_eq (r : Round) (c : Copy) (s : State) : presentCopy r c s =
    if s.programInFlight .relocate || s.isStalled .relocate then s else placedCopy r c (closedFront c s) := rfl

/-- The stripe a front holds is listed and OPEN for it. -/
theorem frontStripe_mem {f : Front} {n : Nat} {q : Stripe} (h : s.frontStripe f = some (n, q)) :
    (n, q) ∈ s.store.stripes ∧ q.state = .opened f :=
  ⟨List.mem_of_find?_eq_some h, by simpa using List.find?_some h⟩

theorem not_opened_of_frontStripe {f : Front} (h : s.frontStripe f = none) : ∀ e ∈ s.store.stripes, e.2.state ≠ .opened f := by
  simpa [State.frontStripe, List.find?_eq_none] using h

theorem mem_tset {α : Type} [DecidableEq α] {d : α} {t : Table α} {k : Nat} {v : α} {e : Nat × α} (h : e ∈ tset d t k v) :
    e = (k, v) ∨ e ∈ t := by
  unfold tset at h
  split at h
  · exact .inr (mem_tdel h)
  · exact mem_tput h

theorem mem_mapStripe {k : Nat} {g : Stripe → Stripe} {e : Nat × Stripe} (h : e ∈ (s.mapStripe k g).store.stripes) :
    e = (k, g (s.stripe k)) ∨ e ∈ s.store.stripes :=
  mem_tset (d := Stripe.formatted) (t := s.store.stripes) (k := k) (v := g (s.stripe k)) h

/-- A stripe's record as a front opens it (R14). -/
def openedStripe (f : Front) (day : Nat) (r : Stripe) : Stripe :=
  { r with state := .opened f, written := 0, live := 0, programDay := day, retirePending := false }

theorem openStripe_nil {f : Front} (h : s.store.freeQueue = []) : openStripe f s = s := by simp [openStripe, h]

theorem openStripe_cons {f : Front} {n : Nat} {rest : List Nat} (h : s.store.freeQueue = n :: rest) :
    openStripe f s = ({ s with store.freeQueue := rest } : State).mapStripe n (openedStripe f s.today) := by
  simp only [openStripe, h]; rfl

/-- A stripe that a front has just opened has no leaf written. -/
theorem openStripe_front {f : Front} {n : Nat} {q : Stripe} (h : s.frontStripe f = none)
    (hq : (openStripe f s).frontStripe f = some (n, q)) : q.written = 0 := by
  obtain ⟨hm, ho⟩ := frontStripe_mem hq
  cases hfree : s.store.freeQueue with
  | nil => rw [openStripe_nil hfree] at hm; exact absurd ho (not_opened_of_frontStripe h _ hm)
  | cons k rest =>
    rw [openStripe_cons hfree] at hm
    rcases mem_mapStripe hm with he | hm
    · cases he; rfl
    · exact absurd ho (not_opened_of_frontStripe h _ hm)

theorem openStripe_relocation (f : Front) (s : State) : (openStripe f s).relocation = s.relocation := by
  unfold openStripe; split <;> rfl

theorem openStripe_wings (f : Front) (s : State) : (openStripe f s).store.wings = s.store.wings := by
  unfold openStripe; split <;> rfl

theorem placedCopy_works {r : Round} {c : Copy} (m : s.control.mode ≠ .start) (hr : s.relocation.round = some r)
    (hc : r.copy = some c) (hst : c.step = .program) (hq : c.request = .none) (hp : s.programInFlight .relocate = false)
    (hs : s.isStalled .relocate = false)
    (hroom : ∀ n q, s.frontStripe .relocate = some (n, q) → c.copied = 0 → c.source.count ≤ Config.leavesPerStripe - q.written) :
    Works loose s (placedCopy r c s) := by
  unfold placedCopy; split
  · rename_i n q hf
    exact .one (.presents n q r c hr hc hst hq hp hf fun h => .inr (hroom n q hf h))
  · rename_i hf
    split
    · refine (opens_or_stalls hf hs).1.trans ?_
      split
      · rename_i n q hf'
        refine .one (.presents n q r c ?_ hc hst hq ?_ hf' fun _ => .inl (openStripe_front hf hf'))
        · rw [openStripe_relocation]; exact hr
        · simpa [State.programInFlight, openStripe_wings] using hp
      · exact .refl
    · exact (opens_or_stalls hf hs).2 m

theorem presentCopy_works {r : Round} {c : Copy} (m : s.control.mode ≠ .start) (hr : s.relocation.round = some r)
    (hc : r.copy = some c) (hst : c.step = .program) (hq : c.request = .none) : Works loose s (presentCopy r c s) := by
  rw [presentCopy_eq]; split
  · exact .refl
  · rename_i hb
    simp only [Bool.or_eq_true, not_or, Bool.not_eq_true] at hb
    have hcopy : s.copy = some c := by simp [State.copy, hr, hc]
    unfold closedFront
    split
    · rename_i n q hf
      obtain ⟨hm, ho⟩ := frontStripe_mem hf
      split
      · rename_i hz
        have closed : Works loose s (s.mapStripe n (fun t => { t with state := .full })) :=
          .one (.closes n q c hm ho hb.1 hcopy hz.1 hz.2)
        cases hf' : (s.mapStripe n (fun t => { t with state := .full })).frontStripe .relocate with
        | none =>
          exact closed.trans (placedCopy_works m hr hc hst hq hb.1 hb.2 (fun _ _ h => by rw [hf'] at h; cases h))
        | some x =>
          obtain ⟨n', q'⟩ := x
          obtain ⟨hm', ho'⟩ := frontStripe_mem hf'
          unfold placedCopy
          rw [hf']
          exact .one (.astray n n' q q' r c hm ho hm' ho' hr hc)
      · rename_i hz
        refine placedCopy_works m hr hc hst hq hb.1 hb.2 fun n' q' h h0 => ?_
        rw [hf] at h; cases h
        omega
    · rename_i hf
      exact placedCopy_works m hr hc hst hq hb.1 hb.2 (fun _ _ h => by rw [hf] at h; cases h)

theorem engineOnce_works (m : s.control.mode ≠ .start) : Works loose s (engineOnce s) := by
  unfold engineOnce; split
  · rename_i h; exact makeChoice_works h
  · rename_i r hr
    split
    · rename_i hc
      split
      · exact .refl
      · exact lookNext_works (.inr m) (fun c h => by simp [State.copy, hr, hc] at h)
    · rename_i c hc
      split
      · rename_i h; exact presentCopy_works m hr hc h.1 h.2
      · exact .refl

theorem engine_works (m : s.control.mode ≠ .start) : Works loose s (engine s) := by
  have h1 : Works loose s (engineOnce (clearBlocked s)) :=
    (clearBlocked_works s).trans (engineOnce_works (by rwa [ne_eq, (clearBlocked_works (loose := loose) s).mode]))
  exact (h1.trans (engineOnce_works (by rwa [ne_eq, h1.mode]))).trans (clearBlocked_works _)

/-! ### The blocks' work of an event -/

/-- While an erase is in flight its stripe stands at the head of a dirty queue that is not empty. -/
abbrev Anchored (loose : Prop) (s : State) : Prop :=
  s.store.wings.erasing.isSome = true → loose ∨ s.store.dirtyQueue ≠ []

theorem settleRound_works {kept : Nat} (m : s.control.mode ≠ .start) (hk : Behind loose kept s) :
    Works loose s (settleRound kept s) := by
  have h1 : Works loose s (startPasses (Config.passQueue + 1) (leaveFull kept s)) :=
    (leaveFull_works hk).trans (startPasses_works _ _)
  have h2 := h1.trans (programmer_works (n := Config.descriptors + 1) (by rwa [ne_eq, h1.mode]))
  have h3 := (h2.trans (passTake_works _)).trans (passTake_works _)
  have h4 := h3.trans (presentOutput_works (by rwa [ne_eq, h3.mode]))
  exact h4.trans (engine_works (by rwa [ne_eq, h4.mode]))

/-- Three rounds. -/
theorem settleRounds_works {kept : Nat} (m : s.control.mode ≠ .start) (hk : Behind loose kept s) :
    Works loose s (settleRound kept (settleRound kept (settleRound kept s))) := by
  have h1 := settleRound_works m hk
  have h2 := h1.trans (settleRound_works (kept := kept) (by rwa [ne_eq, h1.mode]) (by rwa [Behind, h1.erasing]))
  exact h2.trans (settleRound_works (by rwa [ne_eq, h2.mode]) (by rwa [Behind, h2.erasing]))

theorem settleBlocks_works (m : s.control.mode ≠ .start) (ha : Anchored loose s) : Works loose s (settleBlocks s) := by
  by_cases he : s.store.wings.erasing.isSome = true
  · have hk : Behind loose s.store.dirtyQueue.length s := fun h => (ha h).imp_right List.length_pos_iff.2
    have h := settleRounds_works m hk
    unfold settleBlocks
    simp only [eraseEngine_of_erasing he]
    generalize settleRound _ (settleRound _ (settleRound _ s)) = t at h
    have het : t.store.wings.erasing.isSome = true := by rwa [h.erasing]
    rw [eraseEngine_of_erasing het, Nat.sub_self, Nat.sub_zero]
    exact h.trans (settleRound_works (by rwa [ne_eq, h.mode]) (by rwa [Behind, h.erasing]))
  · have behind : ∀ {k : Nat} {t : State}, Works loose s t → Behind loose k t :=
      fun h e => absurd (h.erasing ▸ e) he
    have h1 := eraseEngine_works (loose := loose) s
    have h2 := h1.trans (settleRounds_works (kept := (eraseEngine s).store.dirtyQueue.length)
      (by rwa [ne_eq, h1.mode]) (behind h1))
    have h3 := h2.trans (eraseEngine_works _)
    exact h3.trans (settleRound_works (by rwa [ne_eq, h3.mode]) (behind h3))

theorem presentStream_works (p : Port) (s : State) : Works loose s (presentStream p s) := mapActive_works _ _ s

theorem presentSource_works (s : State) : Works loose s (presentSource s) := by
  unfold presentSource; split
  · rename_i st h
    split
    · exact keepSource_works h rfl
    · exact .refl
  · exact .refl

/-! ### The arbiter -/

theorem wings_of_idle (h : s.idle .low = true) (h' : s.idle .high = true) : s.store.wings = .split none none := by
  unfold State.idle at h h'
  cases hw : s.store.wings with
  | both op => simp [hw] at h
  | split a b => simp only [hw, Option.isNone_iff_eq_none] at h h'; rw [h, h']

theorem startStreamFetch_acts {who : Fetcher} {st : Stream} (hw : who ≠ .relocation) (m : s.control.mode ≠ .start)
    (hi : s.idle (wingOf ((nextSheet st).getD 0)) = true) : Acts loose s (startStreamFetch who st s) := by
  unfold startStreamFetch; split
  · exact .refl
  · rename_i h hn
    split
    · exact .refl
    · refine .one (.fetches _ _ m ?_ (fun e => absurd e hw))
      simpa [hn] using hi

theorem putFetch_rest (w : Wing) (op : FetchOp) (s : State) : ∃ x, putFetch w op s = { s with store.wings := x } := by
  unfold putFetch; split
  · exact ⟨_, rfl⟩
  · exact ⟨_, rfl⟩
  · exact ⟨s.store.wings, rfl⟩

theorem startStreamFetch_rest (who : Fetcher) (st : Stream) (s : State) :
    ∃ x, startStreamFetch who st s = { s with store.wings := x } := by
  unfold startStreamFetch; split
  · exact ⟨s.store.wings, rfl⟩
  · split
    · exact ⟨s.store.wings, rfl⟩
    · exact putFetch_rest _ _ s

theorem mapCopy_round (g : Copy → Copy) (s : State) : ∃ x, mapCopy g s = s.putRound x := by
  unfold mapCopy; split
  · exact ⟨_, rfl⟩
  · exact ⟨s.relocation.round, rfl⟩

theorem mapCopy_copy (g : Copy → Copy) (s : State) : (mapCopy g s).copy = s.copy.map g := by
  unfold mapCopy State.copy
  cases h : s.relocation.round with
  | none => simp [h]
  | some r => simp [State.putRound]

/-- A change of the copy and the start of a fetch are independent. -/
theorem mapCopy_putFetch (g : Copy → Copy) (w : Wing) (op : FetchOp) (s : State) :
    mapCopy g (putFetch w op s) = putFetch w op (mapCopy g s) := by
  obtain ⟨x, hx⟩ := mapCopy_round g s
  have h : (mapCopy g s).store = s.store := by rw [hx]; rfl
  unfold putFetch
  rw [h]
  cases s.store.wings with
  | both op => rfl
  | split a b => cases w <;> (unfold mapCopy; cases s.relocation.round <;> rfl)

theorem startFetch_acts {c : Claim} (m : s.control.mode ≠ .start) (hc : s.claims c = true) (hn : c.wide = false)
    (hi : s.idle (s.wants c) = true) : Acts loose s (startFetch c s) := by
  cases c with
  | streamFetch p =>
    unfold startFetch; simp only
    split
    · exact .refl
    · rename_i st hst
      have h : Acts loose s (startStreamFetch (.stream p) st s) :=
        startStreamFetch_acts (by simp) m (by simpa [State.wants, hst] using hi)
      refine h.trans (Works.acts (Works.behind (mapActive_works _ _ _) rfl rfl))
  | passFetch =>
    unfold startFetch; simp only
    split
    · exact .refl
    · rename_i st hst
      have h : Acts loose s (startStreamFetch .passSource st s) :=
        startStreamFetch_acts (by simp) m (by simpa [State.wants, hst] using hi)
      obtain ⟨x, hx⟩ := startStreamFetch_rest .passSource st s
      exact h.trans (Works.acts (keepSource_works (st := st) (by rw [hx]; exact hst) rfl))
  | copyFetch =>
    unfold startFetch; simp only
    split
    · exact .refl
    · rename_i c hcopy
      simp only [State.claims, hcopy, Bool.and_eq_true, beq_iff_eq, bne_iff_ne, ne_eq] at hc
      rw [mapCopy_putFetch]
      have goes : Work loose s (mapCopy (fun c => { c with request := .inFlight }) s) :=
        .goes (fun c' hc' => by rw [hcopy] at hc'; cases hc'; exact hc.1)
      have hstep : c.step = fetchStep (s.wants .copyFetch) := by
        simp only [State.wants, hcopy]
        cases h : c.step with
        | fetchLow => rfl
        | fetchHigh => rfl
        | program => exact absurd h hc.2
      obtain ⟨x, hx⟩ := mapCopy_round (fun c => { c with request := .inFlight }) s
      refine Acts.trans (.one (.work goes)) (.one (.fetches _ _ ?_ ?_ fun _ => ⟨{ c with request := .inFlight }, ?_, rfl, hstep⟩))
      · rw [hx]; exact m
      · rw [hx]; exact hi
      · rw [mapCopy_copy, hcopy]; rfl
  | _ => cases hn

theorem startProgram_acts {f : Front} {k : Key} {v l : Nat} {d : List Octet} (m : s.control.mode ≠ .start)
    (hi : s.store.wings = .split none none)
    (hc : f = .relocate → ∃ c, s.copy = some c ∧ c.step = .program ∧ c.request = .inFlight) :
    Acts loose s (startProgram f k v l d s) := by
  unfold startProgram; split
  · exact .refl
  · rename_i n r hf
    exact .one (.programs r ⟨f, n, r.written, k, v, l, d, false⟩ m hi hf rfl rfl hc)

theorem startWide_acts {c : Claim} (m : s.control.mode ≠ .start) (hc : s.claims c = true)
    (hi : s.store.wings = .split none none) : Acts loose s (startWide c s) := by
  cases c with
  | intakeProgram =>
    unfold startWide; simp only
    split
    · exact .refl
    · split
      · refine Acts.trans (Works.acts (t := { s with intake.request := .inFlight }) (.aside rfl rfl)) ?_
        exact startProgram_acts m hi (by simp)
      · exact .refl
  | erase =>
    unfold startWide; simp only
    split
    · exact .refl
    · rename_i n rest hq; exact .one (.erases n rest m hi hq)
  | copyProgram =>
    unfold startWide; simp only
    split
    · exact .refl
    · rename_i c hcopy
      simp only [State.claims, hcopy, Bool.and_eq_true, beq_iff_eq] at hc
      have goes : Work loose s (mapCopy (fun c => { c with request := .inFlight }) s) :=
        .goes (fun c' hc' => by rw [hcopy] at hc'; cases hc'; exact hc.1)
      obtain ⟨x, hx⟩ := mapCopy_round (fun c => { c with request := .inFlight }) s
      refine Acts.trans (.one (.work goes)) (startProgram_acts ?_ ?_ fun _ => ⟨{ c with request := .inFlight }, ?_, hc.2, rfl⟩)
      · rw [hx]; exact m
      · rw [hx]; exact hi
      · rw [mapCopy_copy, hcopy]; rfl
  | passProgram =>
    unfold startWide; simp only
    split
    · exact .refl
    · rename_i p _
      refine Acts.trans (Works.acts (t := { s with passes.active := some { p with request := .inFlight } }) (.aside rfl rfl)) ?_
      exact startProgram_acts m hi (by simp)
  | _ => exact .refl

theorem startFetch_control (c : Claim) (s : State) : (startFetch c s).control = s.control := by
  have hs : ∀ who st, (startStreamFetch who st s).control = s.control := fun who st => by
    obtain ⟨x, hx⟩ := startStreamFetch_rest who st s; rw [hx]
  have hm : ∀ (p : Port) (g : Stream → Stream) (t : State), (mapActive p g t).control = t.control := fun p g t => by
    unfold mapActive; simp only; split <;> rfl
  unfold startFetch
  split
  · split
    · rfl
    · rw [hm]; exact hs _ _
  · split
    · rfl
    · exact hs _ _
  · split
    · rfl
    · rw [mapCopy_putFetch]
      obtain ⟨x, hx⟩ := putFetch_rest (s.wants .copyFetch) _ (mapCopy (fun c => { c with request := .inFlight }) s)
      obtain ⟨y, hy⟩ := mapCopy_round (fun c => { c with request := .inFlight }) s
      rw [hx, hy]; rfl
  · rfl

/-- The winner is a standing claim, and a fetch that wins wants an idle wing. -/
theorem winner_claims {c : Claim} (h : s.winner = some c) :
    s.claims c = true ∧ (c.wide = false → s.idle (s.wants c) = true) := by
  have hp := List.find?_some h
  simp only [State.eligible, Bool.and_eq_true] at hp
  refine ⟨hp.1.1, fun hn => ?_⟩
  have h2 := hp.2
  simp only [hn, Bool.false_eq_true, if_false, State.open_, Bool.and_eq_true] at h2
  exact h2.1

theorem decideLoop_acts {n : Nat} (m : s.control.mode ≠ .start) : Acts loose s (decideLoop n s) := by
  induction n generalizing s with
  | zero => exact .refl
  | succ n ih =>
    unfold decideLoop; split
    · exact .refl
    · rename_i c hw
      obtain ⟨hc, hi⟩ := winner_claims hw
      split
      · split
        · rename_i hb
          simp only [Bool.and_eq_true] at hb
          exact startWide_acts m hc (wings_of_idle hb.1 hb.2)
        · exact Works.acts (.aside rfl rfl)
      · rename_i hn
        have hn : c.wide = false := by simpa using hn
        exact (startFetch_acts m hc hn (hi hn)).trans (ih (by rwa [startFetch_control]))

theorem arbitrate_acts (m : s.control.mode ≠ .start) : Acts loose s (arbitrate s) := by
  have free : Acts loose s { s with store.held := none } := Works.acts (.aside rfl rfl)
  unfold arbitrate; split
  · rename_i c _ hc
    split
    · rename_i hb
      simp only [Bool.and_eq_true] at hb
      have hp := List.find?_some hc
      simp only [State.eligible, Bool.and_eq_true] at hp
      refine free.trans (startWide_acts m ?_ (wings_of_idle hb.1 hb.2))
      have e : ({ s with store.held := none } : State).claims c = s.claims c := by cases c <;> rfl
      exact e.trans hp.1.1
    · exact decideLoop_acts m
  · exact free.trans (decideLoop_acts m)

theorem settle_acts (ha : Anchored loose s) : Acts loose s (settle s) := by
  unfold settle; split
  · exact .refl
  · rename_i m
    have h := (((settleBlocks_works m ha).trans (presentStream_works .desk _)).trans (presentStream_works .bench _)).trans
      (presentStream_works .counter _) |>.trans (presentSource_works _)
    exact (Works.acts h).trans (arbitrate_acts (by rwa [ne_eq, h.mode]))

theorem conclude_acts (ha : Anchored loose s) : Acts loose s (conclude s) :=
  ((settle_acts ha).trans (judgeConditions_works _).acts).trans (transmitAll_works _).acts

end Sys2Proof.Machine
end

section
namespace Sys2Proof.Machine

variable {loose : Prop} {s t : State}

/-! ### What stands at the beginning of an event -/

/-- While an erase is in flight the dirty queue holds its stripe, and in START nothing is in flight. -/
structure Sane (loose : Prop) (s : State) : Prop where
  anchored : Anchored loose s
  calm : loose ∨ (s.control.mode = .start → s.store.wings = .split none none)

theorem Sane.of_true (s : State) : Sane True s := ⟨fun _ => .inl trivial, .inl trivial⟩

theorem joinDirty_ne_nil (kept n : Nat) (queue : List Nat) : joinDirty kept n queue ≠ [] :=
  List.ne_nil_of_mem ((mem_joinDirty kept n n queue).2 (.inl rfl))

theorem openStripe_dirtyQueue (f : Front) (s : State) : (openStripe f s).store.dirtyQueue = s.store.dirtyQueue := by
  unfold openStripe; split <;> rfl

theorem examineStalled_dirtyQueue (s : State) : (examineStalled s).store.dirtyQueue = s.store.dirtyQueue := by
  unfold examineStalled
  refine List.foldlRecOn (motive := fun t : State => t.store.dirtyQueue = s.store.dirtyQueue) _ _ rfl (fun t ht f _ => ?_)
  split
  · exact (openStripe_dirtyQueue f t).trans ht
  · exact ht

theorem detachFetcher_dirtyQueue (who : Fetcher) (s : State) : (detachFetcher who s).store.dirtyQueue = s.store.dirtyQueue := by
  obtain ⟨w, h, -⟩ := detachFetcher_wings who s; rw [h]

theorem detachFeeder_dirtyQueue (f : Front) (s : State) : (detachFeeder f s).store.dirtyQueue = s.store.dirtyQueue := by
  obtain ⟨w, h, -⟩ := detachFeeder_wings f s; rw [h]

/-- The blocks empty the dirty queue only while no erase is in flight. -/
theorem Work.dirtyQueue (h : Work loose s t) (he : s.store.wings.erasing.isSome = true) (hq : s.store.dirtyQueue ≠ []) :
    t.store.dirtyQueue ≠ [] := by
  cases h with
  | refiles h =>
    have e : t.store.dirtyQueue = s.store.dirtyQueue := congrArg StoreView.dirtyQueue h.store
    rwa [e]
  | opens f => rwa [openStripe_dirtyQueue]
  | examines => rwa [examineStalled_dirtyQueue]
  | ceases who => rwa [detachFetcher_dirtyQueue]
  | leaves f => rwa [detachFeeder_dirtyQueue]
  | abandons => rwa [putRound_store, detachFeeder_dirtyQueue, detachFetcher_dirtyQueue]
  | goes =>
    obtain ⟨x, hx⟩ := mapCopy_round (fun c => { c with request := .inFlight }) s
    rwa [hx]
  | joins n kept => exact joinDirty_ne_nil _ _ _
  | scraps n rest _ h => rw [h] at he; cases he
  | _ => exact hq

theorem Work.anchored (h : Work loose s t) (ha : Anchored loose s) : Anchored loose t := by
  intro he
  have he' : s.store.wings.erasing.isSome = true := by rwa [(Works.one h).erasing] at he
  exact (ha he').imp_right (h.dirtyQueue he')

theorem takeFetch_idle {w : Wing} {op : FetchOp} (h : takeFetch w s = some (op, t)) :
    (∃ a b, t = { s with store.wings := .split a b }) ∧ s.store.wings.fetching w = some op := by
  unfold takeFetch at h
  split at h
  · rename_i a b hw; cases h; exact ⟨⟨_, _, rfl⟩, by rw [hw]; rfl⟩
  · rename_i a b hw; cases h; exact ⟨⟨_, _, rfl⟩, by rw [hw]; rfl⟩
  · cases h

theorem commit_wings (c : Copy) (d : Nat × Nat) (s : State) : (commit c d s).store.wings = s.store.wings := by
  unfold commit; split <;> rfl

/-- Recovery of the store writes the stripe table and the mark alone. -/
theorem recoverStore_rest (s : State) : ∃ x, recoverStore s = { s with store.stripes := x, store.mark := none } := by
  unfold recoverStore; simp only; split
  · rename_i h; exact ⟨tmapD Stripe.formatted recoveredStripe s.store.stripes, by rw [← h]⟩
  · exact ⟨_, rfl⟩

theorem Event.anchored (h : Event loose s t) (ha : Anchored loose s) : Anchored loose t := by
  cases h with
  | work h => exact h.anchored ha
  | fetches w op =>
    unfold putFetch; split
    · exact nofun
    · exact nofun
    · exact ha
  | erases n rest _ _ hq => exact fun _ => .inr (by simp [hq])
  | fetched w op h => obtain ⟨⟨a, b, rfl⟩, -⟩ := takeFetch_idle h; exact nofun
  | buffers w op body h =>
    obtain ⟨⟨a, b, rfl⟩, -⟩ := takeFetch_idle h
    unfold copyFetched
    obtain ⟨x, hx⟩ := mapCopy_round _ ({ s with store.wings := .split a b } : State)
    rw [hx]
    exact nofun
  | spoils w op h => obtain ⟨⟨a, b, rfl⟩, -⟩ := takeFetch_idle h; exact nofun
  | commits op r c d => rw [Anchored, putRound_store, commit_wings]; exact nofun
  | supplies => exact ha
  | recovers => obtain ⟨x, hx⟩ := recoverStore_rest s; rw [hx]; exact ha
  | begins => exact ha
  | _ => exact nofun

theorem Acts.anchored (h : Acts loose s t) (ha : Anchored loose s) : Anchored loose t := by
  induction h with
  | refl => exact ha
  | tail _ h ih => exact h.anchored ih

/-- A chain, and the end of the event behind it. -/
theorem Acts.concluded (h : Acts loose s t) (ha : Anchored loose s) : Acts loose s (conclude t) :=
  h.trans (conclude_acts (h.anchored ha))

/-! ### Fetches complete -/

theorem markDamaged_putRound (k : Key) (number serial : Nat) (x : Option Round) (s : State) :
    markDamaged k number serial (s.putRound x) = (markDamaged k number serial s).map (·.putRound x) := by
  have ho : (s.putRound x).object k = s.object k := rfl
  have hh : (s.putRound x).held k number serial = s.held k number serial := rfl
  unfold markDamaged
  rw [ho, hh]
  cases s.object k with
  | none => rfl
  | some o => cases s.held k number serial with
    | none => rfl
    | some v =>
      simp only
      split <;> rfl

theorem passSourceDamaged_works (s : State) : Works loose s (passSourceDamaged s) := by
  unfold passSourceDamaged; split
  · exact endActive_works _ _ _ s
  · exact endPassSource_works s

@[simp] theorem takeSheet_snapshot (n : Nat) (b : List Octet) (st : Stream) : (takeSheet n b st).snapshot = st.snapshot := by
  unfold takeSheet; split <;> rfl

theorem soundFetch_acts {w : Wing} {op : FetchOp} (h : takeFetch w s = some (op, t)) (body : List Octet) :
    Acts loose s (soundFetch op w body t) := by
  have fetched : Acts loose s t := .one (.fetched w op h)
  unfold soundFetch; split
  · exact fetched
  · exact fetched.trans (Works.acts (mapActive_works _ _ _))
  · refine fetched.trans (Works.acts (putSource_works fun st hst e he => .inl ?_))
    obtain ⟨x, hx, rfl⟩ := Option.map_eq_some_iff.1 (Option.mem_def.1 hst)
    rw [takeSheet_snapshot] at he
    simpa [State.sourceExtents, hx] using he
  · rename_i ho; exact .one (.buffers w op body h ho)

theorem damagedFetch_acts {w : Wing} {op : FetchOp} (h : takeFetch w s = some (op, t)) :
    Acts loose s (damagedFetch op t) := by
  have fetched : Acts loose s t := .one (.fetched w op h)
  unfold damagedFetch; split
  · exact fetched
  · split
    · exact fetched
    · exact fetched.trans (Works.acts (reportDamage_works (fun s => cutStream_works _ _ _ _ s) t))
  · split
    · exact fetched
    · exact fetched.trans (Works.acts (reportDamage_works passSourceDamaged_works t))
  · rename_i ho
    split
    · exact fetched
    · rename_i c _
      have spoilt : Acts loose s (t.putRound none) := .one (.spoils w op h ho)
      unfold reportDamage
      split
      · rename_i u hu
        have hu' := markDamaged_putRound c.key c.version c.serial none t
        rw [hu] at hu'
        exact spoilt.trans (((markDamaged_works hu').trans (damageAction_works _)).acts)
      · exact spoilt

theorem sheetFetchComplete_acts (ha : Sane loose s) (w : Wing) (delivered : Option Sheet) (h : exec (.sheetFetchComplete w delivered) s = .next t) :
    Acts loose s t := by
  cases h
  split
  · exact .refl
  · rename_i op u hu
    refine Acts.concluded ?_ ha.anchored
    unfold fetchDone; simp only; split
    · exact soundFetch_acts hu _
    · exact damagedFetch_acts hu

/-! ### Programs complete -/

/-- The flash changes in what keeps its form. -/
theorem flash_works {x : Table Cell} {n : Nat} (h : Memory.wf s.store.flash → Memory.wf x) :
    Works loose s { s with store.flash := x, store.lost := n } := by
  refine .one (.refiles ⟨rfl, fun _ k => k, fun _ k => .inl k, fun k => ?_⟩)
  obtain ⟨a, b, c, d, e, f, g, i, j, l, m⟩ := k
  exact ⟨h a, b, c, d, e, f, g, i, j, l, m⟩

/-- A copy ends, and the engine looks for the next extent. -/
theorem endCopy_acts {r : Round} {u : State} (m : loose ∨ u.control.mode ≠ .start)
    (h : Acts loose s (u.putRound (some { r with copy := none }))) : Acts loose s (endCopy r u) := by
  obtain ⟨x, hx, hf⟩ := lookNext_fresh { r with copy := none } u
  refine h.trans ?_
  unfold endCopy
  rw [hx]
  exact .one (.work (.looks (s := u.putRound (some { r with copy := none })) x (m.imp_right .inl) (fun c hc => by cases hc) hf))

theorem copyWritten_acts {op : ProgramOp} (m : loose ∨ s.control.mode ≠ .start) (hw : s.store.wings = .both (.program op))
    (hn : op.ceased = false) (hf : op.front = .relocate) :
    Acts loose s (copyWritten (programTaken op writtenStripe s)) := by
  have round : (programTaken op writtenStripe s).relocation.round = s.relocation.round := rfl
  unfold copyWritten
  rw [round]
  cases hr : s.relocation.round with
  | none => exact .one (.finishes op _ hw (.inl rfl) (.inr (.inr (by simp [State.copy, hr]))))
  | some r =>
    simp only
    cases hc : r.copy with
    | none => exact .one (.finishes op _ hw (.inl rfl) (.inr (.inr (by simp [State.copy, hr, hc]))))
    | some c =>
      have ends : Acts loose s ((programTaken op writtenStripe s).putRound (some { r with copy := none })) :=
        .one (.ends op _ r hw (.inl rfl) hr)
      simp only
      split
      · rename_i hlast
        unfold commitCopy
        split
        · rename_i d hd
          split
          · cases ho : s.object c.key with
            | none =>
              have e : commit { c with copied := c.copied + 1, request := .none, low := [], high := [] } d
                  (programTaken op writtenStripe s) = programTaken op writtenStripe s := by
                have ho' : (programTaken op writtenStripe s).object c.key = none := ho
                simp [commit, ho']
              rw [e]
              exact endCopy_acts m ends
            | some o =>
              refine endCopy_acts (u := commit c d (programTaken op writtenStripe s)) ?_ (.one (.commits op r c d o hw hf hn hr hc hlast hd ho))
              have e : (commit c d (programTaken op writtenStripe s)).control = s.control := by
                unfold commit; split <;> rfl
              rwa [e]
          · exact endCopy_acts m ends
        · exact endCopy_acts m ends
      · rename_i hmore
        unfold copyNext
        split
        · exact .one (.copies op r c hw hf hn hr hc hmore)
        · exact endCopy_acts m ends

theorem copyFailed_acts {op : ProgramOp} (m : loose ∨ s.control.mode ≠ .start) (hw : s.store.wings = .both (.program op)) :
    Acts loose s (copyFailed (programTaken op failedStripe s)) := by
  have round : (programTaken op failedStripe s).relocation.round = s.relocation.round := rfl
  unfold copyFailed
  rw [round]
  cases hr : s.relocation.round with
  | none => exact .one (.finishes op _ hw (.inr rfl) (.inr (.inr (by simp [State.copy, hr]))))
  | some r =>
    simp only
    cases hc : r.copy with
    | none => exact .one (.finishes op _ hw (.inr rfl) (.inr (.inr (by simp [State.copy, hr, hc]))))
    | some c =>
      simp only
      unfold copyNext
      split
      · exact .one (.restarts op r c hw hr hc)
      · exact endCopy_acts m (.one (.ends op _ r hw (.inr rfl) hr))

theorem intakeWritten_acts {op : ProgramOp} (hw : s.store.wings = .both (.program op)) (hf : op.front ≠ .relocate) :
    Acts loose s (intakeWritten op (programTaken op writtenStripe s)) := by
  have finished : Acts loose s (programTaken op writtenStripe s) := .one (.finishes op _ hw (.inl rfl) (.inr (.inl hf)))
  unfold intakeWritten; split
  · exact finished
  · split
    · exact finished
    · rename_i r hr _ d hd
      have hd : s.descriptor r.descriptor = some d := hd
      simp only
      refine Acts.trans (.one (.records op r.descriptor d hw hf hd)) (Works.acts ?_)
      refine Works.trans (Works.trans ?_ (spaceCheck_works _)) (enterReady_works _ _)
      refine Works.trans (putDescriptor_works (n := r.descriptor) (d := { d with staged := _, programmed := _ }) fun k => ?_)
        (.aside rfl rfl)
      exact ⟨k.numbers (r.descriptor, d) (mem_of_tget hd), k.deposits (r.descriptor, d) (mem_of_tget hd)⟩

theorem passWritten_acts {op : ProgramOp} (hw : s.store.wings = .both (.program op)) (hf : op.front ≠ .relocate) :
    Acts loose s (passWritten op (programTaken op writtenStripe s)) := by
  unfold passWritten; split
  · exact .one (.finishes op _ hw (.inl rfl) (.inr (.inl hf)))
  · have outputs := Acts.one (loose := loose) (.outputs op hw hf)
    simp only
    split
    · exact outputs.trans (Works.acts (Works.behind (createVersion_works _ _) rfl rfl))
    · exact outputs.trans (Works.acts (.aside rfl rfl))

theorem feedWritten_acts {op : ProgramOp} (m : loose ∨ s.control.mode ≠ .start) (hw : s.store.wings = .both (.program op)) :
    Acts loose s (feedWritten op (programTaken op writtenStripe s)) := by
  unfold feedWritten; split
  · rename_i hc; exact .one (.finishes op _ hw (.inl rfl) (.inl hc))
  · rename_i hc
    split
    · rename_i hf; exact intakeWritten_acts hw (by simp [hf])
    · rename_i hf; exact passWritten_acts hw (by simp [hf])
    · rename_i hf; exact copyWritten_acts m hw (by simpa using hc) hf

theorem feedFailed_acts {op : ProgramOp} (m : loose ∨ s.control.mode ≠ .start) (hw : s.store.wings = .both (.program op)) :
    Acts loose s (feedFailed op (programTaken op failedStripe s)) := by
  have finished : op.front ≠ .relocate → Acts loose s (programTaken op failedStripe s) :=
    fun hf => .one (.finishes op _ hw (.inr rfl) (.inr (.inl hf)))
  unfold feedFailed; split
  · rename_i hc; exact .one (.finishes op _ hw (.inr rfl) (.inl hc))
  · split
    · rename_i hf; exact (finished (by simp [hf])).trans (Works.acts (.aside rfl rfl))
    · rename_i hf
      refine (finished (by simp [hf])).trans (Works.acts ?_)
      unfold passFailed; split
      · exact .refl
      · exact .aside rfl rfl
    · exact copyFailed_acts m hw

/-- The program that completes is the one in flight. -/
theorem takeProgram_some {op : ProgramOp} (h : takeProgram s = some (op, t)) :
    s.store.wings = .both (.program op) ∧ t = { s with store.wings := .split none none, store.mark := none } := by
  unfold takeProgram at h
  split at h
  · rename_i hw; cases h; exact ⟨hw, rfl⟩
  · cases h

theorem Sane.mode (h : Sane loose s) {op : WideOp} (hw : s.store.wings = .both op) : loose ∨ s.control.mode ≠ .start :=
  h.calm.imp_right (fun k m => by simp [k m] at hw)

theorem leafProgramWritten_acts (ha : Sane loose s) (h : exec .leafProgramWritten s = .next t) : Acts loose s t := by
  cases h
  split
  · exact .refl
  · rename_i op u hu
    obtain ⟨hw, rfl⟩ := takeProgram_some hu
    refine Acts.concluded (Acts.trans (Works.acts (t := writeLeaf op s) ?_) (feedWritten_acts (ha.mode hw) hw)) ha.anchored
    exact flash_works (fun k => ordered_tput k _ _)

theorem leafProgramFailed_acts (ha : Sane loose s) (h : exec .leafProgramFailed s = .next t) : Acts loose s t := by
  cases h
  split
  · exact .refl
  · rename_i op u hu
    obtain ⟨hw, rfl⟩ := takeProgram_some hu
    refine Acts.concluded (Acts.trans (Works.acts (t := loseLeaf op.stripe op.place s) ?_) (feedFailed_acts (ha.mode hw) hw)) ha.anchored
    exact flash_works (fun k => ordered_tput k _ _)

/-! ### Erases complete -/

theorem takeErase_some {n : Nat} (h : takeErase s = some (n, t)) : s.store.wings = .both (.erase n) ∧
    t = { s with store.wings := .split none none, store.dirtyQueue := s.store.dirtyQueue.erase n } := by
  unfold takeErase at h
  split at h
  · rename_i hw; cases h; exact ⟨hw, rfl⟩
  · cases h

theorem loseStripe_flash (n : Nat) (s : State) :
    ∃ x k, loseStripe n s = { s with store.flash := x, store.lost := k } ∧ (Memory.wf s.store.flash → Memory.wf x) := by
  unfold loseStripe
  generalize List.range Config.leavesPerStripe = l
  induction l generalizing s with
  | nil => exact ⟨_, _, rfl, id⟩
  | cons i l ih =>
    obtain ⟨x, k, h, hx⟩ := ih (loseLeaf n i s)
    exact ⟨x, k, h, fun hs => hx (ordered_tput hs _ _)⟩

theorem stripeEraseComplete_acts (ha : Sane loose s) (e : Bool) (h : exec (.stripeEraseComplete e) s = .next t) :
    Acts loose s t := by
  cases h
  split
  · exact .refl
  · rename_i n u hu
    obtain ⟨hw, rfl⟩ := takeErase_some hu
    refine Acts.concluded ?_ ha.anchored
    split
    · have erased : Acts loose (eraseLeaves n s) _ := .one (.erased n hw)
      refine Acts.trans (Works.acts (t := eraseLeaves n s) ?_) (erased.trans (Works.acts (.one .examines)))
      exact flash_works (fun k => ordered_filter k _)
    · unfold eraseFailed
      obtain ⟨x, k, hl, hx⟩ := loseStripe_flash n ({ s with store.wings := .split none none, store.dirtyQueue := s.store.dirtyQueue.erase n })
      rw [hl]
      have worn : Acts loose { s with store.flash := x, store.lost := k } _ := .one (.wears n hw)
      exact Acts.trans (Works.acts (flash_works (n := k) hx)) (worn.trans (judgeRetire_works _).acts)

end Sys2Proof.Machine
end

section
namespace Sys2Proof.Machine

variable {loose : Prop} {s t : State}

/-! ### Serving a request -/

theorem mode_of_screen {ports : List Port} {f : Frame} (h : screen ports false f s = none) : s.control.mode ≠ .start := by
  intro m
  unfold screen at h
  split at h
  · cases h
  · simp [m] at h

theorem serveWith_acts {after : State → State} {ports : List Port} {inStart : Bool} {f : Frame} {rule : State → State × Answer}
    (hr : screen ports inStart f s = none → Works loose s (rule s).1)
    (hafter : ∀ t, Acts loose s t → Acts loose s (after t)) : Acts loose s (serveWith after ports inStart f rule s) := by
  unfold serveWith
  split
  · exact .refl
  · split
    · exact Works.acts ((refuse_works _ _ _ s).trans (transmit_works _ _))
    · split
      · exact Works.acts ((reply_works _ _ _ s).trans (transmit_works _ _))
      · rename_i h
        exact hafter _ ((hr h).trans (reply_works _ _ _ _)).acts

/-- A request whose rule the blocks' changes make up. -/
theorem serve_acts {ports : List Port} {f : Frame} {rule : State → State × Answer} (hr : Works loose s (rule s).1) :
    Acts loose s (serve ports f rule s) :=
  serveWith_acts (fun _ => hr) (fun _ h => h.trans (transmit_works _ _).acts)

theorem serveAlways_acts {f : Frame} {rule : State → State × Answer} (hr : Works loose s (rule s).1) :
    Acts loose s (serveAlways f rule s) :=
  serveWith_acts (fun _ => hr) (fun _ h => h.trans (transmit_works _ _).acts)

theorem serveSettling_acts {ports : List Port} {f : Frame} {rule : State → State × Answer} (ha : Sane loose s)
    (hr : s.control.mode ≠ .start → Works loose s (rule s).1) : Acts loose s (serveSettling ports f rule s) :=
  serveWith_acts (fun h => hr (mode_of_screen h)) (fun _ h => h.concluded ha.anchored)

/-! ### The rules of chapters 2 and 3 -/

theorem openEdition_works (p : Port) (date number : Nat) (s : State) : Works loose s (openEdition p date number s).1 := by
  unfold openEdition; simp only; split
  · exact .refl
  · split
    · exact .refl
    · split
      · exact .refl
      · rename_i h; exact putEdition_works (fun _ => Nat.not_le.1 h)

theorem closeEdition_works (p : Port) (h : Nat) (r : Stamp) (s : State) : Works loose s (closeEdition p h r s).1 := by
  unfold closeEdition; split
  · exact .refl
  · rename_i e he
    split
    · exact .refl
    · split
      · exact .refl
      · split
        · exact .refl
        · have put : ∀ e, Works loose s (s.putEdition h e) := fun e => putEdition_works (see_handle_lt he)
          simp only
          split
          · exact (put _).trans (publish_works _ _)
          · exact put _

theorem abandonEdition_works (m : s.control.mode ≠ .start) (p : Port) (h : Nat) :
    Works loose s (abandonEdition p h s).1 := by
  unfold abandonEdition; split
  · exact .refl
  · split
    · exact .refl
    · have gone : Works loose s (removeObjects h (dropDeposits (s.openDeposits h) s)) :=
        (dropDeposits_works _ s).trans (removeObjects_works h _)
      simp only
      generalize removeObjects h (dropDeposits (s.openDeposits h) s) = t at gone
      have freed : Works loose t { t with catalog.editions := tdel t.catalog.editions h } :=
        .one (.refiles ⟨rfl, fun _ k => k, fun _ k => .inl k, fun k =>
          { k with editions := ordered_tdel k.editions h, handles := fun x hx => k.handles x (mem_tdel hx) }⟩)
      exact (gone.trans freed).trans (withdrawCopy_works (by rwa [ne_eq, (gone.trans freed).mode]))

theorem withdrawEdition_works (p : Port) (h : Nat) (s : State) : Works loose s (withdrawEdition p h s).1 := by
  unfold withdrawEdition; split
  · exact .refl
  · rename_i e he
    split
    · exact .refl
    · have h1 : Works loose s (notifyAll .editionWithdrawn allPorts (s.putEdition h { e with state := .withdrawn })) :=
        (putEdition_works (see_handle_lt he)).trans (notifyAll_works _ _ _)
      exact (h1.trans (releaseOrders_works _ _ _ _)).trans (abortPasses_works _ _ _)

theorem reinstateEdition_works (p : Port) (h : Nat) (s : State) : Works loose s (reinstateEdition p h s).1 := by
  unfold reinstateEdition; split
  · exact .refl
  · rename_i e he
    split
    · exact .refl
    · exact Works.trans (putEdition_works (see_handle_lt he)) (notifyAll_works _ _ (s.putEdition h { e with state := .published }))

theorem removeObject_editions (o : Object) (s : State) : (removeObject o s).catalog.editions = s.catalog.editions := by
  have h : (o.versions.foldl (fun s v => extentsDie v.extents s) s).catalog.editions = s.catalog.editions := by
    refine List.foldlRecOn (motive := fun t : State => t.catalog.editions = s.catalog.editions) _ _ rfl (fun t ht v _ => ?_)
    refine Eq.trans ?_ ht
    unfold extentsDie
    exact List.foldlRecOn (motive := fun u : State => u.catalog.editions = t.catalog.editions) _ _ rfl (fun _ hu _ _ => hu)
  unfold removeObject; simp only; split <;> exact h

theorem removeObjects_editions (h : Nat) (s : State) : (removeObjects h s).catalog.editions = s.catalog.editions := by
  unfold removeObjects
  exact List.foldlRecOn (motive := fun t : State => t.catalog.editions = s.catalog.editions) _ _ rfl
    (fun t ht o _ => (removeObject_editions o t).trans ht)

theorem purgeEdition_works (m : s.control.mode ≠ .start) (p : Port) (h : Nat) : Works loose s (purgeEdition p h s).1 := by
  unfold purgeEdition; split
  · exact .refl
  · rename_i e he
    split
    · exact .refl
    · have he' : (removeObjects h s).see p h = .ok e := by
        simpa [State.see, State.edition, removeObjects_editions] using he
      have gone : Works loose s ((removeObjects h s).putEdition h { e with state := .purged }) :=
        (removeObjects_works h s).trans (putEdition_works (see_handle_lt he'))
      exact gone.trans (withdrawCopy_works (by rwa [ne_eq, gone.mode]))

theorem discardVersion_works (m : s.control.mode ≠ .start) (p : Port) (w : WireKey) (number : Nat) :
    Works loose s (discardVersion p w number s).1 := by
  unfold discardVersion; split
  · exact .refl
  · rename_i e o ho
    split
    · exact .refl
    · split
      · exact .refl
      · rename_i v _
        split
        · exact .refl
        · obtain ⟨k, hk⟩ := seeObject_object ho
          have gone : Works loose s (removeVersion o v s) := removeVersion_works v hk
          exact gone.trans (withdrawCopy_works (by rwa [ne_eq, gone.mode]))

theorem keyOf_some {w : WireKey} {k : Key} (h : keyOf w = some k) :
    k.handle = w.handle ∧ numberInRange k.kind k.number = true := by
  unfold keyOf at h
  split at h
  · split at h
    · rename_i hr; cases h; exact ⟨rfl, hr⟩
    · cases h
  · cases h

/-- BEGIN_OBJECT takes the lowest free descriptor. -/
theorem beginChecks_lt {p : Port} {c : Nat} {ks : List Key} {n : Nat} (h : s.beginChecks p c ks = .ok n) :
    n < Config.descriptors := by
  unfold State.beginChecks at h
  simp only at h
  split at h
  · cases h
  · split at h
    · cases h
    · split at h
      · cases h
      · split at h
        · cases h
        · split at h
          · cases h
          · rename_i n' hn
            split at h
            · cases h
            · cases h
              unfold State.beginChecks.firstFree lowestFree at hn
              exact List.mem_range.1 (List.mem_of_find?_eq_some hn)

theorem beginObject_works (p : Port) (h kind number length rights contributor format : Nat) (placements : List WireKey)
    (s : State) : Works loose s (beginObject p h kind number length rights contributor format placements s).1 := by
  unfold beginObject; split
  · exact .refl
  · rename_i e he
    split
    · exact .refl
    · split
      · exact .refl
      · split
        · exact .refl
        · rename_i key hkey
          split
          · exact .refl
          · split
            · split
              · exact .refl
              · rename_i hargs
                split
                · exact .refl
                · rename_i n hn
                  obtain ⟨hk, hnum⟩ := keyOf_some hkey
                  simp only [Bool.not_eq_true', Bool.not_eq_false, Bool.and_eq_true, decide_eq_true_eq] at hargs
                  refine putDescriptor_works fun k => ⟨beginChecks_lt hn, ⟨?_, hnum⟩, hargs.1.2⟩
                  show key.handle < _
                  rw [hk]
                  exact see_handle_lt he k
            · exact .refl

theorem holding_descriptor {p : Port} {n : Nat} {d : Descriptor} (h : s.holding p n = some d) : s.descriptor n = some d := by
  unfold State.holding at h
  split at h
  · split at h
    · cases h; assumption
    · cases h
  · cases h

theorem tellDropped_works (n : Nat) (d : Descriptor) (s : State) : Works loose s (tellDropped n d s).1 := freeDescriptor_works n s

theorem putChunk_works (p : Port) (n offset : Nat) (data : List Octet) (s : State) :
    Works loose s (putChunk p n offset data s).1 := by
  unfold putChunk; split
  · exact .refl
  · rename_i d hd
    split
    · exact tellDropped_works n d s
    · iterate 5
        split
        · exact .refl
      split
      · exact .aside rfl rfl
      · have put : Works loose s (s.putDescriptor n (takeChunk data s.intake.nextSequence d)) :=
          putDescriptor_works (fun k => have r := descriptor_inRange (holding_descriptor hd) k; r)
        exact put.trans (.aside rfl rfl)

theorem endObject_works (p : Port) (n : Nat) (check : BitVec 32) (s : State) : Works loose s (endObject p n check s).1 := by
  unfold endObject; split
  · exact .refl
  · rename_i d hd
    split
    · exact tellDropped_works n d s
    · iterate 2
        split
        · exact .refl
      split
      · exact dropDeposit_works (by simp)
      · have put : Works loose s (s.putDescriptor n { d with state := .ended }) :=
          putDescriptor_works (fun k => have r := descriptor_inRange (holding_descriptor hd) k; r)
        exact put.trans (enterReady_works _ _)

theorem dropObject_works (p : Port) (n : Nat) (s : State) : Works loose s (dropObject p n s).1 := by
  unfold dropObject; split
  · exact .refl
  · split
    · exact tellDropped_works _ _ s
    · exact dropDeposit_works (by simp)

/-! ### The rules of chapters 4 and 6 -/

theorem readObject_works (p : Port) (w : WireKey) (v : Source) (offset window : Nat) (s : State) :
    Works loose s (readObject p w v offset window s).1 := by
  unfold readObject; split
  · exact .refl
  · rename_i o ho
    split
    · exact .refl
    · rename_i v hv
      split
      · exact .refl
      · split
        · exact .refl
        · split
          · exact .refl
          · exact acceptStream_works _ _ _ (version_extents (seeObject_object ho) (choose_mem hv))

theorem cancelStream_works (p : Port) (id : Nat) (s : State) : Works loose s (cancelStream p id s).1 := by
  unfold cancelStream; split
  · exact cutStream_works _ _ _ _ s
  · split <;> exact .refl

theorem submitPass_works (w : WireKey) (source : Source) (mode stride low high k p : Nat) (s : State) :
    Works loose s (submitPass w source mode stride low high k p s).1 := by
  unfold submitPass; split
  · exact .refl
  · split
    · exact .refl
    · split
      · exact .refl
      · split
        · exact .refl
        · exact .aside rfl rfl

theorem cancelPass_works (id : Nat) (s : State) : Works loose s (cancelPass id s).1 := by
  unfold cancelPass; split
  · exact abortPasses_works _ _ s
  · exact .refl

/-! ### The rules of chapters 7, 9 and 10 -/

theorem openAccount_works (id c l : Nat) (s : State) : Works loose s (openAccount id c l s).1 := by
  unfold openAccount; split
  · exact .refl
  · split
    · exact .refl
    · exact putAccount_works _ _ s

theorem setAccount_works (id c l : Nat) (s : State) : Works loose s (setAccount id c l s).1 := by
  unfold setAccount; simp only; split
  · exact .refl
  · split
    · exact .refl
    · exact putAccount_works _ _ s

theorem creditAccount_works (id n : Nat) (s : State) : Works loose s (creditAccount id n s).1 := by
  unfold creditAccount; simp only
  iterate 3
    split
    · exact .refl
  exact putAccount_works _ _ s

theorem suspendAccount_works (id : Nat) (s : State) : Works loose s (suspendAccount id s).1 := by
  unfold suspendAccount; simp only; split
  · exact .refl
  · split
    · exact .refl
    · exact .refl
    · exact (putAccount_works _ _ s).trans (releaseOrders_works _ _ _ _)

theorem reinstateAccount_works (id : Nat) (s : State) : Works loose s (reinstateAccount id s).1 := by
  unfold reinstateAccount; simp only; split
  · exact .refl
  · split
    · exact .refl
    · exact .refl
    · exact putAccount_works _ _ s

theorem closeAccount_works (id : Nat) (s : State) : Works loose s (closeAccount id s).1 := by
  unfold closeAccount; simp only
  iterate 3
    split
    · exact .refl
  exact putAccount_works _ _ s

theorem registerContributor_works (id : Nat) (s : State) : Works loose s (registerContributor id s).1 := by
  unfold registerContributor; simp only
  iterate 2
    split
    · exact .refl
  exact putContributor_works _ _ s

theorem setContributorState_works (id x : Nat) (s : State) : Works loose s (setContributorState id x s).1 := by
  unfold setContributorState; simp only; split
  · exact .refl
  · iterate 2
      split
      · exact .refl
    exact putContributor_works _ _ s

theorem setShare_works (id x : Nat) (s : State) : Works loose s (setShare id x s).1 := by
  unfold setShare; simp only
  iterate 2
    split
    · exact .refl
  exact putContributor_works _ _ s

theorem setTariff_works (k u c a b n m : Nat) (s : State) : Works loose s (setTariff k u c a b n m s).1 := by
  unfold setTariff; split
  · split
    · exact .refl
    · exact .aside rfl rfl
  · exact .refl

theorem setTariffGlobals_works (g : Globals) (s : State) : Works loose s (setTariffGlobals g s).1 := by
  unfold setTariffGlobals; split
  · exact .aside rfl rfl
  · exact .refl

/-- A sale's version is one of the object sold. -/
theorem priceObject_version {a : Nat} {e : Edition} {o : Object} {u : Usage} {n : Nat} {q : Sale}
    (h : s.priceObject a e o u n = .ok q) : q.object = o ∧ q.version ∈ o.versions := by
  unfold State.priceObject at h
  simp only at h
  split at h
  · cases h
  · split at h
    · cases h
    · split at h
      · cases h
      · rename_i v hv; cases h; exact ⟨rfl, best_mem hv⟩

theorem order_works (a : Nat) (w : WireKey) (u n : Nat) (s : State) : Works loose s (order a w u n s).1 := by
  unfold order; split
  · exact .refl
  · split
    · exact .refl
    · exact .refl
    · split
      · exact .refl
      · rename_i e o ho
        split
        · exact .refl
        · split
          · exact .refl
          · split
            · exact .refl
            · rename_i q hq
              unfold State.placeOrder; simp only
              split
              · exact .refl
              · split
                · exact .refl
                · split
                  · exact .refl
                  · refine (putAccount_works _ _ s).trans (acceptStream_works _ _ _ ?_)
                    exact version_extents (seeObject_object ho) (priceObject_version hq).2

theorem quote_state (a : Nat) (w : WireKey) (u n : Nat) (s : State) : (quote a w u n s).1 = s := by
  unfold quote; split
  · rfl
  · split
    · rfl
    · split
      · rfl
      · split
        · rfl
        · split <;> rfl

theorem setPeriodLength_works (d : Nat) (s : State) : Works loose s (setPeriodLength d s).1 := by
  unfold setPeriodLength; split
  · exact .refl
  · exact .aside rfl rfl

theorem closeAttempt_works (s : State) : Works loose s (closeAttempt s) := by
  unfold closeAttempt; simp only; split <;> exact .aside rfl rfl

theorem takeStatements_state (s : State) : (takeStatements s).1 = s := by
  unfold takeStatements; simp only; split <;> rfl

theorem releaseStatements_works (n : Nat) (s : State) : Works loose s (releaseStatements n s).1 := by
  unfold releaseStatements; simp only; split
  · exact .refl
  · exact .aside rfl rfl

theorem findEdition_state (p : Port) (n : EditionName) (s : State) : (findEdition p n s).1 = s := by
  unfold findEdition; split
  · rfl
  · split <;> rfl

theorem findObject_state (p : Port) (w : WireKey) (s : State) : (findObject p w s).1 = s := by
  unfold findObject; split <;> rfl

theorem findAccount_state (id : Nat) (s : State) : (findAccount id s).1 = s := by
  unfold findAccount; split
  · rfl
  · split <;> rfl

/-! ### The rules of chapter 11 -/

theorem setClock_works (d k : Nat) (s : State) : Works loose s (setClock d k s).1 := by
  unfold setClock; split
  · exact .refl
  · exact .aside rfl rfl

theorem setOperating_works (a b c d e : Nat) (s : State) : Works loose s (setOperating a b c d e s).1 := by
  unfold setOperating; split
  · exact .refl
  · exact (judgeRetire_works _).behind rfl rfl

theorem resumeWrites_works (s : State) : Works loose s (resumeWrites s).1 := by
  unfold resumeWrites; split
  · exact .refl
  · rename_i m
    split
    · exact .refl
    · have m : s.control.mode ≠ .start := by simp_all
      refine Works.trans ((Works.one (.modes .normal m (by simp))).trans ?_) (notifyAll_works _ _ _)
      exact .aside rfl rfl

theorem postMessage_works (p : Port) (b : BitVec 8) (x : List Octet) (s : State) : Works loose s (postMessage p b x s).1 := by
  unfold postMessage; simp only; split
  · exact .refl
  · split
    · exact .refl
    · exact .foldl (fun s t => deliver ⟨p, x⟩ t s) (fun s t => .aside rfl rfl) _ s

theorem takeMessage_works (p : Port) (s : State) : Works loose s (takeMessage p s).1 := by
  unfold takeMessage; split
  · exact .refl
  · exact .aside rfl rfl

/-! ### Events of the links and the clock -/

theorem answerFrame_works (p : Port) (tag : Octet) (a b : Status) (s : State) : Works loose s (answerFrame p tag a b s) := by
  unfold answerFrame; split
  · exact .refl
  · split
    · exact (refuse_works _ _ _ s).trans (transmit_works _ _)
    · exact (reply_works _ _ _ s).trans (transmit_works _ _)

theorem resetWork_works (p : Port) (s : State) : Works loose s (resetWork p s) := by
  cases p with
  | desk => exact resetDeposits_works .desk s
  | bench => exact (resetDeposits_works .bench s).trans (resetPasses_works _)
  | counter => exact .refl

theorem resetBoard_works (p : Port) (s : State) : Works loose s (resetBoard p s) := .aside rfl rfl

theorem resetPort_works (p : Port) (s : State) : Works loose s (resetPort p s) := by
  have link : Works loose s { s with links := s.links.set p { Link.reset with breakHeld := true } } := .aside rfl rfl
  exact ((link.trans (resetStreams_works p _)).trans (resetWork_works p _)).trans (resetBoard_works p _)

theorem holdInStart_works (p : Port) (s : State) : Works loose s (holdInStart p s) := by
  unfold holdInStart; split
  · exact holdFor_works p s
  · exact .refl

theorem stepCountdown_works (s : State) : Works loose s (stepCountdown s) := by
  unfold stepCountdown; split
  · exact .refl
  · simp only; split
    · exact (closeAttempt_works _).behind rfl rfl
    · exact .aside rfl rfl

theorem markDay_acts (ha : Sane loose s) : Acts loose s (markDay s) := by
  unfold markDay; split
  · exact Acts.concluded (Works.acts ((stepCountdown_works _).behind rfl rfl)) ha.anchored
  · exact .refl

theorem riseTick_works (s : State) : Works loose s (riseTick s) := by
  unfold riseTick; simp only; split
  · exact (notifyAll_works _ _ _).behind rfl rfl
  · exact .aside rfl rfl

/-! ### The supply and start-up -/

theorem recoverEdition_works (h : Nat) (e : Edition) (s : State) : Works loose s (recoverEdition h e s) := by
  unfold recoverEdition; split
  · split
    · exact publish_works h s
    · exact returnToOpen_works h s
  · exact .refl

theorem emptyProvisional_works (s : State) : Works loose s { s with intake.provisional := [] } := by
  refine .one (.refiles ⟨rfl, fun e he => ?_, fun _ k => .inl k, fun k => ?_⟩)
  · rcases mem_liveExtents.1 he with he | ⟨x, hx, -⟩ | he
    · exact mem_liveExtents.2 (.inl he)
    · cases hx
    · exact mem_liveExtents.2 (.inr (.inr he))
  · exact { k with provisional := ordered_nil, records := by simp }

theorem recoverOutputs_works (s : State) : Works loose s (recoverOutputs s) := by
  have h : Works loose s (s.intake.provisional.foldl (fun s e => extentsDie e.2 s) s) :=
    .foldl (fun s (e : Nat × List Extent) => extentsDie e.2 s) (fun s e => extentsDie_works e.2 s) _ s
  exact (h.trans (extentsDie_works _ _)).trans ((emptyProvisional_works _).trans (emptyOutput_works _))

/-- Recovery after the store's: the editions, the records, held, and the stripes that leave FULL. -/
theorem recover_works (ha : Anchored loose s) : Works loose (recoverStore s) (recover s) := by
  have h1 : Works loose (recoverStore s) (recoverCatalog (recoverStore s)) :=
    .foldl _ (fun s (e : Nat × Edition) => recoverEdition_works e.1 e.2 s) _ _
  have h2 := h1.trans (recoverOutputs_works _)
  have h3 : Works loose (recoverStore s) (clearHeld (recoverOutputs (recoverCatalog (recoverStore s)))) :=
    h2.trans (.aside rfl rfl)
  refine h3.trans (leaveFull_works fun he => ?_)
  obtain ⟨x, hx⟩ := recoverStore_rest s
  have e : (recoverStore s).store.wings = s.store.wings := by rw [hx]
  rw [h3.erasing, e] at he
  exact (ha he).imp_right List.length_pos_iff.2

/-- What stands at the end of recovery or of format: the mark is cleared, the part works and is formatted, and it is in START. -/
structure Restored (s : State) : Prop where
  mark : s.store.mark = none
  running : s.running = true
  formatted : s.control.formatted = true
  start : s.control.mode = .start

theorem recoverOrFormat_acts (ha : Sane loose s) (m : s.control.mode = .start) (hr : s.running = true) :
    Acts loose s (recoverOrFormat s) ∧ Restored (recoverOrFormat s) := by
  have clock : Acts loose s (restartClock s) := Works.acts (.aside rfl rfl)
  unfold recoverOrFormat
  split
  · rename_i hf
    have w := recover_works (loose := loose) (s := restartClock s) ha.anchored
    have r : Acts loose (restartClock s) (recoverStore (restartClock s)) := .one (.recovers m)
    refine ⟨(clock.trans r).trans w.acts, ?_⟩
    obtain ⟨x, hx⟩ := recoverStore_rest (restartClock s)
    have e := w.steady
    rw [hx] at e
    simp only [State.steady, Steady.mk.injEq] at e
    obtain ⟨h1, -, -, h4, h5, h6, h7⟩ := e
    refine ⟨h1, ?_, h6.trans hf, ?_⟩
    · unfold State.running at hr ⊢; rw [h4, h5]; exact hr
    · exact beq_iff_eq.1 (h7.trans (beq_iff_eq.2 m))
  · exact ⟨clock.trans (.one (.formats m)), rfl, hr, rfl, m⟩

theorem leaveStart_acts (m : s.control.mode = .start) (hk : s.store.mark = none) (hr : s.running = true)
    (hf : s.control.formatted = true) : Acts loose s (leaveStart s) := by
  unfold leaveStart
  simp only
  generalize (s.retireCondition && s.control.settings.retireAction == .preserve) = worn
  have begins : Acts loose s { s with control.mode := if worn = true then .preserve else .normal } :=
    .one (.begins _ m (by split <;> simp) hr hf hk)
  exact begins.trans (Works.acts ((notifyAll_works _ _ _).behind rfl rfl))

theorem startUpEnd_acts (ha : Sane loose s) (h : exec .startUpEnd s = .next t) : Acts loose s t := by
  cases h
  split
  · rename_i hb
    simp only [Bool.and_eq_true, beq_iff_eq] at hb
    obtain ⟨h1, hr⟩ := recoverOrFormat_acts ha hb.2 hb.1
    refine Acts.concluded (h1.trans ?_) ha.anchored
    have held : Acts loose (recoverOrFormat s) (holdConditions (recoverOrFormat s)) := Works.acts (.aside rfl rfl)
    refine held.trans (leaveStart_acts hr.start hr.mark hr.running hr.formatted)
  · exact .refl

end Sys2Proof.Machine
end

section
namespace Sys2Proof.Machine

variable {loose : Prop} {s t : State}

/-! ### Every command -/

theorem powerLoss_acts (h : exec .powerLoss s = .next t) : Acts loose s t := by
  cases h
  split
  · exact .one (.cuts false (loseVolatile s).control.resetLine)
  · exact .refl

theorem resetLineAsserted_acts (h : exec .resetLineAsserted s = .next t) : Acts loose s t := by
  cases h
  split
  · exact .refl
  · exact .one (.cuts (loseVolatile s).control.powered true)

theorem powerApplied_acts (h : exec .powerApplied s = .next t) : Acts loose s t := by
  cases h
  split
  · exact .refl
  · rename_i hp
    have hr : s.running = false := by simp [State.running, hp]
    simp only
    split
    · exact .one (.supplies true s.control.resetLine s.control.mode hr (.inl rfl))
    · exact (Acts.one (.supplies true s.control.resetLine .start hr (.inr rfl))).trans (Works.acts (.aside rfl rfl))

theorem resetLineReleased_acts (h : exec .resetLineReleased s = .next t) : Acts loose s t := by
  cases h
  split
  · rename_i hp
    have hr : s.running = false := by simp [State.running, hp]
    simp only
    split
    · exact (Acts.one (.supplies s.control.powered false .start hr (.inr rfl))).trans (Works.acts (.aside rfl rfl))
    · exact .one (.supplies s.control.powered false s.control.mode hr (.inl rfl))
  · exact .refl

theorem guardLine_acts (ha : Sane loose s) (b : Bool) : Acts loose s (guardLine b s) := by
  have level : Acts loose s { s with store.guardAsserted := b } := Works.acts (.aside rfl rfl)
  unfold guardLine; simp only; split
  · exact level.concluded ha.anchored
  · exact level

theorem linkReset_acts (ha : Sane loose s) (p : Port) (h : exec (.linkReset p) s = .next t) : Acts loose s t := by
  cases h
  split
  · exact Acts.concluded (Works.acts ((resetPort_works p s).trans (holdInStart_works p _))) ha.anchored
  · exact .refl

theorem dataFrameSent_acts (ha : Sane loose s) (p : Port) (h : exec (.dataFrameSent p) s = .next t) : Acts loose s t := by
  cases h
  split
  · exact Acts.concluded (Works.acts ((creditFrame_works p _ _ _).behind rfl rfl)) ha.anchored
  · exact .refl

theorem endFrameSent_acts (ha : Sane loose s) (p : Port) (h : exec (.endFrameSent p) s = .next t) : Acts loose s t := by
  cases h
  split
  · exact Acts.concluded (Works.acts (.aside rfl rfl)) ha.anchored
  · exact .refl

theorem replySent_acts (p : Port) (h : exec (.replySent p) s = .next t) : Acts loose s t := by
  cases h
  split
  · exact Works.acts ((transmit_works p _).behind rfl rfl)
  · exact .refl

/-- A chain that a command's equation names. -/
theorem acts_of_eq {u : State} (h : (.next u : Host.Outcome State Fault Refusal) = .next t) (a : Acts loose s u) : Acts loose s t := by
  cases h; exact a

/-- Every command is a chain of the changes of an event. -/
theorem exec_acts {c : Instr} (ha : Sane loose s) (h : exec c s = .next t) : Acts loose s t := by
  cases c with
  | openEdition f d n => exact acts_of_eq h (serve_acts (openEdition_works _ _ _ s))
  | beginObject f a b c d e g i ps => exact acts_of_eq h (serve_acts (beginObject_works _ _ _ _ _ _ _ _ _ s))
  | putChunk f n o d => exact acts_of_eq h (serveSettling_acts ha fun _ => putChunk_works _ _ _ _ s)
  | endObject f n k => exact acts_of_eq h (serveSettling_acts ha fun _ => endObject_works _ _ _ s)
  | dropObject f n => exact acts_of_eq h (serveSettling_acts ha fun _ => dropObject_works _ _ s)
  | closeEdition f n r => exact acts_of_eq h (serveSettling_acts ha fun _ => closeEdition_works _ _ _ s)
  | abandonEdition f n => exact acts_of_eq h (serveSettling_acts ha fun m => abandonEdition_works m _ _)
  | read f w v o l => exact acts_of_eq h (serveSettling_acts ha fun _ => readObject_works _ _ _ _ _ s)
  | withdrawEdition f n => exact acts_of_eq h (serveSettling_acts ha fun _ => withdrawEdition_works _ _ s)
  | reinstateEdition f n => exact acts_of_eq h (serve_acts (reinstateEdition_works _ _ s))
  | purgeEdition f n => exact acts_of_eq h (serveSettling_acts ha fun m => purgeEdition_works m _ _)
  | registerContributor f n => exact acts_of_eq h (serve_acts (registerContributor_works _ s))
  | setContributorState f n x => exact acts_of_eq h (serve_acts (setContributorState_works _ _ s))
  | setClock f d k => exact acts_of_eq h (serveSettling_acts ha fun _ => setClock_works _ _ s)
  | setOperating f a b c d e => exact acts_of_eq h (serveSettling_acts ha fun _ => setOperating_works _ _ _ _ _ s)
  | resumeWrites f => exact acts_of_eq h (serveSettling_acts ha fun _ => resumeWrites_works s)
  | submitPass f w x m d l i k p => exact acts_of_eq h (serveSettling_acts ha fun _ => submitPass_works _ _ _ _ _ _ _ _ s)
  | cancelPass f n => exact acts_of_eq h (serveSettling_acts ha fun _ => cancelPass_works _ s)
  | passResult f => exact acts_of_eq h (serve_acts .refl)
  | takeSurvey f => exact acts_of_eq h (serve_acts .refl)
  | discardVersion f w n => exact acts_of_eq h (serveSettling_acts ha fun m => discardVersion_works m _ _ _)
  | openAccount f a b c => exact acts_of_eq h (serve_acts (openAccount_works _ _ _ s))
  | setAccount f a b c => exact acts_of_eq h (serve_acts (setAccount_works _ _ _ s))
  | creditAccount f a b => exact acts_of_eq h (serve_acts (creditAccount_works _ _ s))
  | suspendAccount f a => exact acts_of_eq h (serveSettling_acts ha fun _ => suspendAccount_works _ s)
  | reinstateAccount f a => exact acts_of_eq h (serve_acts (reinstateAccount_works _ s))
  | closeAccount f a => exact acts_of_eq h (serve_acts (closeAccount_works _ s))
  | findAccount f a => exact acts_of_eq h (serve_acts (.of_eq (findAccount_state _ s)))
  | setShare f a b => exact acts_of_eq h (serve_acts (setShare_works _ _ s))
  | setTariff f k u c a b n m => exact acts_of_eq h (serve_acts (setTariff_works _ _ _ _ _ _ _ s))
  | setTariffGlobals f a b c d r p => exact acts_of_eq h (serve_acts (setTariffGlobals_works _ s))
  | setPeriodLength f d => exact acts_of_eq h (serve_acts (setPeriodLength_works _ s))
  | quote f a w u n => exact acts_of_eq h (serve_acts (.of_eq (quote_state _ _ _ _ s)))
  | order f a w u n => exact acts_of_eq h (serveSettling_acts ha fun _ => order_works _ _ _ _ s)
  | closePeriod f => exact acts_of_eq h (serve_acts (closeAttempt_works s))
  | takeStatements f => exact acts_of_eq h (serve_acts (.of_eq (takeStatements_state s)))
  | releaseStatements f n => exact acts_of_eq h (serve_acts (releaseStatements_works _ s))
  | findEdition f n => exact acts_of_eq h (serve_acts (.of_eq (findEdition_state _ _ s)))
  | findObject f w => exact acts_of_eq h (serve_acts (.of_eq (findObject_state _ _ s)))
  | cancelStream f n => exact acts_of_eq h (serveSettling_acts ha fun _ => cancelStream_works _ _ s)
  | status f => exact acts_of_eq h (serveAlways_acts .refl)
  | identify f => exact acts_of_eq h (serveAlways_acts .refl)
  | takeNotices f => exact acts_of_eq h (serve_acts (.aside rfl rfl))
  | setNoticeMask f k => exact acts_of_eq h (serve_acts (.aside rfl rfl))
  | postMessage f b x => exact acts_of_eq h (serve_acts (postMessage_works _ _ _ s))
  | takeMessage f => exact acts_of_eq h (serve_acts (takeMessage_works _ s))
  | unknownRequest p k c =>
    refine acts_of_eq h (Works.acts ?_)
    split
    · exact .refl
    · exact answerFrame_works _ _ _ _ s
  | badFrame p k => exact acts_of_eq h (answerFrame_works _ _ _ _ s).acts
  | busy p k m =>
    refine acts_of_eq h (Works.acts ?_)
    split
    · exact answerFrame_works _ _ _ _ s
    · exact .refl
  | replySent p => exact replySent_acts p h
  | dataFrameSent p => exact dataFrameSent_acts ha p h
  | endFrameSent p => exact endFrameSent_acts ha p h
  | sheetFetchComplete w d => exact sheetFetchComplete_acts ha w d h
  | leafProgramWritten => exact leafProgramWritten_acts ha h
  | leafProgramFailed => exact leafProgramFailed_acts ha h
  | stripeEraseComplete e => exact stripeEraseComplete_acts ha e h
  | dayMark => exact acts_of_eq h (markDay_acts ha)
  | tick =>
    refine acts_of_eq h (Works.acts ?_)
    split
    · exact riseTick_works s
    · exact .refl
  | clockSaturated =>
    refine acts_of_eq h (Works.acts ?_)
    split
    · exact riseTick_works s
    · exact .refl
  | countdownExpiry =>
    refine acts_of_eq h ?_
    split
    · exact markDay_acts ha
    · exact .refl
  | storeGuardAsserted => exact acts_of_eq h (guardLine_acts ha true)
  | storeGuardReleased => exact acts_of_eq h (guardLine_acts ha false)
  | linkReset p => exact linkReset_acts ha p h
  | breakEnd p =>
    refine acts_of_eq h (Works.acts ?_)
    split
    · exact (transmit_works p _).behind rfl rfl
    · exact .refl
  | powerLoss => exact powerLoss_acts h
  | resetLineAsserted => exact resetLineAsserted_acts h
  | powerApplied => exact powerApplied_acts h
  | resetLineReleased => exact resetLineReleased_acts h
  | startUpEnd => exact startUpEnd_acts ha h
  | statementMove =>
    refine acts_of_eq h (Works.acts ?_)
    split
    · refine (notify_works _ _ _).behind (t := moveStatement s) ?_ ?_ <;> (unfold moveStatement; split <;> rfl)
    · exact .refl

/-- A step takes the front command from the queue and is a chain of the changes of an event. -/
theorem step_acts (ha : Sane loose s) (h : step s = .next t) : Acts loose s t := by
  unfold step at h
  split at h
  · cases h; exact .refl
  · rename_i c rest _
    have pending : Acts loose s { s with pending := rest } := Works.acts (.aside rfl rfl)
    exact pending.trans (exec_acts (s := { s with pending := rest }) ⟨ha.anchored, ha.calm⟩ h)

/-- An invariant that each change of an event keeps is kept by every step. -/
theorem step_keeps {P : State → Prop} (hs : P s → Sane loose s) (hk : ∀ s t : State, Event loose s t → P s → P t) (hp : P s)
    (h : step s = .next t) : P t := by
  have a := step_acts (hs hp) h
  clear h
  induction a with
  | refl => exact hp
  | tail _ e ih => exact hk _ _ e ih

end Sys2Proof.Machine
end

section
/-! StepKeepsWings: each change of an event keeps the mark at the program in flight and the erase in flight at the dirty queue's head. -/

namespace Sys2Proof.Machine

variable {loose : Prop} {s t : State}

theorem steady_running (h : t.steady = s.steady) : t.running = s.running := by
  have hp : t.control.powered = s.control.powered := congrArg Steady.powered h
  have hr : t.control.resetLine = s.control.resetLine := congrArg Steady.resetLine h
  rw [State.running, State.running, hp, hr]

theorem steady_mode (h : t.steady = s.steady) : t.control.mode = .start ↔ s.control.mode = .start := by
  have e : (t.control.mode == .start) = (s.control.mode == .start) := congrArg Steady.inStart h
  rw [← beq_iff_eq, e, beq_iff_eq]

/-- What keeps the wings in order: the steady part and the erase request stay, idle wings stay idle, and so does the head of the dirty
queue while it is being erased. -/
theorem WingsOk.of_steady (w : WingsOk s) (h : t.steady = s.steady)
    (hi : s.store.wings = .split none none → t.store.wings = .split none none)
    (he : s.store.eraseRequested = false → t.store.eraseRequested = false)
    (hh : ∀ n, s.store.wings.erasing = some n → s.store.dirtyQueue.head? = some n → t.store.dirtyQueue.head? = some n)
    (hr : t.store.eraseRequested = true → s.store.dirtyQueue ≠ [] → t.store.dirtyQueue ≠ []) : WingsOk t := by
  have ht : t.store.wings.erasing = s.store.wings.erasing := congrArg Steady.erasing h
  refine ⟨fun k => ?_, fun m => ?_, fun m => ?_, fun n k => ?_, fun k => ?_⟩
  · exact (steady_mode h).2 (w.idle (by rwa [steady_running h] at k))
  · obtain ⟨h1, h2⟩ := w.start ((steady_mode h).1 m)
    exact ⟨hi h1, he h2⟩
  · have hm : t.store.mark = s.store.mark := congrArg Steady.mark h
    have hp : t.store.wings.programmed = s.store.wings.programmed := congrArg Steady.programmed h
    rw [hm, hp]
    exact w.mark (fun m' => m ((steady_mode h).2 m'))
  · rw [ht] at k
    obtain ⟨h1, h2⟩ := w.head n k
    exact ⟨hh n k h1, he h2⟩
  · refine hr k (w.request ?_)
    cases e : s.store.eraseRequested with
    | true => rfl
    | false => rw [he e] at k; cases k

/-- What a fetch's start keeps: the steady part, the erase request and the dirty queue, outside START. -/
theorem WingsOk.of_started (w : WingsOk s) (m : s.control.mode ≠ .start) (h : t.steady = s.steady)
    (he : t.store.eraseRequested = s.store.eraseRequested) (hd : t.store.dirtyQueue = s.store.dirtyQueue) : WingsOk t := by
  have ht : t.store.wings.erasing = s.store.wings.erasing := congrArg Steady.erasing h
  have hm : t.store.mark = s.store.mark := congrArg Steady.mark h
  have hp : t.store.wings.programmed = s.store.wings.programmed := congrArg Steady.programmed h
  refine ⟨fun k => absurd (w.idle (by rwa [steady_running h] at k)) m, fun k => absurd ((steady_mode h).1 k) m,
    fun _ => by rw [hm, hp, w.mark m], fun n k => ?_, fun k => ?_⟩
  · rw [ht] at k; rw [hd, he]; exact w.head n k
  · rw [hd]; exact w.request (he ▸ k)

theorem putFetch_steady (wing : Wing) (op : FetchOp) (s : State) : (putFetch wing op s).steady = s.steady := by
  unfold putFetch
  split
  · rename_i hw; simp only [State.steady, hw]; rfl
  · rename_i hw; simp only [State.steady, hw]; rfl
  · rfl

theorem copyFetched_round (w : Wing) (body : List Octet) (s : State) : ∃ x, copyFetched w body s = s.putRound x :=
  mapCopy_round _ s

theorem detachFetcher_idle (who : Fetcher) (h : s.store.wings = .split none none) :
    (detachFetcher who s).store.wings = .split none none := by
  unfold detachFetcher; simp only [h]; rfl

theorem detachFeeder_idle (f : Front) (h : s.store.wings = .split none none) :
    (detachFeeder f s).store.wings = .split none none := by
  unfold detachFeeder; simp only [h]

/-- What the changes of fronts, requesters and copies leave alone. -/
structure ErasesKept (s t : State) : Prop where
  steady : t.steady = s.steady
  idle : s.store.wings = .split none none → t.store.wings = .split none none
  dirty : t.store.dirtyQueue = s.store.dirtyQueue
  requested : t.store.eraseRequested = s.store.eraseRequested

theorem WingsOk.of_kept (w : WingsOk s) (h : ErasesKept s t) : WingsOk t :=
  w.of_steady h.steady h.idle (fun e => h.requested.trans e) (fun n _ k => by rwa [h.dirty]) (fun _ k => by rwa [h.dirty])

theorem openStripe_kept (f : Front) (s : State) : ErasesKept s (openStripe f s) :=
  ⟨openStripe_steady f s, fun h => by rwa [openStripe_wings], openStripe_dirtyQueue f s, by unfold openStripe; split <;> rfl⟩

theorem examineStalled_kept (s : State) : ErasesKept s (examineStalled s) := by
  unfold examineStalled
  refine List.foldlRecOn (motive := fun t : State => ErasesKept s t) _ _ ⟨rfl, id, rfl, rfl⟩ (fun t ht f _ => ?_)
  split
  · obtain ⟨h1, h2, h3, h4⟩ := openStripe_kept f t
    exact ⟨h1.trans ht.steady, fun h => h2 (ht.idle h), h3.trans ht.dirty, h4.trans ht.requested⟩
  · exact ht

theorem detachFetcher_kept (who : Fetcher) (s : State) : ErasesKept s (detachFetcher who s) := by
  refine ⟨detachFetcher_steady who s, fun h => detachFetcher_idle who h, detachFetcher_dirtyQueue who s, ?_⟩
  obtain ⟨w, h, -⟩ := detachFetcher_wings who s; rw [h]

theorem detachFeeder_kept (f : Front) (s : State) : ErasesKept s (detachFeeder f s) := by
  refine ⟨detachFeeder_steady f s, fun h => detachFeeder_idle f h, detachFeeder_dirtyQueue f s, ?_⟩
  obtain ⟨w, h, -⟩ := detachFeeder_wings f s; rw [h]

/-- A stripe that joins behind an entry leaves the head where it is. -/
theorem joinDirty_head {kept n k : Nat} {queue : List Nat} (hk : 0 < kept) (h : queue.head? = some k) :
    (joinDirty kept n queue).head? = some k := by
  cases queue with
  | nil => cases h
  | cons a rest =>
    cases kept with
    | zero => omega
    | succ j => simpa [joinDirty] using h

theorem Work.wingsOk (h : Work False s t) (w : WingsOk s) : WingsOk t := by
  cases h with
  | refiles h =>
    have hw : t.store.wings = s.store.wings := congrArg StoreView.wings h.store
    have hd : t.store.dirtyQueue = s.store.dirtyQueue := congrArg StoreView.dirtyQueue h.store
    have he : t.store.eraseRequested = s.store.eraseRequested := congrArg StoreView.eraseRequested h.store
    exact w.of_kept ⟨steady_of_storeView h.store, fun k => hw.trans k, hd, he⟩
  | opens f => exact w.of_kept (openStripe_kept f s)
  | examines => exact w.of_kept (examineStalled_kept s)
  | ceases who => exact w.of_kept (detachFetcher_kept who s)
  | leaves f => exact w.of_kept (detachFeeder_kept f s)
  | abandons =>
    have w' := (w.of_kept (detachFetcher_kept .relocation s)).of_kept (detachFeeder_kept .relocate _)
    exact w'.of_kept ⟨rfl, id, rfl, rfl⟩
  | goes =>
    obtain ⟨x, hx⟩ := mapCopy_round (fun c => { c with request := .inFlight }) s
    rw [hx]
    exact w.of_kept ⟨rfl, id, rfl, rfl⟩
  | joins n kept r _ _ _ hk =>
    refine w.of_steady rfl id id (fun k he hh => ?_) (fun _ _ => joinDirty_ne_nil _ _ _)
    exact joinDirty_head ((hk (by simp [he])).resolve_left id) hh
  | scraps n rest _ he hr =>
    exact w.of_steady rfl id id (fun k h => by rw [he] at h; cases h)
      (fun (k : s.store.eraseRequested = true) => by rw [hr] at k; cases k)
  | asks m hq he =>
    refine ⟨w.idle, (fun k => absurd k m), w.mark, (fun n k => ?_), (fun _ => hq)⟩
    rw [show s.store.wings.erasing = none from he] at k; cases k
  | drops => exact w.of_steady rfl id (fun _ => rfl) (fun _ _ k => k) nofun
  | modes m h hm => exact w.of_kept ⟨(Works.one (loose := False) (.modes m h hm)).steady, id, rfl, rfl⟩
  | _ => exact w.of_kept ⟨rfl, id, rfl, rfl⟩

/-- Wings that are idle with no mark are in order. -/
theorem WingsOk.of_idle (hi : t.running = false → t.control.mode = .start) (hw : t.store.wings = .split none none)
    (hk : t.store.mark = none) (hs : t.control.mode = .start → t.store.eraseRequested = false)
    (hr : t.store.eraseRequested = true → t.store.dirtyQueue ≠ []) : WingsOk t :=
  ⟨hi, fun m => ⟨hw, hs m⟩, fun _ => by rw [hk, hw]; rfl, (fun n k => by rw [hw] at k; cases k), hr⟩

/-- In START no program is in flight. -/
theorem WingsOk.working (w : WingsOk s) {op : WideOp} (h : s.store.wings = .both op) :
    s.control.mode ≠ .start ∧ s.running = true := by
  have m : s.control.mode ≠ .start := fun m => by simp [(w.start m).1] at h
  refine ⟨m, ?_⟩
  cases hr : s.running with
  | true => rfl
  | false => exact absurd (w.idle hr) m

/-- A program has completed: the wings are idle and the mark is cleared, and the dirty queue is as it was. -/
theorem WingsOk.of_programTaken {op : ProgramOp} (w : WingsOk s) (hw : s.store.wings = .both (.program op))
    (hc : t.control = s.control) (hi : t.store.wings = .split none none) (hk : t.store.mark = none)
    (he : t.store.eraseRequested = s.store.eraseRequested) (hd : t.store.dirtyQueue = s.store.dirtyQueue) : WingsOk t := by
  obtain ⟨m, hr⟩ := w.working hw
  refine .of_idle (fun k => ?_) hi hk (fun k => absurd (hc ▸ k) m) (fun k => hd ▸ w.request (he ▸ k))
  rw [State.running, hc] at k
  exact absurd (k.symm.trans hr) (by simp)

/-- An erase has completed: the wings are idle, and no erase is requested. -/
theorem WingsOk.of_eraseTaken {n : Nat} (w : WingsOk s) (hw : s.store.wings = .both (.erase n)) (hc : t.control = s.control)
    (hi : t.store.wings = .split none none) (hk : t.store.mark = s.store.mark)
    (he : t.store.eraseRequested = s.store.eraseRequested) : WingsOk t := by
  obtain ⟨m, hr⟩ := w.working hw
  have hm : s.store.mark = none := by rw [w.mark m, hw]; rfl
  have hq : s.store.eraseRequested = false := (w.head n (by rw [hw]; rfl)).2
  refine .of_idle (fun k => ?_) hi (hk.trans hm) (fun _ => he.trans hq) (fun k => ?_)
  · rw [State.running, hc] at k
    exact absurd (k.symm.trans hr) (by simp)
  · rw [he, hq] at k; cases k

/-- A fetch has completed: idle wings stay idle. -/
theorem takeFetch_kept {w : Wing} {op : FetchOp} (h : takeFetch w s = some (op, t)) : ErasesKept s t := by
  unfold takeFetch at h
  split at h
  · rename_i hw; cases h; exact ⟨by simp only [State.steady, hw]; rfl, fun k => by simp [hw] at k, rfl, rfl⟩
  · rename_i hw; cases h; exact ⟨by simp only [State.steady, hw]; rfl, fun k => by simp [hw] at k, rfl, rfl⟩
  · cases h

theorem Event.wingsOk (h : Event False s t) (w : WingsOk s) : WingsOk t := by
  cases h with
  | work h => exact h.wingsOk w
  | fetches wing op m =>
    exact w.of_started m (putFetch_steady wing op s) (by unfold putFetch; split <;> rfl) (by unfold putFetch; split <;> rfl)
  | programs r op m => exact ⟨w.idle, fun k => absurd k m, fun _ => rfl, nofun, w.request⟩
  | erases n rest m hi hq =>
    refine ⟨w.idle, (fun k => absurd k m), (fun k => ?_), (fun k hk => ⟨?_, rfl⟩), nofun⟩
    · rw [w.mark k, hi]; rfl
    · cases hk; simp [hq]
  | fetched wing op h => exact w.of_kept (takeFetch_kept h)
  | buffers wing op body h =>
    obtain ⟨x, hx⟩ := copyFetched_round wing body ‹State›
    rw [hx]
    exact (w.of_kept (takeFetch_kept h)).of_kept ⟨rfl, id, rfl, rfl⟩
  | spoils wing op h => exact (w.of_kept (takeFetch_kept h)).of_kept ⟨rfl, id, rfl, rfl⟩
  | finishes op g hw => exact w.of_programTaken hw rfl rfl rfl rfl rfl
  | records op n d hw => exact w.of_programTaken hw rfl rfl rfl rfl rfl
  | outputs op hw => exact w.of_programTaken hw rfl rfl rfl rfl rfl
  | copies op r c hw => exact w.of_programTaken hw rfl rfl rfl rfl rfl
  | commits op r c d o hw =>
    refine w.of_programTaken hw ?_ ?_ ?_ ?_ ?_ <;> (rw [State.putRound]; unfold commit; split <;> rfl)
  | ends op g r hw => exact w.of_programTaken hw rfl rfl rfl rfl rfl
  | restarts op r c hw => exact w.of_programTaken hw rfl rfl rfl rfl rfl
  | erased n hw => exact w.of_eraseTaken hw rfl rfl rfl rfl
  | wears n hw => exact w.of_eraseTaken hw rfl rfl rfl rfl
  | cuts p q => exact ⟨fun _ => rfl, fun _ => ⟨rfl, rfl⟩, fun k => absurd rfl k, nofun, nofun⟩
  | supplies p q m hr hm =>
    have e : m = .start := hm.elim (fun h => h.trans (w.idle hr)) id
    exact ⟨fun _ => e, fun _ => w.start (w.idle hr), fun k => absurd e k, w.head, w.request⟩
  | formats m => exact .of_idle (fun _ => m) rfl rfl (fun _ => rfl) nofun
  | recovers m =>
    obtain ⟨x, hx⟩ := recoverStore_rest s
    rw [hx]
    obtain ⟨h1, h2⟩ := w.start m
    exact .of_idle w.idle h1 rfl (fun _ => h2) w.request
  | begins m h hm hr hf hk =>
    obtain ⟨h1, h2⟩ := w.start h
    exact .of_idle (fun k => absurd (k.symm.trans hr) (by simp)) h1 hk (fun k => absurd k hm) w.request

theorem WingsOk.sane (w : WingsOk s) : Sane False s := by
  refine ⟨fun h => .inr ?_, .inr fun m => (w.start m).1⟩
  obtain ⟨n, hn⟩ := Option.isSome_iff_exists.1 h
  have hq := (w.head n hn).1
  intro e; rw [e] at hq; cases hq

/-- Settles O15: every change of an event keeps the wings in order (`Event.wingsOk`), and a step is a chain of such changes. -/
theorem stepKeepsWings : Obligations.StepKeepsWings :=
  fun _ _ w h => step_keeps WingsOk.sane (fun _ _ => Event.wingsOk) w h

end Sys2Proof.Machine
end

section
/-! StepKeepsTables, the store's part: each change of an event keeps the stripe numbers in range and the tables of the catalog and of
intake in form. -/

namespace Sys2Proof.Machine

variable {loose : Prop} {s t : State}

/-! ### The store's clauses -/

/-- The stripe table is canonical, and every stripe number the state holds is in range. -/
structure NumbersOk (s : State) : Prop where
  stripes : Table.Canonical Stripe.formatted s.store.stripes
  listed : ∀ e ∈ s.store.stripes, e.1 < Config.stripes
  free : ∀ n ∈ s.store.freeQueue, n < Config.stripes
  dirty : ∀ n ∈ s.store.dirtyQueue, n < Config.stripes
  mark : ∀ x ∈ s.store.mark, x.1 < Config.stripes
  target : ∀ n ∈ s.store.wings.target, n < Config.stripes
  live : ∀ e ∈ s.liveExtents, e.stripe < Config.stripes
  source : ∀ e ∈ s.sourceExtents, e.stripe < Config.stripes
  dest : ∀ c ∈ s.copy, ∀ d ∈ c.dest, d.1 < Config.stripes

/-- The stripe numbers, list by list. -/
theorem stripeNumbers_lt_iff : (∀ n ∈ s.stripeNumbers, n < Config.stripes) ↔
    (∀ e ∈ s.store.stripes, e.1 < Config.stripes) ∧ (∀ n ∈ s.store.freeQueue, n < Config.stripes) ∧
    (∀ n ∈ s.store.dirtyQueue, n < Config.stripes) ∧ (∀ x ∈ s.store.mark, x.1 < Config.stripes) ∧
    (∀ n ∈ s.store.wings.target, n < Config.stripes) ∧ (∀ e ∈ s.liveExtents, e.stripe < Config.stripes) ∧
    (∀ e ∈ s.sourceExtents, e.stripe < Config.stripes) ∧ (∀ c ∈ s.copy, ∀ d ∈ c.dest, d.1 < Config.stripes) := by
  simp only [State.stripeNumbers, State.sourceExtents, List.mem_append, or_imp, forall_and, and_assoc]
  refine and_congr ?_ (and_congr .rfl (and_congr .rfl (and_congr ?_ (and_congr ?_ (and_congr ?_ (and_congr ?_ ?_))))))
  · exact List.forall_mem_map
  · cases s.store.mark <;> simp
  · cases s.store.wings.target <;> simp
  · exact List.forall_mem_map
  · cases s.streams.passSource <;> simp
  · cases hc : s.copy with
    | none => simp
    | some c =>
      cases hd : c.dest with
      | none => simp [hd]
      | some d => obtain ⟨a, b⟩ := d; simp [hd]

theorem liveFalls_formatted (k : Nat) : { Stripe.formatted with live := Stripe.formatted.live - k } = Stripe.formatted := by
  rw [show Stripe.formatted.live - k = Stripe.formatted.live from Nat.zero_sub k]

theorem tget_none_of_unlisted {α : Type} {t : Table α} {k : Nat} (h : ∀ e ∈ t, e.1 ≠ k) : tget t k = none := by
  cases e : tget t k with
  | none => rfl
  | some v => exact absurd rfl (h _ (mem_of_tget e))

/-- A change of a stripe's record lists no number out of range: the stripe's is in range, or the change leaves a formatted record as
it is. -/
theorem listed_mapStripe {n : Nat} {g : Stripe → Stripe} (h : n < Config.stripes ∨ g Stripe.formatted = Stripe.formatted)
    (k : ∀ e ∈ s.store.stripes, e.1 < Config.stripes) : ∀ e ∈ (s.mapStripe n g).store.stripes, e.1 < Config.stripes := by
  intro e he
  rcases h with h | h
  · rcases mem_tset he with rfl | he
    · exact h
    · exact k e he
  · by_cases hn : ∃ x ∈ s.store.stripes, x.1 = n
    · obtain ⟨x, hx, rfl⟩ := hn
      rcases mem_tset he with rfl | he
      · exact k x hx
      · exact k e he
    · have hf : s.stripe n = Stripe.formatted := by
        rw [State.stripe, tgetD, tget_none_of_unlisted fun x hx e => hn ⟨x, hx, e⟩]; rfl
      have hs : (s.mapStripe n g).store.stripes = tdel s.store.stripes n := by
        show tset _ _ _ _ = _
        rw [hf, h, tset, if_pos rfl]
      rw [hs] at he
      exact k e (mem_tdel he)

/-- A stripe's record changes. -/
theorem NumbersOk.mapStripe (k : NumbersOk s) (n : Nat) (g : Stripe → Stripe)
    (h : n < Config.stripes ∨ g Stripe.formatted = Stripe.formatted) : NumbersOk (s.mapStripe n g) :=
  { k with stripes := canonical_tset _ k.stripes _ _, listed := listed_mapStripe h k.listed }

theorem Wings.target_eq (w : Wings) : w.target = (w.programmed.map (·.1)).or w.erasing := by
  cases w with
  | both op => cases op <;> rfl
  | split a b => rfl

/-- Other wings act on the same stripe. -/
theorem NumbersOk.wings (k : NumbersOk s) {w : Wings} (he : w.erasing = s.store.wings.erasing)
    (hp : w.programmed = s.store.wings.programmed) : NumbersOk { s with store.wings := w } :=
  { k with target := by show ∀ n ∈ w.target, _; rw [Wings.target_eq, he, hp, ← Wings.target_eq]; exact k.target }

theorem NumbersOk.detachFetcher (k : NumbersOk s) (who : Fetcher) : NumbersOk (detachFetcher who s) := by
  obtain ⟨w, h, he, hp⟩ := detachFetcher_wings who s
  rw [h]; exact k.wings he hp

theorem NumbersOk.detachFeeder (k : NumbersOk s) (f : Front) : NumbersOk (detachFeeder f s) := by
  obtain ⟨w, h, he, hp⟩ := detachFeeder_wings f s
  rw [h]; exact k.wings he hp

/-- The round changes, with a destination in range where its copy has one. -/
theorem NumbersOk.putRound (k : NumbersOk s) {x : Option Round}
    (h : ∀ c ∈ (s.putRound x).copy, ∀ d ∈ c.dest, d.1 < Config.stripes) : NumbersOk (s.putRound x) :=
  { k with dest := h }

theorem NumbersOk.openStripe (k : NumbersOk s) (f : Front) : NumbersOk (openStripe f s) := by
  unfold Machine.openStripe; split
  · exact k
  · rename_i n rest hq
    have hn : n < Config.stripes := k.free n (by simp [hq])
    have k' : NumbersOk { s with store.freeQueue := rest } := { k with free := fun m hm => k.free m (by simp [hq, hm]) }
    exact k'.mapStripe n _ (.inl hn)

theorem NumbersOk.examineStalled (k : NumbersOk s) : NumbersOk (examineStalled s) := by
  unfold Machine.examineStalled
  refine List.foldlRecOn (motive := NumbersOk) _ _ k (fun t ht f _ => ?_)
  split
  · exact { ht.openStripe f with }
  · exact ht

theorem NumbersOk.of_view (k : NumbersOk s) (h : t.storeView = s.storeView) (hl : ∀ e ∈ t.liveExtents, e ∈ s.liveExtents)
    (hs : ∀ e ∈ t.sourceExtents, e ∈ s.sourceExtents ∨ e ∈ s.liveExtents) : NumbersOk t := by
  simp only [State.storeView, StoreView.mk.injEq] at h
  obtain ⟨h1, h2, h3, -, h5, h6, -, -, -, -, -, h12⟩ := h
  have hc : t.copy = s.copy := by unfold State.copy; rw [h12]
  refine ⟨h1 ▸ k.stripes, h1 ▸ k.listed, h2 ▸ k.free, h3 ▸ k.dirty, h5 ▸ k.mark, h6 ▸ k.target, fun e he => k.live e (hl e he),
    fun e he => (hs e he).elim (k.source e) (k.live e), hc ▸ k.dest⟩

/-- A copy that is presented keeps its destination, or takes the front's place. -/
theorem placed_dest {r : Round} {c : Copy} {n w : Nat} (h : ∀ d ∈ c.dest, d.1 < Config.stripes) (hn : n < Config.stripes) :
    ∀ c' ∈ (s.putRound (some { r with copy := some { c with
      dest := (match c.dest with | some d => some d | none => some (n, w)), request := .pending } })).copy,
      ∀ d ∈ c'.dest, d.1 < Config.stripes := by
  intro c' hc' d hd
  cases hc'
  cases hcd : c.dest with
  | some d' =>
    simp only [hcd, Option.mem_def, Option.some.injEq] at hd
    subst hd
    exact h d' hcd
  | none =>
    simp only [hcd, Option.mem_def, Option.some.injEq] at hd
    subst hd
    exact hn

theorem Work.numbersOk (h : Work loose s t) (k : NumbersOk s) : NumbersOk t := by
  cases h with
  | refiles h => exact k.of_view h.store h.extents h.source
  | dies n j => exact k.mapStripe n _ (.inr (liveFalls_formatted j))
  | falls n => exact k.mapStripe n _ (.inr rfl)
  | rises n h =>
    obtain ⟨e, he, rfl⟩ := h
    exact k.mapStripe _ _ (.inl ((List.mem_append.1 he).elim (k.live e) (k.source e)))
  | opens f => exact k.openStripe f
  | examines => exact k.examineStalled
  | ceases who => exact k.detachFetcher who
  | leaves f => exact k.detachFeeder f
  | abandons => exact ((k.detachFetcher .relocation).detachFeeder .relocate).putRound nofun
  | retires n r hr => exact k.mapStripe n _ (.inl (k.listed _ hr))
  | joins n kept r hr =>
    have hn : n < Config.stripes := k.listed _ hr
    refine { k.mapStripe n (fun r => { r with state := .dirty }) (.inl hn) with dirty := fun m hm => ?_ }
    rcases (mem_joinDirty kept n m _).1 hm with rfl | hm
    · exact hn
    · exact k.dirty m hm
  | scraps n rest hq =>
    have k' : NumbersOk { s with store.dirtyQueue := rest } := { k with dirty := fun m hm => k.dirty m (by simp [hq, hm]) }
    exact k'.mapStripe n _ (.inl (k.dirty n (by simp [hq])))
  | closes n r c hr => exact k.mapStripe n _ (.inl (k.listed _ hr))
  | presents n q r c hr hc hst hq hp hf =>
    exact k.putRound (placed_dest (k.dest c (by simp [State.copy, hr, hc])) (k.listed _ (frontStripe_mem hf).1))
  | astray m n p q r c hm ho hn hq hr hc =>
    have k' := k.mapStripe m (fun r => { r with state := .full }) (.inl (k.listed _ hm))
    exact k'.putRound (placed_dest (k'.dest c (by simp [State.copy, State.mapStripe, State.putStripe, hr, hc])) (k'.listed _ hn))
  | looks x m hc hx =>
    refine k.putRound fun c hcx d hd => ?_
    cases x with
    | none => cases hcx
    | some y =>
      have := (hx y rfl c hcx).2.2.1
      rw [this] at hd; cases hd
  | goes =>
    obtain ⟨x, hx⟩ := mapCopy_round (fun c => { c with request := .inFlight }) s
    have h := mapCopy_copy (fun c => { c with request := .inFlight }) s
    rw [hx] at h ⊢
    refine k.putRound fun c' hc' d hd => ?_
    rw [h] at hc'
    obtain ⟨c, hc, rfl⟩ := Option.map_eq_some_iff.1 (Option.mem_def.1 hc')
    exact k.dest c hc d hd
  | _ => exact { k with }

/-! ### The tables of the catalog and of intake -/

theorem FilesOk.of_eq (k : FilesOk s) (hc : t.catalog = s.catalog) (hi : t.intake = s.intake)
    (hf : t.store.flash = s.store.flash) : FilesOk t := by
  obtain ⟨a, b, c, d, e, f, g, i, j, l, m⟩ := k
  constructor <;> simp only [hc, hi, hf] <;> assumption

/-- What the changes of the store and of the round leave alone. -/
structure SameFiles (s t : State) : Prop where
  catalog : t.catalog = s.catalog
  intake : t.intake = s.intake
  flash : t.store.flash = s.store.flash

theorem SameFiles.filesOk (h : SameFiles s t) (k : FilesOk s) : FilesOk t := k.of_eq h.catalog h.intake h.flash

theorem openStripe_files (f : Front) (s : State) : SameFiles s (openStripe f s) := by
  unfold openStripe; split <;> exact ⟨rfl, rfl, rfl⟩

theorem examineStalled_files (s : State) : SameFiles s (examineStalled s) := by
  unfold examineStalled
  refine List.foldlRecOn (motive := SameFiles s) _ _ ⟨rfl, rfl, rfl⟩ (fun t ht f _ => ?_)
  split
  · obtain ⟨h1, h2, h3⟩ := openStripe_files f t
    exact ⟨h1.trans ht.catalog, h2.trans ht.intake, h3.trans ht.flash⟩
  · exact ht

theorem detachFetcher_files (who : Fetcher) (s : State) : SameFiles s (detachFetcher who s) := by
  obtain ⟨w, h, -⟩ := detachFetcher_wings who s; rw [h]; exact ⟨rfl, rfl, rfl⟩

theorem detachFeeder_files (f : Front) (s : State) : SameFiles s (detachFeeder f s) := by
  obtain ⟨w, h, -⟩ := detachFeeder_wings f s; rw [h]; exact ⟨rfl, rfl, rfl⟩

theorem Work.filesOk (h : Work loose s t) (k : FilesOk s) : FilesOk t := by
  cases h with
  | refiles h => exact h.files k
  | opens f => exact (openStripe_files f s).filesOk k
  | examines => exact (examineStalled_files s).filesOk k
  | ceases who => exact (detachFetcher_files who s).filesOk k
  | leaves f => exact (detachFeeder_files f s).filesOk k
  | abandons =>
    have k' := (detachFeeder_files .relocate _).filesOk ((detachFetcher_files .relocation s).filesOk k)
    exact k'.of_eq rfl rfl rfl
  | goes =>
    obtain ⟨x, hx⟩ := mapCopy_round (fun c => { c with request := .inFlight }) s
    rw [hx]; exact k.of_eq rfl rfl rfl
  | _ => exact k.of_eq rfl rfl rfl

/-! ### The completions and the supply -/

/-- A program's completion leaves its stripe's number in range. -/
theorem NumbersOk.programTaken (k : NumbersOk s) {op : ProgramOp} (hw : s.store.wings = .both (.program op))
    (g : Stripe → Stripe) : NumbersOk (programTaken op g s) := by
  have hn : op.stripe < Config.stripes := k.target op.stripe (by rw [hw]; rfl)
  have k' : NumbersOk { s with store.wings := .split none none, store.mark := none } :=
    { k with mark := nofun, target := nofun }
  exact k'.mapStripe _ _ (.inl hn)

theorem NumbersOk.eraseTaken (k : NumbersOk s) {n : Nat} (hw : s.store.wings = .both (.erase n))
    (g : Stripe → Stripe) : NumbersOk (eraseTaken n g s) := by
  have hn : n < Config.stripes := k.target n (by rw [hw]; rfl)
  have k' : NumbersOk { s with store.wings := .split none none, store.dirtyQueue := s.store.dirtyQueue.erase n } :=
    { k with dirty := fun m hm => k.dirty m (List.mem_of_mem_erase hm), target := nofun }
  exact k'.mapStripe _ _ (.inl hn)

theorem NumbersOk.takeFetch (k : NumbersOk s) {w : Wing} {op : FetchOp} (h : takeFetch w s = some (op, t)) : NumbersOk t := by
  obtain ⟨⟨a, b, rfl⟩, -⟩ := takeFetch_idle h
  exact { k with target := nofun }

/-- The extents of a record that a written leaf has entered are its old ones', or in the leaf's stripe. -/
theorem recordLeaf_stripe {es : List Extent} {n place : Nat} {e : Extent} (h : e ∈ recordLeaf es n place) :
    e.stripe = n ∨ ∃ x ∈ es, e.stripe = x.stripe := by
  unfold recordLeaf at h
  split at h
  · rename_i x hx
    split at h
    · rcases List.mem_append.1 h with h | h
      · exact .inr ⟨e, List.mem_of_mem_dropLast h, rfl⟩
      · cases List.mem_singleton.1 h
        exact .inr ⟨x, List.mem_of_getLast? hx, rfl⟩
    · rcases List.mem_append.1 h with h | h
      · exact .inr ⟨e, h, rfl⟩
      · cases List.mem_singleton.1 h; exact .inl rfl
  · cases List.mem_singleton.1 h; exact .inl rfl

theorem provisional_live {n : Nat} {e : Extent} (he : e ∈ s.provisional n) : e ∈ s.liveExtents := by
  cases h : tget s.intake.provisional n with
  | none => simp [State.provisional, h] at he
  | some es => exact mem_liveExtents.2 (.inr (.inl ⟨_, mem_of_tget h, by simpa [State.provisional, h] using he⟩))

/-- The extents of an object one of whose extents is replaced. -/
theorem replaceExtent_mem {i : Nat} {e x : Extent} {v : Version} (h : x ∈ (replaceExtent i e v).extents) : x = e ∨ x ∈ v.extents :=
  (List.mem_or_eq_of_mem_set h).symm

/-- The leaves of a copy take the place of its extent in the version. -/
theorem commitObject_extents {c : Copy} {d : Nat × Nat} {o : Object} (ho : s.object c.key = some o) {x : Extent}
    (hx : x ∈ (s.putObject (mapVersion c.version c.serial (replaceExtent c.index ⟨d.1, d.2, c.source.count⟩) o)).liveExtents) :
    x = ⟨d.1, d.2, c.source.count⟩ ∨ x ∈ s.liveExtents := by
  rcases mem_liveExtents.1 hx with ⟨y, hy, v, hv, hxv⟩ | hx
  · rcases mem_tput hy with rfl | hy
    · obtain ⟨u, hu, rfl⟩ := List.mem_map.1 hv
      split at hxv
      · exact (replaceExtent_mem hxv).imp_right (object_extents ho hu)
      · exact .inr (object_extents ho hu hxv)
    · exact .inr (mem_liveExtents.2 (.inl ⟨y, hy, v, hv, hxv⟩))
  · exact .inr (mem_liveExtents.2 (.inr hx))

theorem NumbersOk.commit (k : NumbersOk s) {c : Copy} {d : Nat × Nat} {o : Object} (hd : d.1 < Config.stripes)
    (ho : s.object c.key = some o) : NumbersOk (commit c d s) := by
  unfold Machine.commit
  rw [ho]
  refine (NumbersOk.mapStripe ?_ _ _ (.inl hd)).mapStripe _ _ (.inr (liveFalls_formatted _))
  refine { k with live := fun x hx => ?_ }
  rcases commitObject_extents ho hx with rfl | hx
  · exact hd
  · exact k.live x hx

theorem listed_tmapD {α : Type} [DecidableEq α] {d : α} {g : α → α} {l : Table α} {e : Nat × α} (h : e ∈ tmapD d g l) :
    ∃ x ∈ l, e = (x.1, g x.2) := by
  obtain ⟨x, hx, he⟩ := List.mem_filterMap.1 h
  split at he
  · cases he
  · exact ⟨x, hx, (Option.some.inj he).symm⟩

/-- Every stripe's record changes. -/
theorem NumbersOk.mapStripes (k : NumbersOk s) (g : Stripe → Stripe) :
    NumbersOk { s with store.stripes := tmapD Stripe.formatted g s.store.stripes } := by
  refine { k with stripes := canonical_tmapD _ g k.stripes.1, listed := fun e he => ?_ }
  obtain ⟨x, hx, rfl⟩ := listed_tmapD he
  exact k.listed x hx

theorem NumbersOk.recoverStore (k : NumbersOk s) : NumbersOk (recoverStore s) := by
  unfold Machine.recoverStore
  simp only
  split
  · exact k.mapStripes _
  · rename_i n i hm
    have k' := (k.mapStripes recoveredStripe).mapStripe n (fun r => { r with written := r.written + 1 }) (.inl (k.mark (n, i) hm))
    exact { k' with mark := nofun }

theorem cutOperation_flash (s : State) : ∃ x k, cutOperation s = { s with store.flash := x, store.lost := k } ∧
    (Memory.wf s.store.flash → Memory.wf x) := by
  unfold cutOperation
  split
  · exact ⟨_, _, rfl, fun h => ordered_tput h _ _⟩
  · exact loseStripe_flash _ s
  · exact ⟨s.store.flash, s.store.lost, rfl, id⟩

/-- What an outage leaves of the numbers. -/
theorem NumbersOk.loseVolatile (k : NumbersOk s) : NumbersOk (loseVolatile s) := by
  obtain ⟨x, n, h, -⟩ := cutOperation_flash s
  unfold Machine.loseVolatile
  rw [h]
  have k' := k.mapStripes (fun r => { r with readers := 0 })
  exact { k' with target := nofun, source := by simp [State.sourceExtents, Streams.reset], dest := nofun }

theorem copyFetched_copy (w : Wing) (body : List Octet) (s : State) :
    ∃ g, (copyFetched w body s).copy = s.copy.map g ∧ ∀ c, (g c).dest = c.dest :=
  ⟨_, mapCopy_copy _ s, fun _ => by cases w <;> rfl⟩

theorem Event.numbersOk (h : Event loose s t) (k : NumbersOk s) : NumbersOk t := by
  cases h with
  | work h => exact h.numbersOk k
  | fetches w op m hi =>
    unfold putFetch; split
    · exact { k with target := nofun }
    · exact { k with target := nofun }
    · exact k
  | programs r op m hi hf =>
    have hn : op.stripe < Config.stripes := k.listed _ (frontStripe_mem hf).1
    refine { k with mark := fun x hx => ?_, target := fun n hx => ?_ } <;> (cases hx; exact hn)
  | erases n rest m hi hq =>
    refine { k with target := fun j hj => ?_ }
    cases hj
    exact k.dirty n (by simp [hq])
  | fetched w op h => exact k.takeFetch h
  | @buffers u w op body h =>
    have k' := k.takeFetch h
    obtain ⟨g, hg, hd⟩ := copyFetched_copy w body u
    obtain ⟨x, hx⟩ := copyFetched_round w body u
    rw [hx] at hg ⊢
    refine k'.putRound fun c' hc' d h => ?_
    rw [hg] at hc'
    obtain ⟨c, hc, rfl⟩ := Option.map_eq_some_iff.1 (Option.mem_def.1 hc')
    exact k'.dest c hc d (hd c ▸ h)
  | spoils w op h => exact (k.takeFetch h).putRound nofun
  | finishes op g hw => exact k.programTaken hw g
  | records op n d hw =>
    have k' := k.programTaken hw writtenStripe
    have hn : op.stripe < Config.stripes := k.target op.stripe (by rw [hw]; rfl)
    refine NumbersOk.mapStripe ?_ _ _ (.inl hn)
    refine { k' with live := fun e he => ?_ }
    rcases mem_liveExtents.1 he with he | ⟨x, hx, he⟩ | he
    · exact k.live e (mem_liveExtents.2 (.inl he))
    · rcases mem_tput hx with rfl | hx
      · rcases recordLeaf_stripe he with h | ⟨y, hy, h⟩
        · exact h ▸ hn
        · exact h ▸ k.live y (provisional_live hy)
      · exact k.live e (mem_liveExtents.2 (.inr (.inl ⟨x, hx, he⟩)))
    · exact k.live e (mem_liveExtents.2 (.inr (.inr he)))
  | outputs op hw =>
    have k' := k.programTaken hw writtenStripe
    have hn : op.stripe < Config.stripes := k.target op.stripe (by rw [hw]; rfl)
    refine NumbersOk.mapStripe ?_ _ _ (.inl hn)
    refine { k' with live := fun e he => ?_ }
    rcases mem_liveExtents.1 he with he | he | he
    · exact k.live e (mem_liveExtents.2 (.inl he))
    · exact k.live e (mem_liveExtents.2 (.inr (.inl he)))
    · rcases recordLeaf_stripe he with h | ⟨y, hy, h⟩
      · exact h ▸ hn
      · exact h ▸ k.live y (mem_liveExtents.2 (.inr (.inr hy)))
  | copies op r c hw hf hn hr hc =>
    refine (k.programTaken hw writtenStripe).putRound fun c' hc' d hd => ?_
    cases hc'
    exact k.dest c (by simp [State.copy, hr, hc]) d hd
  | commits op r c d o hw hf hn hr hc hl hd ho =>
    have hd' : d.1 < Config.stripes := k.dest c (by simp [State.copy, hr, hc]) d hd
    exact ((k.programTaken hw writtenStripe).commit hd' ho).putRound nofun
  | ends op g r hw => exact (k.programTaken hw g).putRound nofun
  | restarts op r c hw hr hc =>
    refine (k.programTaken hw failedStripe).putRound fun c' hc' d hd => ?_
    cases hc'; cases hd
  | erased n hw =>
    have k' := k.eraseTaken hw erasedStripe
    refine { k' with free := fun m hm => ?_ }
    rcases List.mem_append.1 hm with hm | hm
    · exact k.free m hm
    · rw [List.mem_singleton.1 hm]; exact k.target n (by rw [hw]; rfl)
  | wears n hw => exact k.eraseTaken hw _
  | cuts p q => exact { k.loseVolatile with }
  | supplies => exact { k with }
  | formats m =>
    refine ⟨⟨ordered_nil, nofun⟩, nofun, nofun, (fun n hn => ?_), nofun, nofun, nofun, nofun, nofun⟩
    have e : (format s).store.dirtyQueue = List.range Config.stripes := by unfold format; dsimp only
    rw [e] at hn
    exact List.mem_range.1 hn
  | recovers m => exact k.recoverStore
  | begins => exact { k with }

theorem FilesOk.putRecord (k : FilesOk s) {n : Nat} {es : List Extent} (hn : n < Config.descriptors) :
    FilesOk { s with intake.provisional := tput s.intake.provisional n es } :=
  { k with
    provisional := ordered_tput k.provisional _ _
    records := fun x hx => by
      rcases mem_tput hx with rfl | hx
      · exact hn
      · exact k.records x hx }

theorem FilesOk.putObject (k : FilesOk s) {o : Object} (ho : o.key.inRange ∧ o.contributor ≤ 1023) : FilesOk (s.putObject o) := by
  refine { k with objects := ordered_tput k.objects _ _, objectKeys := fun x hm => ?_, credits := fun x hm => ?_ }
  · rcases mem_tput hm with rfl | hm
    · exact ⟨rfl, ho.1⟩
    · exact k.objectKeys x hm
  · rcases mem_tput hm with rfl | hm
    · exact ho.2
    · exact k.credits x hm

theorem Event.filesOk (h : Event loose s t) (k : FilesOk s) : FilesOk t := by
  cases h with
  | work h => exact h.filesOk k
  | fetches w op =>
    obtain ⟨x, hx⟩ := putFetch_rest w op s
    rw [hx]; exact k.of_eq rfl rfl rfl
  | fetched w op h => obtain ⟨⟨a, b, rfl⟩, -⟩ := takeFetch_idle h; exact k.of_eq rfl rfl rfl
  | buffers w op body h =>
    obtain ⟨⟨a, b, rfl⟩, -⟩ := takeFetch_idle h
    obtain ⟨x, hx⟩ := copyFetched_round w body { s with store.wings := .split a b }
    rw [hx]; exact k.of_eq rfl rfl rfl
  | spoils w op h => obtain ⟨⟨a, b, rfl⟩, -⟩ := takeFetch_idle h; exact k.of_eq rfl rfl rfl
  | records op n d hw hf hn =>
    have k' : FilesOk (programTaken op writtenStripe s) := k.of_eq rfl rfl rfl
    exact (k'.putRecord (descriptor_inRange hn k).1).of_eq rfl rfl rfl
  | commits op r c d o hw hf hn hr hc hl hd ho =>
    have k' : FilesOk (programTaken op writtenStripe s) := k.of_eq rfl rfl rfl
    have ho' : (programTaken op writtenStripe s).object c.key = some o := ho
    unfold commit
    rw [ho']
    refine (k'.putObject (o := mapVersion c.version c.serial (replaceExtent c.index ⟨d.1, d.2, c.source.count⟩) o) ?_).of_eq rfl rfl rfl
    have r := object_inRange ho k
    exact r
  | cuts p q =>
    obtain ⟨x, n, h, hx⟩ := cutOperation_flash s
    unfold loseVolatile
    rw [h]
    exact { k with flash := hx k.flash, descriptors := ordered_nil, numbers := nofun, deposits := nofun }
  | formats m =>
    exact ⟨k.flash, ordered_nil, nofun, ordered_nil, nofun, nofun, ordered_nil, nofun, nofun, ordered_nil, nofun⟩
  | recovers m => obtain ⟨x, hx⟩ := recoverStore_rest s; rw [hx]; exact k.of_eq rfl rfl rfl
  | _ => exact k.of_eq rfl rfl rfl

end Sys2Proof.Machine
end

section
/-! StepKeepsTables, the ledger's part: every command keeps the ledger's tables in form, and the orders in the queues on records that
there are. -/

namespace Sys2Proof.Machine

variable {s t : State}

/-- The clauses of `TablesOk` on the ledger and the queued orders. -/
structure LedgerOk (s : State) : Prop where
  accounts : Table.Canonical Account.formatted s.ledger.accounts
  accountIds : ∀ e ∈ s.ledger.accounts, 1 ≤ e.1 ∧ e.1 ≤ 255
  contributors : Table.Canonical Contributor.formatted s.ledger.contributors
  contributorIds : ∀ e ∈ s.ledger.contributors, 1 ≤ e.1 ∧ e.1 ≤ 1023
  orders : ∀ p, ∀ st ∈ (s.streams.ports.get p).queue, namesRecords st
  tariffs : Table.Canonical TariffCell.formatted s.ledger.tariffs
  cells : ∀ e ∈ s.ledger.tariffs, e.1 < 32

/-- What an order names: an account, and contributors. -/
structure OrderOk (o : OrderPart) : Prop where
  account : 1 ≤ o.account ∧ o.account ≤ 255
  parts : ∀ x ∈ o.breakdown.parts, 1 ≤ x.1 ∧ x.1 ≤ 1023

theorem namesRecords_iff {st : Stream} : namesRecords st ↔ ∀ o, st.kind = .order o → OrderOk o := by
  unfold namesRecords
  cases st.kind with
  | order o =>
    refine ⟨fun ⟨a, b⟩ o' h => ?_, fun h => ⟨(h o rfl).account, (h o rfl).parts⟩⟩
    cases h; exact ⟨a, b⟩
  | _ => exact ⟨fun _ _ h => (nomatch h), fun _ => trivial⟩

theorem namesRecords_of_kind {a b : Stream} (h : a.kind = b.kind) (hb : namesRecords b) : namesRecords a := by
  rw [namesRecords_iff] at *
  exact h ▸ hb

theorem advance_kind (n : Nat) (st : Stream) : (advance n st).kind = st.kind := by
  unfold advance; simp only; split
  · rfl
  · split <;> rfl

namespace LedgerOk

/-- The ledger stays, and the streams queued are of kinds that were queued. -/
theorem of_kinds (k : LedgerOk s) (hl : t.ledger = s.ledger)
    (hq : ∀ p, ∀ st ∈ (t.streams.ports.get p).queue, ∃ u ∈ (s.streams.ports.get p).queue, st.kind = u.kind) : LedgerOk t := by
  refine ⟨hl ▸ k.accounts, hl ▸ k.accountIds, hl ▸ k.contributors, hl ▸ k.contributorIds, fun p st hst => ?_, hl ▸ k.tariffs,
    hl ▸ k.cells⟩
  obtain ⟨u, hu, h⟩ := hq p st hst
  exact namesRecords_of_kind h (k.orders p u hu)

theorem aside (k : LedgerOk s) (hl : t.ledger = s.ledger) (hs : t.streams.ports = s.streams.ports) : LedgerOk t :=
  k.of_kinds hl fun _ st h => ⟨st, hs ▸ h, rfl⟩

theorem of_quiet (k : LedgerOk s) (h : t.quiet = s.quiet) : LedgerOk t := by
  refine k.of_kinds (congrArg QuietView.ledger h) fun p st hst => ?_
  have hq : queueView (t.streams.ports.get p) = queueView (s.streams.ports.get p) := by
    cases p
    · exact congrArg QuietView.deskQueue h
    · exact congrArg QuietView.benchQueue h
    · exact congrArg QuietView.counterQueue h
  have hm : (st.id, st.kind) ∈ queueView (t.streams.ports.get p) := List.mem_map_of_mem hst
  rw [hq] at hm
  obtain ⟨u, hu, he⟩ := List.mem_map.1 hm
  exact ⟨u, hu, (congrArg Prod.snd he).symm⟩

theorem foldl {α : Type} (g : State → α → State) (l : List α) (h : ∀ s, ∀ a ∈ l, LedgerOk s → LedgerOk (g s a)) (k : LedgerOk s) :
    LedgerOk (l.foldl g s) := List.foldlRecOn (motive := LedgerOk) l g k (fun t ht a ha => h t a ha ht)

/-! ### Links and the end of an event -/

theorem reply (k : LedgerOk s) (p : Port) (tag : Octet) (a : Answer) : LedgerOk (reply p tag a s) := k.aside rfl rfl

theorem refuse (k : LedgerOk s) (p : Port) (tag : Octet) (st : Status) : LedgerOk (refuse p tag st s) := by
  unfold Machine.refuse; simp only; split <;> exact k.aside rfl rfl

theorem transmit (k : LedgerOk s) (p : Port) : LedgerOk (transmit p s) := by
  obtain ⟨l, h⟩ := transmit_links p s
  rw [h]; exact k.aside rfl rfl

theorem conclude (k : LedgerOk s) : LedgerOk (conclude s) := by
  obtain ⟨l, h⟩ := conclude_quiet s
  refine (k.of_quiet (t := { Machine.conclude s with links := s.links }) ?_).aside rfl rfl
  have e : ({ Machine.conclude s with links := s.links } : State).quiet = { (Machine.conclude s).quiet with links := s.links } := rfl
  rw [e, h]; rfl

theorem serveWith (k : LedgerOk s) {after : State → State} {ports : List Port} {b : Bool} {f : Frame} {rule : State → State × Answer}
    (hr : LedgerOk (rule s).1) (ha : ∀ t, LedgerOk t → LedgerOk (after t)) : LedgerOk (serveWith after ports b f rule s) := by
  unfold Machine.serveWith
  split
  · exact k
  · split
    · exact (k.refuse _ _ _).transmit _
    · split
      · exact (k.reply _ _ _).transmit _
      · exact ha _ (hr.reply _ _ _)

theorem serve (k : LedgerOk s) {ports : List Port} {f : Frame} {rule : State → State × Answer} (hr : LedgerOk (rule s).1) :
    LedgerOk (serve ports f rule s) := k.serveWith hr (fun _ h => h.transmit _)

theorem serveAlways (k : LedgerOk s) {f : Frame} {rule : State → State × Answer} (hr : LedgerOk (rule s).1) :
    LedgerOk (serveAlways f rule s) := k.serveWith hr (fun _ h => h.transmit _)

theorem serveSettling (k : LedgerOk s) {ports : List Port} {f : Frame} {rule : State → State × Answer} (hr : LedgerOk (rule s).1) :
    LedgerOk (serveSettling ports f rule s) := k.serveWith hr (fun _ h => h.conclude)

/-! ### The tables -/

theorem putAccount (k : LedgerOk s) {id : Nat} (h : 1 ≤ id ∧ id ≤ 255) (a : Account) : LedgerOk (s.putAccount id a) := by
  refine { k with accounts := canonical_tset _ k.accounts _ _, accountIds := fun e he => ?_ }
  rcases mem_tset he with rfl | he
  · exact h
  · exact k.accountIds e he

theorem putContributor (k : LedgerOk s) {id : Nat} (h : 1 ≤ id ∧ id ≤ 1023) (c : Contributor) : LedgerOk (s.putContributor id c) := by
  refine { k with contributors := canonical_tset _ k.contributors _ _, contributorIds := fun e he => ?_ }
  rcases mem_tset he with rfl | he
  · exact h
  · exact k.contributorIds e he

/-- Every account and every contributor changes. -/
theorem mapRecords (k : LedgerOk s) (f : Account → Account) (g : Contributor → Contributor) : LedgerOk { s with
    ledger.accounts := tmapD Account.formatted f s.ledger.accounts
    ledger.contributors := tmapD Contributor.formatted g s.ledger.contributors } := by
  refine { k with
    accounts := canonical_tmapD _ f k.accounts.1, contributors := canonical_tmapD _ g k.contributors.1
    accountIds := fun e he => ?_, contributorIds := fun e he => ?_ }
  · obtain ⟨x, hx, rfl⟩ := listed_tmapD he; exact k.accountIds x hx
  · obtain ⟨x, hx, rfl⟩ := listed_tmapD he; exact k.contributorIds x hx

/-- A port's queue changes. -/
theorem putPortStreams (k : LedgerOk s) (p : Port) {ps : PortStreams} (h : ∀ st ∈ ps.queue, namesRecords st) :
    LedgerOk (s.putPortStreams p ps) := by
  refine { k with orders := fun q st hst => ?_ }
  rw [State.putPortStreams, PerPort.get_set] at hst
  split at hst
  · exact h st hst
  · exact k.orders q st hst

/-! ### Streams and orders -/

theorem heldFalls (k : LedgerOk s) {a : Nat} (h : 1 ≤ a ∧ a ≤ 255) (n : Nat) : LedgerOk (heldFalls a n s) := k.putAccount h _

theorem endStream (k : LedgerOk s) (p : Port) (st : Stream) (x : StreamKind) (final : Option Status) :
    LedgerOk (endStream p st x final s) := by
  have h : LedgerOk (readersFall st.snapshot (if st.fetch = .inFlight then detachFetcher (.stream p) s else s)) := by
    refine k.of_quiet ?_
    rw [readersFall_quiet]; split
    · exact detachFetcher_quiet _ s
    · rfl
  unfold Machine.endStream
  cases final <;> exact h.putPortStreams _ fun st' hst => h.orders p st' (List.mem_filter.1 hst).1

theorem releaseOrder (k : LedgerOk s) {o : OrderPart} (ho : OrderOk o) (p : Port) (st : Stream) (c : ReleaseCause) (e : Bool) :
    LedgerOk (releaseOrder p st o c e s) := (k.heldFalls ho.account _).endStream _ _ _ _

theorem cutStream (k : LedgerOk s) {st : Stream} (h : namesRecords st) (p : Port) (x : Status) (c : ReleaseCause) :
    LedgerOk (cutStream p st x c s) := by
  unfold Machine.cutStream; split
  · rename_i o ho; exact k.releaseOrder (namesRecords_iff.1 h o ho) _ _ _ _
  · exact k.endStream _ _ _ _

theorem releaseOrders (k : LedgerOk s) {sts : List Stream} (h : ∀ st ∈ sts, namesRecords st) (pick : Stream → OrderPart → Bool)
    (c : ReleaseCause) : LedgerOk (releaseOrders pick c sts s) := by
  refine foldl _ _ (fun s st hst k => ?_) k
  split
  · rename_i o ho
    split
    · exact k.releaseOrder (namesRecords_iff.1 (h st hst) o ho) _ _ _ _
    · exact k
  · exact k

theorem resetStreams (k : LedgerOk s) (p : Port) : LedgerOk (resetStreams p s) := by
  unfold Machine.resetStreams
  refine putPortStreams ?_ p (fun _ h => absurd h List.not_mem_nil)
  refine foldl _ _ (fun t st hst k' => ?_) k
  split
  · rename_i o ho; exact k'.releaseOrder (namesRecords_iff.1 (k.orders p st hst) o ho) _ _ _ _
  · exact k'.endStream _ _ _ _

theorem accrue (k : LedgerOk s) {e : Nat × Nat} (h : 1 ≤ e.1 ∧ e.1 ≤ 1023) : LedgerOk (accrue e s) := k.putContributor h _

theorem chargeOrder (k : LedgerOk s) {o : OrderPart} (h : OrderOk o) : LedgerOk (chargeOrder o s) := by
  have hc : ∀ t : State, LedgerOk t → LedgerOk (countPhotoOrder (photoContributor o.breakdown) t) := by
    intro t kt
    unfold countPhotoOrder; split
    · exact kt
    · rename_i hn
      refine kt.putContributor ?_ _
      unfold photoContributor at hn ⊢
      split
      · rename_i e rest _ hp
        exact h.parts e (by simp [hp])
      · simp_all
  exact (hc _ (foldl _ _ (fun t e he kt => kt.accrue (h.parts e he)) (k.putAccount h.account _))).aside rfl rfl

theorem completeStream (k : LedgerOk s) {st : Stream} (h : namesRecords st) (p : Port) : LedgerOk (completeStream p st s) := by
  unfold Machine.completeStream; split
  · rename_i o ho; exact (k.chargeOrder (namesRecords_iff.1 h o ho)).endStream _ _ _ _
  · refine endStream ?_ _ _ _ _
    exact k.aside rfl rfl

theorem creditFrame (k : LedgerOk s) (p : Port) (id n : Nat) : LedgerOk (creditFrame p id n s) := by
  unfold Machine.creditFrame; simp only; split
  · rename_i st hst
    have hn : namesRecords st := k.orders p st (List.mem_of_find?_eq_some hst)
    have ha : namesRecords (advance n st) := namesRecords_of_kind (advance_kind n st) hn
    have k' : LedgerOk (s.putPortStreams p { s.portStreams p with queue := (s.portStreams p).queue.map (replaceStream (advance n st)) }) := by
      refine k.putPortStreams p fun x hx => ?_
      obtain ⟨y, hy, rfl⟩ := List.mem_map.1 hx
      unfold replaceStream
      split
      · exact ha
      · exact k.orders p y hy
    split
    · exact k'.completeStream ha p
    · exact k'
  · exact k.putPortStreams p (k.orders p)

theorem acceptStream (k : LedgerOk s) {st : Stream} (h : namesRecords st) (p : Port) : LedgerOk (acceptStream p st s) := by
  have k' : LedgerOk (readersRise st.snapshot s) := k.of_quiet (readersRise_quiet _ _)
  refine k'.putPortStreams p fun x hx => ?_
  rcases List.mem_append.1 hx with hx | hx
  · exact k'.orders p x hx
  · cases List.mem_singleton.1 hx; exact h

end LedgerOk

end Sys2Proof.Machine
end

section
/-! StepKeepsTables: the ledger's clauses under every command, and the statement. -/

namespace Sys2Proof.Machine

variable {s t : State}

/-! ### Rules that leave the money and the streams' kinds alone -/

theorem openEdition_quiet (p : Port) (date number : Nat) (s : State) : (openEdition p date number s).1.quiet = s.quiet := by
  unfold openEdition; simp only; split
  · rfl
  · split
    · rfl
    · split <;> rfl

theorem closeEdition_quiet (p : Port) (h : Nat) (r : Stamp) (s : State) : (closeEdition p h r s).1.quiet = s.quiet := by
  unfold closeEdition; split
  · rfl
  · iterate 3
      split
      · rfl
    simp only; split
    · rw [publish_quiet]; rfl
    · rfl

theorem abandonEdition_quiet (p : Port) (h : Nat) (s : State) : (abandonEdition p h s).1.quiet = s.quiet := by
  unfold abandonEdition; split
  · rfl
  · split
    · rfl
    · rw [withdrawCopy_quiet]
      exact (removeObjects_quiet _ _).trans (dropDeposits_quiet _ s)

theorem reinstateEdition_quiet (p : Port) (h : Nat) (s : State) : (reinstateEdition p h s).1.quiet = s.quiet := by
  unfold reinstateEdition; split
  · rfl
  · split
    · rfl
    · simp only; rw [notifyAll_quiet]; rfl

theorem purgeEdition_quiet (p : Port) (h : Nat) (s : State) : (purgeEdition p h s).1.quiet = s.quiet := by
  unfold purgeEdition; split
  · rfl
  · split
    · rfl
    · rw [withdrawCopy_quiet]
      exact removeObjects_quiet _ s

theorem removeVersion_quiet (o : Object) (v : Version) (s : State) : (removeVersion o v s).quiet = s.quiet := by
  unfold removeVersion; simp only; split
  · rw [removeObject_quiet, extentsDie_quiet]
  · exact extentsDie_quiet _ s

theorem discardVersion_quiet (p : Port) (w : WireKey) (n : Nat) (s : State) : (discardVersion p w n s).1.quiet = s.quiet := by
  unfold discardVersion; split
  · rfl
  · split
    · rfl
    · split
      · rfl
      · split
        · rfl
        · rw [withdrawCopy_quiet, removeVersion_quiet]

theorem beginObject_quiet (p : Port) (h kind number length rights contributor format : Nat) (placements : List WireKey) (s : State) :
    (beginObject p h kind number length rights contributor format placements s).1.quiet = s.quiet := by
  unfold beginObject; split
  · rfl
  · iterate 2
      split
      · rfl
    split
    · rfl
    · split
      · rfl
      · split
        · split
          · rfl
          · split <;> rfl
        · rfl

theorem tellDropped_quiet (n : Nat) (d : Descriptor) (s : State) : (tellDropped n d s).1.quiet = s.quiet := rfl

theorem putChunk_quiet (p : Port) (n offset : Nat) (data : List Octet) (s : State) :
    (putChunk p n offset data s).1.quiet = s.quiet := by
  unfold putChunk; split
  · rfl
  · split
    · exact tellDropped_quiet _ _ s
    · iterate 5
        split
        · rfl
      split <;> rfl

theorem endObject_quiet (p : Port) (n : Nat) (check : BitVec 32) (s : State) : (endObject p n check s).1.quiet = s.quiet := by
  unfold endObject; split
  · rfl
  · split
    · exact tellDropped_quiet _ _ s
    · iterate 2
        split
        · rfl
      split
      · exact dropDeposit_quiet _ _ _ s
      · rw [enterReady_quiet]; rfl

theorem dropObject_quiet (p : Port) (n : Nat) (s : State) : (dropObject p n s).1.quiet = s.quiet := by
  unfold dropObject; split
  · rfl
  · split
    · exact tellDropped_quiet _ _ s
    · exact dropDeposit_quiet _ _ _ s

theorem resetPasses_quiet (s : State) : (resetPasses s).quiet = s.quiet := by
  unfold resetPasses; split
  · exact stopActive_quiet false s
  · rfl

theorem resetWork_quiet (p : Port) (s : State) : (resetWork p s).quiet = s.quiet := by
  cases p with
  | desk => exact resetDeposits_quiet .desk s
  | bench => exact (resetPasses_quiet _).trans (resetDeposits_quiet .bench s)
  | counter => rfl

theorem recoverCatalog_quiet (s : State) : (recoverCatalog s).quiet = s.quiet := by
  refine foldl_quiet _ (fun s e => ?_) _ s
  unfold recoverEdition; split
  · split
    · exact publish_quiet _ s
    · exact returnToOpen_quiet _ s
  · rfl

theorem recoverOutputs_quiet (s : State) : (recoverOutputs s).quiet = s.quiet :=
  (extentsDie_quiet _ _).trans (foldl_quiet (fun s (e : Nat × List Extent) => extentsDie e.2 s) (fun s e => extentsDie_quiet e.2 s) _ s)

theorem reportDamage_quiet {k : Key} {n x : Nat} {g : State → State} (hg : ∀ s, (g s).quiet = s.quiet) (s : State) :
    (reportDamage k n x g s).quiet = s.quiet := by
  unfold reportDamage; split
  · rename_i u hu; rw [damageAction_quiet, hg, markDamaged_quiet hu]
  · exact hg s

theorem feedWritten_quiet (op : ProgramOp) (s : State) : (feedWritten op s).quiet = s.quiet := by
  unfold feedWritten; split
  · rfl
  · split
    · exact intakeWritten_quiet op s
    · exact passWritten_quiet op s
    · exact copyWritten_quiet s

theorem feedFailed_quiet (op : ProgramOp) (s : State) : (feedFailed op s).quiet = s.quiet := by
  unfold feedFailed; split
  · rfl
  · split
    · exact intakeFailed_quiet s
    · exact passFailed_quiet s
    · exact copyFailed_quiet s

theorem examineStalled_quiet (s : State) : (examineStalled s).quiet = s.quiet := by
  refine foldl_quiet _ (fun s f => ?_) _ s
  split
  · exact (unstall_quiet _ _).trans (openStripe_quiet f s)
  · rfl

/-! ### Who is paid -/

theorem firsts_subset {l : List Nat} {x : Nat} (h : x ∈ firsts l) : x ∈ l := by
  induction l with
  | nil => cases h
  | cons y rest ih =>
    rcases List.mem_cons.1 h with rfl | h
    · simp
    · simp [ih (List.mem_filter.1 h).1]

/-- The contributors of a page's sharing placements are no house and are in range. -/
theorem sharing_inRange (f : FilesOk s) {o : Object} {x : Nat} (h : x ∈ s.sharing o) : 1 ≤ x ∧ x ≤ 1023 := by
  obtain ⟨t, -, h⟩ := List.mem_filterMap.1 h
  split at h
  · cases h
  · split at h
    · cases h
    · rename_i ph hph
      split at h
      · cases h
      · cases h
        exact ⟨by omega, (object_inRange hph f).2⟩

theorem contributorParts_inRange (f : FilesOk s) {o : Object} (ho : o.contributor ≤ 1023) {p base : Nat} {x : Nat × Nat}
    (h : x ∈ contributorParts p base (s.sharers o)) : 1 ≤ x.1 ∧ x.1 ≤ 1023 := by
  unfold State.sharers at h
  cases hk : o.key.kind with
  | photo =>
    simp only [hk] at h
    cases hc : o.contributor with
    | zero => simp [hc, contributorParts] at h
    | succ c =>
      simp only [hc, contributorParts, List.mem_singleton] at h
      subst h
      exact ⟨by simp, by simpa [hc] using ho⟩
  | page =>
    simp only [hk, contributorParts, poolParts] at h
    obtain ⟨c, hc, rfl⟩ := List.mem_map.1 h
    exact sharing_inRange f (firsts_subset hc)

theorem accountId_inRange {id : Nat} (h : accountId id = true) : 1 ≤ id ∧ id ≤ 255 := by
  simpa [accountId] using h

theorem contributorId_inRange {id : Nat} (h : contributorId id = true) : 1 ≤ id ∧ id ≤ 1023 := by
  simpa [contributorId] using h

theorem saleArguments_account {a : Nat} {w : WireKey} {u n : Nat} {x : Usage} (h : saleArguments a w u n = some x) :
    1 ≤ a ∧ a ≤ 255 := by
  unfold saleArguments at h
  split at h
  · cases h
  · split at h
    · rename_i hc; exact accountId_inRange (by simp_all)
    · cases h

/-- A sale's breakdown pays contributors that there are. -/
theorem priceObject_parts (f : FilesOk s) {a : Nat} {e : Edition} {o : Object} (ho : o.contributor ≤ 1023) {u : Usage} {n : Nat}
    {q : Sale} (h : s.priceObject a e o u n = .ok q) : ∀ x ∈ q.breakdown.parts, 1 ≤ x.1 ∧ x.1 ≤ 1023 := by
  unfold State.priceObject at h
  simp only at h
  split at h
  · cases h
  · split at h
    · cases h
    · split at h
      · cases h
      · cases h; exact fun x hx => contributorParts_inRange f ho hx

theorem cellIndex_lt (k : Kind) (u : Usage) {c : Nat} (h : c ≤ 3) : cellIndex k u c < 32 := by
  have hk : kindCode k - 1 ≤ 1 := by cases k <;> decide
  have hu : usageCode u - 1 ≤ 3 := by cases u <;> decide
  unfold cellIndex; omega

namespace LedgerOk

/-! ### The rules on the ledger and the streams -/

theorem withdrawEdition (k : LedgerOk s) (p : Port) (h : Nat) : LedgerOk (withdrawEdition p h s).1 := by
  unfold Machine.withdrawEdition; split
  · exact k
  · rename_i e _
    split
    · exact k
    · have k' : LedgerOk (notifyAll .editionWithdrawn allPorts (s.putEdition h { e with state := .withdrawn })) :=
        (k.aside (t := s.putEdition h { e with state := .withdrawn }) rfl rfl).of_quiet (notifyAll_quiet _ _ _)
      exact (k'.releaseOrders (k'.orders .counter) _ _).of_quiet (abortPasses_quiet _ _ _)

theorem readObject (k : LedgerOk s) (p : Port) (w : WireKey) (v : Source) (a b : Nat) : LedgerOk (readObject p w v a b s).1 := by
  unfold Machine.readObject; split
  · exact k
  · split
    · exact k
    · split
      · exact k
      · split
        · exact k
        · split
          · exact k
          · exact k.acceptStream (st := newStream _ .read _ _ _ _) trivial p

theorem cancelStream (k : LedgerOk s) (p : Port) (id : Nat) : LedgerOk (cancelStream p id s).1 := by
  unfold Machine.cancelStream; split
  · rename_i st hst
    exact k.cutStream (k.orders p st (List.mem_of_find?_eq_some hst)) p _ _
  · split <;> exact k

theorem openAccount (k : LedgerOk s) (id c l : Nat) : LedgerOk (openAccount id c l s).1 := by
  unfold Machine.openAccount; split
  · exact k
  · rename_i h
    split
    · exact k
    · exact k.putAccount (accountId_inRange (by simp_all)) _

theorem setAccount (k : LedgerOk s) (id c l : Nat) : LedgerOk (setAccount id c l s).1 := by
  unfold Machine.setAccount; simp only; split
  · exact k
  · rename_i h
    split
    · exact k
    · exact k.putAccount (accountId_inRange (by simp_all)) _

theorem creditAccount (k : LedgerOk s) (id n : Nat) : LedgerOk (creditAccount id n s).1 := by
  unfold Machine.creditAccount; simp only; split
  · exact k
  · rename_i h
    iterate 2
      split
      · exact k
    exact k.putAccount (accountId_inRange (by simp_all)) _

theorem suspendAccount (k : LedgerOk s) (id : Nat) : LedgerOk (suspendAccount id s).1 := by
  unfold Machine.suspendAccount; simp only; split
  · exact k
  · rename_i h
    split
    · exact k
    · exact k
    · exact (k.putAccount (accountId_inRange (by simp_all)) _).releaseOrders (fun st hst => k.orders .counter st (List.mem_of_mem_tail hst)) _ _

theorem reinstateAccount (k : LedgerOk s) (id : Nat) : LedgerOk (reinstateAccount id s).1 := by
  unfold Machine.reinstateAccount; simp only; split
  · exact k
  · rename_i h
    split
    · exact k
    · exact k
    · exact k.putAccount (accountId_inRange (by simp_all)) _

theorem closeAccount (k : LedgerOk s) (id : Nat) : LedgerOk (closeAccount id s).1 := by
  unfold Machine.closeAccount; simp only; split
  · exact k
  · rename_i h
    iterate 2
      split
      · exact k
    exact k.putAccount (accountId_inRange (by simp_all)) _

theorem registerContributor (k : LedgerOk s) (id : Nat) : LedgerOk (registerContributor id s).1 := by
  unfold Machine.registerContributor; simp only; split
  · exact k
  · rename_i h
    split
    · exact k
    · exact k.putContributor (contributorId_inRange (by simp_all)) _

theorem setContributorState (k : LedgerOk s) (id x : Nat) : LedgerOk (setContributorState id x s).1 := by
  unfold Machine.setContributorState; simp only; split
  · exact k
  · split
    · exact k
    · rename_i h
      split
      · exact k
      · exact k.putContributor (contributorId_inRange (by simp_all)) _

theorem setShare (k : LedgerOk s) (id x : Nat) : LedgerOk (setShare id x s).1 := by
  unfold Machine.setShare; simp only; split
  · exact k
  · rename_i h
    split
    · exact k
    · exact k.putContributor (contributorId_inRange (by simp_all)) _

theorem setTariff (k : LedgerOk s) (x u c a b n m : Nat) : LedgerOk (setTariff x u c a b n m s).1 := by
  unfold Machine.setTariff; split
  · rename_i kind usage v _ _ _
    split
    · exact k
    · refine { k with tariffs := canonical_tset _ k.tariffs _ _, cells := fun e he => ?_ }
      rcases mem_tset he with rfl | he
      · exact cellIndex_lt _ _ (by omega)
      · exact k.cells e he
  · exact k

theorem setTariffGlobals (k : LedgerOk s) (g : Globals) : LedgerOk (setTariffGlobals g s).1 := by
  unfold Machine.setTariffGlobals; split
  · exact { k with }
  · exact k

theorem order (k : LedgerOk s) (f : FilesOk s) (a : Nat) (w : WireKey) (u n : Nat) : LedgerOk (order a w u n s).1 := by
  unfold Machine.order; split
  · exact k
  · rename_i hargs
    have ha := saleArguments_account hargs
    split
    · exact k
    · exact k
    · split
      · exact k
      · rename_i e o ho
        iterate 2
          split
          · exact k
        split
        · exact k
        · rename_i q hq
          obtain ⟨key, hkey⟩ := seeObject_object ho
          have hparts := priceObject_parts f (object_inRange hkey f).2 hq
          unfold State.placeOrder; simp only
          split
          · exact k
          · split
            · exact k
            · split
              · exact k
              · refine (k.putAccount ha _).acceptStream (namesRecords_iff.2 fun o' h => ?_) _
                cases h
                exact ⟨ha, hparts⟩

theorem setPeriodLength (k : LedgerOk s) (d : Nat) : LedgerOk (setPeriodLength d s).1 := by
  unfold Machine.setPeriodLength; split
  · exact k
  · exact k.aside rfl rfl

theorem closeAttempt (k : LedgerOk s) : LedgerOk (closeAttempt s) := by
  unfold Machine.closeAttempt; simp only; split
  · exact (k.mapRecords Account.cleared Contributor.cleared).aside rfl rfl
  · exact k.aside rfl rfl

theorem releaseStatements (k : LedgerOk s) (n : Nat) : LedgerOk (releaseStatements n s).1 := by
  unfold Machine.releaseStatements; simp only; split
  · exact k
  · exact k.aside rfl rfl

theorem setClock (k : LedgerOk s) (d m : Nat) : LedgerOk (setClock d m s).1 := by
  unfold Machine.setClock; split
  · exact k
  · exact k.aside rfl rfl

theorem setOperating (k : LedgerOk s) (a b c d e : Nat) : LedgerOk (setOperating a b c d e s).1 := by
  unfold Machine.setOperating; split
  · exact k
  · refine of_quiet ?_ (judgeRetire_quiet _)
    exact k.aside rfl rfl

theorem resumeWrites (k : LedgerOk s) : LedgerOk (resumeWrites s).1 := by
  unfold Machine.resumeWrites; split
  · exact k
  · split
    · exact k
    · refine of_quiet ?_ (notifyAll_quiet _ _ _)
      exact k.aside rfl rfl

theorem submitPass (k : LedgerOk s) (w : WireKey) (x : Source) (a b c d e f : Nat) : LedgerOk (submitPass w x a b c d e f s).1 := by
  unfold Machine.submitPass
  iterate 4
    split
    · exact k
  exact k.aside rfl rfl

theorem cancelPass (k : LedgerOk s) (id : Nat) : LedgerOk (cancelPass id s).1 := by
  unfold Machine.cancelPass; split
  · exact k.of_quiet (abortPasses_quiet _ _ _)
  · exact k

theorem postMessage (k : LedgerOk s) (p : Port) (b : BitVec 8) (x : List Octet) : LedgerOk (postMessage p b x s).1 := by
  unfold Machine.postMessage; simp only
  iterate 2
    split
    · exact k
  exact foldl _ _ (fun _ _ _ k => k.aside rfl rfl) k

theorem takeMessage (k : LedgerOk s) (p : Port) : LedgerOk (takeMessage p s).1 := by
  unfold Machine.takeMessage; split
  · exact k
  · exact k.aside rfl rfl

theorem answerFrame (k : LedgerOk s) (p : Port) (tag : Octet) (a b : Status) : LedgerOk (answerFrame p tag a b s) := by
  unfold Machine.answerFrame; split
  · exact k
  · split
    · exact (k.refuse _ _ _).transmit _
    · exact (k.reply _ _ _).transmit _

/-! ### Events -/

theorem resetPort (k : LedgerOk s) (p : Port) : LedgerOk (resetPort p s) := by
  have k1 : LedgerOk { s with links := s.links.set p { Link.reset with breakHeld := true } } := k.aside rfl rfl
  exact ((k1.resetStreams p).of_quiet (resetWork_quiet p _)).aside rfl rfl

theorem markDay (k : LedgerOk s) : LedgerOk (markDay s) := by
  unfold Machine.markDay; split
  · refine conclude ?_
    unfold acceptMark stepCountdown; split
    · exact k.aside rfl rfl
    · simp only; split
      · refine closeAttempt ?_
        exact k.aside rfl rfl
      · exact k.aside rfl rfl
  · exact k

theorem riseTick (k : LedgerOk s) : LedgerOk (riseTick s) := by
  unfold Machine.riseTick; simp only; split
  · refine of_quiet ?_ (notifyAll_quiet _ _ _)
    exact k.aside rfl rfl
  · exact k.aside rfl rfl

theorem guardLine (k : LedgerOk s) (b : Bool) : LedgerOk (guardLine b s) := by
  have k' : LedgerOk { s with store.guardAsserted := b } := k.aside rfl rfl
  unfold Machine.guardLine; simp only; split
  · exact k'.conclude
  · exact k'

theorem soundFetch (k : LedgerOk s) (op : FetchOp) (w : Wing) (body : List Octet) : LedgerOk (soundFetch op w body s) := by
  unfold Machine.soundFetch; split
  · exact k
  · refine k.of_quiet (mapActive_quiet _ _ (fun st => ?_) s)
    unfold takeSheet; split <;> exact ⟨rfl, rfl⟩
  · exact k.aside rfl rfl
  · exact k.of_quiet (copyFetched_quiet _ _ s)

theorem damagedFetch (k : LedgerOk s) (op : FetchOp) : LedgerOk (damagedFetch op s) := by
  unfold Machine.damagedFetch; split
  · exact k
  · rename_i p _
    split
    · exact k
    · rename_i st hst
      have hn : namesRecords st := k.orders p st (by
        unfold State.active at hst; exact List.mem_of_mem_head? hst)
      unfold reportDamage; split
      · rename_i u hu
        exact ((k.of_quiet (markDamaged_quiet hu)).cutStream hn _ _ _).of_quiet (damageAction_quiet _)
      · exact k.cutStream hn _ _ _
  · split
    · exact k
    · refine k.of_quiet (reportDamage_quiet (fun s => ?_) s)
      unfold passSourceDamaged; split
      · exact endActive_quiet _ _ _ s
      · exact endPassSource_quiet s
  · split
    · exact k
    · exact k.of_quiet (reportDamage_quiet (fun s => putRound_quiet _ s) s)

theorem feedWritten (k : LedgerOk s) (op : ProgramOp) : LedgerOk (feedWritten op s) := k.of_quiet (feedWritten_quiet op s)

theorem feedFailed (k : LedgerOk s) (op : ProgramOp) : LedgerOk (feedFailed op s) := k.of_quiet (feedFailed_quiet op s)

theorem examineStalled (k : LedgerOk s) : LedgerOk (examineStalled s) := k.of_quiet (examineStalled_quiet s)

theorem loseVolatile (k : LedgerOk s) : LedgerOk (loseVolatile s) := by
  obtain ⟨x, n, h, -⟩ := cutOperation_flash s
  unfold Machine.loseVolatile
  rw [h]
  exact { k with orders := fun p st hst => by cases p <;> cases hst }

theorem format (s : State) : LedgerOk (format s) :=
  ⟨⟨ordered_nil, nofun⟩, nofun, ⟨ordered_nil, nofun⟩, nofun, (fun p st hst => by cases p <;> cases hst), ⟨ordered_nil, nofun⟩, nofun⟩

theorem clearHeld (k : LedgerOk s) : LedgerOk (clearHeld s) := by
  unfold Machine.clearHeld
  refine { k with accounts := canonical_tmapD _ (fun a => { a with held := 0 }) k.accounts.1, accountIds := fun e he => ?_ }
  obtain ⟨y, hy, rfl⟩ := listed_tmapD (g := fun a : Account => { a with held := 0 }) (l := s.ledger.accounts) he
  exact k.accountIds y hy

theorem recover (k : LedgerOk s) : LedgerOk (recover s) := by
  obtain ⟨x, hx⟩ := recoverStore_rest s
  have k1 : LedgerOk (recoverStore s) := by rw [hx]; exact k.aside rfl rfl
  have k2 := (k1.of_quiet (recoverCatalog_quiet _)).of_quiet (recoverOutputs_quiet _)
  exact k2.clearHeld.of_quiet (leaveFull_quiet _ _)

theorem startUpEnd (k : LedgerOk s) : LedgerOk (Machine.conclude (leaveStart (holdConditions (recoverOrFormat s)))) := by
  have k1 : LedgerOk (recoverOrFormat s) := by
    unfold recoverOrFormat; split
    · refine recover ?_
      exact k.aside rfl rfl
    · exact format _
  refine conclude (of_quiet ?_ (notifyAll_quiet _ _ _))
  exact (k1.of_quiet (holdConditions_quiet _)).aside rfl rfl

/-- The state that a command's equation names. -/
theorem of_next {u : State} (k : LedgerOk u) (h : (.next u : Host.Outcome State Fault Refusal) = .next t) : LedgerOk t := by
  cases h; exact k

/-- Every command keeps the ledger's clauses. -/
theorem exec {c : Instr} (k : LedgerOk s) (f : FilesOk s) (h : exec c s = .next t) : LedgerOk t := by
  cases c with
  | openEdition r d n => exact of_next (k.serve (k.of_quiet (openEdition_quiet _ _ _ s))) h
  | beginObject r a b c d e g i ps => exact of_next (k.serve (k.of_quiet (beginObject_quiet _ _ _ _ _ _ _ _ _ s))) h
  | putChunk r n o d => exact of_next (k.serveSettling (k.of_quiet (putChunk_quiet _ _ _ _ s))) h
  | endObject r n x => exact of_next (k.serveSettling (k.of_quiet (endObject_quiet _ _ _ s))) h
  | dropObject r n => exact of_next (k.serveSettling (k.of_quiet (dropObject_quiet _ _ s))) h
  | closeEdition r n x => exact of_next (k.serveSettling (k.of_quiet (closeEdition_quiet _ _ _ s))) h
  | abandonEdition r n => exact of_next (k.serveSettling (k.of_quiet (abandonEdition_quiet _ _ s))) h
  | read r w v o l => exact of_next (k.serveSettling (k.readObject _ _ _ _ _)) h
  | withdrawEdition r n => exact of_next (k.serveSettling (k.withdrawEdition _ _)) h
  | reinstateEdition r n => exact of_next (k.serve (k.of_quiet (reinstateEdition_quiet _ _ s))) h
  | purgeEdition r n => exact of_next (k.serveSettling (k.of_quiet (purgeEdition_quiet _ _ s))) h
  | registerContributor r n => exact of_next (k.serve (k.registerContributor _)) h
  | setContributorState r n x => exact of_next (k.serve (k.setContributorState _ _)) h
  | setClock r d x => exact of_next (k.serveSettling (k.setClock _ _)) h
  | setOperating r a b c d e => exact of_next (k.serveSettling (k.setOperating _ _ _ _ _)) h
  | resumeWrites r => exact of_next (k.serveSettling k.resumeWrites) h
  | submitPass r w x m d l i n p => exact of_next (k.serveSettling (k.submitPass _ _ _ _ _ _ _ _)) h
  | cancelPass r n => exact of_next (k.serveSettling (k.cancelPass _)) h
  | passResult r => exact of_next (k.serve k) h
  | takeSurvey r => exact of_next (k.serve k) h
  | discardVersion r w n => exact of_next (k.serveSettling (k.of_quiet (discardVersion_quiet _ _ _ s))) h
  | openAccount r a b c => exact of_next (k.serve (k.openAccount _ _ _)) h
  | setAccount r a b c => exact of_next (k.serve (k.setAccount _ _ _)) h
  | creditAccount r a b => exact of_next (k.serve (k.creditAccount _ _)) h
  | suspendAccount r a => exact of_next (k.serveSettling (k.suspendAccount _)) h
  | reinstateAccount r a => exact of_next (k.serve (k.reinstateAccount _)) h
  | closeAccount r a => exact of_next (k.serve (k.closeAccount _)) h
  | findAccount r a => exact of_next (k.serve ((findAccount_state a s).symm ▸ k)) h
  | setShare r a b => exact of_next (k.serve (k.setShare _ _)) h
  | setTariff r x u c a b n m => exact of_next (k.serve (k.setTariff _ _ _ _ _ _ _)) h
  | setTariffGlobals r a b c d x p => exact of_next (k.serve (k.setTariffGlobals _)) h
  | setPeriodLength r d => exact of_next (k.serve (k.setPeriodLength _)) h
  | quote r a w u n => exact of_next (k.serve ((quote_state a w u n s).symm ▸ k)) h
  | order r a w u n => exact of_next (k.serveSettling (k.order f _ _ _ _)) h
  | closePeriod r => exact of_next (k.serve k.closeAttempt) h
  | takeStatements r => exact of_next (k.serve ((takeStatements_state s).symm ▸ k)) h
  | releaseStatements r n => exact of_next (k.serve (k.releaseStatements _)) h
  | findEdition r n => exact of_next (k.serve ((findEdition_state _ n s).symm ▸ k)) h
  | findObject r w => exact of_next (k.serve ((findObject_state _ w s).symm ▸ k)) h
  | cancelStream r n => exact of_next (k.serveSettling (k.cancelStream _ _)) h
  | status r => exact of_next (k.serveAlways k) h
  | identify r => exact of_next (k.serveAlways k) h
  | takeNotices r => exact of_next (k.serve (k.aside rfl rfl)) h
  | setNoticeMask r x => exact of_next (k.serve (k.aside rfl rfl)) h
  | postMessage r b x => exact of_next (k.serve (k.postMessage _ _ _)) h
  | takeMessage r => exact of_next (k.serve (k.takeMessage _)) h
  | unknownRequest p x c =>
    refine of_next ?_ h
    split
    · exact k
    · exact k.answerFrame _ _ _ _
  | badFrame p x => exact of_next (k.answerFrame _ _ _ _) h
  | busy p x m =>
    refine of_next ?_ h
    split
    · exact k.answerFrame _ _ _ _
    · exact k
  | replySent p =>
    refine of_next ?_ h
    split
    · refine transmit ?_ _
      exact k.aside rfl rfl
    · exact k
  | dataFrameSent p =>
    refine of_next ?_ h
    split
    · refine conclude (creditFrame ?_ _ _ _)
      exact k.aside rfl rfl
    · exact k
  | endFrameSent p =>
    refine of_next ?_ h
    split
    · exact conclude (putPortStreams (s := freeTransmitter p s) (k.aside rfl rfl) p (k.orders p))
    · exact k
  | sheetFetchComplete w d =>
    refine of_next ?_ h
    split
    · exact k
    · rename_i op u hu
      obtain ⟨⟨a, b, rfl⟩, -⟩ := takeFetch_idle hu
      have k' : LedgerOk { s with store.wings := .split a b } := k.aside rfl rfl
      refine conclude ?_
      unfold fetchDone; simp only; split
      · exact k'.soundFetch _ _ _
      · exact k'.damagedFetch _
  | leafProgramWritten =>
    refine of_next ?_ h
    split
    · exact k
    · rename_i op u hu
      obtain ⟨-, rfl⟩ := takeProgram_some hu
      refine conclude (feedWritten ?_ op)
      exact k.aside rfl rfl
  | leafProgramFailed =>
    refine of_next ?_ h
    split
    · exact k
    · rename_i op u hu
      obtain ⟨-, rfl⟩ := takeProgram_some hu
      refine conclude (feedFailed ?_ op)
      exact k.aside rfl rfl
  | stripeEraseComplete e =>
    refine of_next ?_ h
    split
    · exact k
    · rename_i n u hu
      obtain ⟨-, rfl⟩ := takeErase_some hu
      refine conclude ?_
      split
      · refine examineStalled ?_
        exact k.aside rfl rfl
      · unfold eraseFailed
        obtain ⟨x, i, hl, -⟩ := loseStripe_flash n { s with store.wings := .split none none, store.dirtyQueue := s.store.dirtyQueue.erase n }
        rw [hl]
        refine of_quiet ?_ (retireStripe_quiet n _)
        exact k.aside rfl rfl
  | dayMark => exact of_next k.markDay h
  | tick =>
    refine of_next ?_ h
    split
    · exact k.riseTick
    · exact k
  | clockSaturated =>
    refine of_next ?_ h
    split
    · exact k.riseTick
    · exact k
  | countdownExpiry =>
    refine of_next ?_ h
    split
    · exact k.markDay
    · exact k
  | storeGuardAsserted => exact of_next (k.guardLine true) h
  | storeGuardReleased => exact of_next (k.guardLine false) h
  | linkReset p =>
    refine of_next ?_ h
    split
    · refine conclude ?_
      unfold holdInStart; split
      · exact (k.resetPort p).of_quiet (holdFor_quiet p _)
      · exact k.resetPort p
    · exact k
  | breakEnd p =>
    refine of_next ?_ h
    split
    · refine transmit ?_ _
      exact k.aside rfl rfl
    · exact k
  | powerLoss =>
    refine of_next ?_ h
    split
    · exact k.loseVolatile.aside rfl rfl
    · exact k
  | resetLineAsserted =>
    refine of_next ?_ h
    split
    · exact k
    · exact k.loseVolatile.aside rfl rfl
  | powerApplied =>
    refine of_next ?_ h
    split
    · exact k
    · simp only; split <;> exact k.aside rfl rfl
  | resetLineReleased =>
    refine of_next ?_ h
    split
    · simp only; split <;> exact k.aside rfl rfl
    · exact k
  | startUpEnd =>
    refine of_next ?_ h
    split
    · exact k.startUpEnd
    · exact k
  | statementMove =>
    refine of_next ?_ h
    split
    · refine of_quiet ?_ (notify_quiet _ _ _)
      unfold moveStatement; split
      · exact k
      · exact k.aside rfl rfl
    · exact k

end LedgerOk

/-! ### The statement -/

/-- The tables' clauses: the store's numbers, the tables of the catalog and of intake, and the ledger with the queued orders. -/
theorem tablesOk_iff : TablesOk s ↔ NumbersOk s ∧ FilesOk s ∧ LedgerOk s := by
  constructor
  · rintro ⟨a, b, c, d, e, f, g, i, j, l, m, n, o, p, q, r, u, v, w, x⟩
    obtain ⟨b1, b2, b3, b4, b5, b6, b7, b8⟩ := stripeNumbers_lt_iff.1 b
    exact ⟨⟨a, b1, b2, b3, b4, b5, b6, b7, b8⟩, ⟨c, d, e, f, g, i, j, l, m, n, o⟩, ⟨p, q, r, u, v, w, x⟩⟩
  · rintro ⟨⟨a, b1, b2, b3, b4, b5, b6, b7, b8⟩, ⟨c, d, e, f, g, i, j, l, m, n, o⟩, ⟨p, q, r, u, v, w, x⟩⟩
    exact ⟨a, stripeNumbers_lt_iff.2 ⟨b1, b2, b3, b4, b5, b6, b7, b8⟩, c, d, e, f, g, i, j, l, m, n, o, p, q, r, u, v, w, x⟩

theorem LedgerOk.step (k : LedgerOk s) (f : FilesOk s) (h : step s = .next t) : LedgerOk t := by
  unfold Machine.step at h
  split at h
  · cases h; exact k
  · rename_i c rest _
    exact LedgerOk.exec (s := { s with pending := rest }) (k.aside rfl rfl) (f.of_eq rfl rfl rfl) h

/-- Settles O12: the changes of an event keep the store's numbers (`Event.numbersOk`) and the tables of the catalog and of intake
(`Event.filesOk`), and every command keeps the ledger and the orders (`LedgerOk.exec`). -/
theorem stepKeepsTables : Obligations.StepKeepsTables := by
  intro s t k h
  obtain ⟨hn, hf, hl⟩ := tablesOk_iff.1 k
  refine tablesOk_iff.2 ⟨?_, ?_, hl.step hf h⟩
  · exact step_keeps (fun _ => Sane.of_true s) (fun _ _ e k => e.numbersOk k) hn h
  · exact step_keeps (fun _ => Sane.of_true s) (fun _ _ e k => e.filesOk k) hf h

end Sys2Proof.Machine
end

section
/-! The state taken for reset, and where a version leaf lies. -/

namespace Sys2Proof.Machine

/-! ### The reset state -/

theorem reset_account (id : Nat) : State.reset.account id = Account.formatted := rfl

theorem linksOk_reset : LinksOk State.reset := by
  refine ⟨fun p => ?_, fun p => .inr (.inr ?_)⟩
  · cases p <;> exact ⟨List.nodup_nil, by decide, by decide, nofun, nofun, nofun⟩
  · cases p <;> exact ⟨rfl, rfl⟩

theorem noticesOk_reset : NoticesOk State.reset := nofun

theorem statementsOk_reset : StatementsOk State.reset := ⟨by decide, by decide, nofun, nofun, nofun⟩

theorem operatingOk_reset : OperatingOk State.reset := by constructor <;> decide

theorem tablesOk_reset : TablesOk State.reset := by
  refine tablesOk_iff.2 ⟨⟨⟨ordered_nil, nofun⟩, nofun, nofun, nofun, nofun, nofun, nofun, nofun, nofun⟩,
    ⟨ordered_nil, ordered_nil, nofun, ordered_nil, nofun, nofun, ordered_nil, nofun, nofun, ordered_nil, nofun⟩,
    ⟨⟨ordered_nil, nofun⟩, nofun, ⟨ordered_nil, nofun⟩, nofun, (fun p st h => ?_), ⟨ordered_nil, nofun⟩, nofun⟩⟩
  cases p <;> cases h

theorem moneyOk_reset : MoneyOk State.reset where
  idle := fun _ => rfl
  accounts := ⟨ordered_nil, nofun⟩
  ids := nofun
  contributors := ⟨ordered_nil, nofun⟩
  shares := nofun
  pool := by decide
  deskOrders := fun _ h => absurd h List.not_mem_nil
  benchOrders := fun _ h => absurd h List.not_mem_nil
  orders := fun _ h => absurd h List.not_mem_nil
  names := List.nodup_nil
  start := fun _ => rfl
  held := fun h => (h rfl).elim
  unused := fun id _ _ => by rw [reset_account]; rfl
  unheld := fun h => (h rfl).elim
  limits := fun id _ => by rw [reset_account]; simp [Account.formatted]
  widths := fun id _ => by rw [reset_account]; simp [Account.formatted, Config.maxBalance]
  exposure := Nat.zero_le _
  books := rfl

theorem readersOk_reset : ReadersOk State.reset :=
  ⟨fun _ => rfl, ⟨ordered_nil, nofun⟩, List.nodup_nil, List.nodup_nil, List.nodup_nil, fun _ => rfl, fun _ => rfl, fun _ => rfl⟩

theorem wingsOk_reset : WingsOk State.reset := .of_idle (fun _ => rfl) rfl rfl (fun _ => rfl) nofun

theorem stripesOk_reset : StripesOk State.reset := ⟨tablesOk_reset, fun _ => rfl, fun _ => rfl, fun _ => ⟨rfl, rfl, rfl⟩, nofun⟩

theorem catalogOk_reset : CatalogOk State.reset where
  tables := tablesOk_reset
  idle := fun _ => rfl
  objects := nofun
  start := fun _ => ⟨rfl, rfl, rfl⟩
  deposits := nofun
  records := fun h => absurd rfl h
  run := nofun
  output := fun h => absurd rfl h
  written := nofun
  queued := nofun
  number := nofun

theorem queuesOk_reset : QueuesOk State.reset := by
  refine ⟨ordered_nil, by decide, (fun p => by cases p <;> decide), (fun p => by cases p <;> decide), (fun p => ?_), by decide,
    List.nodup_nil, nofun⟩
  cases p <;> exact ⟨List.nodup_nil, nofun⟩

/-- Settles O19: the tables and queues of the reset state are empty, its mode is START and its part is not formatted. -/
theorem resetMeetsTheInvariants : Obligations.ResetMeetsTheInvariants :=
  ⟨linksOk_reset, noticesOk_reset, statementsOk_reset, operatingOk_reset, tablesOk_reset, moneyOk_reset, readersOk_reset,
    wingsOk_reset, stripesOk_reset, catalogOk_reset, queuesOk_reset⟩

/-! ### Version leaves -/

theorem locate_append (a : List Extent) (e : Extent) (b : List Extent) (j : Nat) (h : (a.map (·.count)).sum ≤ j)
    (hj : j < (a.map (·.count)).sum + e.count) :
    locate (a ++ e :: b) j = some (e.stripe, e.first + (j - (a.map (·.count)).sum)) := by
  induction a generalizing j with
  | nil => simp_all [locate]
  | cons x a ih =>
    simp only [List.map_cons, List.sum_cons] at h hj
    have hx : ¬ j < x.count := by omega
    rw [List.cons_append, locate, if_neg hx, ih (j - x.count) (by omega) (by omega)]
    simp only [List.map_cons, List.sum_cons, Nat.sub_sub]

theorem locate_eq_none_iff (es : List Extent) (j : Nat) : locate es j = none ↔ (es.map (·.count)).sum ≤ j := by
  induction es generalizing j with
  | nil => simp [locate]
  | cons e rest ih =>
    rw [locate, List.map_cons, List.sum_cons]
    split
    · simp; omega
    · rw [ih]; omega

/-- Settles O31, by induction on the extents before the one that holds the leaf. -/
theorem locateFindsTheLeaf : Obligations.LocateFindsTheLeaf := by
  refine fun es j => ⟨fun a e b h ha hj => ?_, locate_eq_none_iff es j⟩
  rw [h]
  exact locate_append a e b j ha hj

end Sys2Proof.Machine
end

section
/-! The laws of the stripe table, taken apart: what the queues hold, the levels of a stripe, the fronts, the operation in flight and the
copy in hand, each with the changes that it survives. -/

namespace Sys2Proof.Machine

variable {s t : State} {records after : Nat → Stripe} {n : Nat} {r : Stripe}

/-! ### The laws, one by one -/

/-- The queues hold the FREE and the DIRTY stripes, each once. -/
structure ShelvesOk (records : Nat → Stripe) (free dirty : List Nat) : Prop where
  freeOnce : free.Nodup
  free : ∀ n < Config.stripes, n ∈ free ↔ (records n).state = .free
  dirtyOnce : dirty.Nodup
  dirty : ∀ n < Config.stripes, n ∈ dirty ↔ (records n).state = .dirty

/-- The counts of a stripe's record. -/
structure LevelOk (r : Stripe) : Prop where
  live : r.live ≤ r.written
  written : r.written ≤ Config.leavesPerStripe
  open_ : ∀ f, r.state = .opened f → r.written < Config.leavesPerStripe
  blank : r.state = .free → r.written = 0
  dead : r.state = .dirty → r.live = 0

/-- A front holds at most one stripe, and a stalled front none. -/
structure FrontsOk (records : Nat → Stripe) (stalled : List Front) : Prop where
  fronts : ∀ f m n, (records m).state = .opened f → (records n).state = .opened f → m = n
  stalledOnce : stalled.Nodup
  stalled : ∀ f ∈ stalled, ∀ n, (records n).state ≠ .opened f

/-- The mark and the program and the erase in flight. -/
structure FlightOk (records : Nat → Stripe) (dirty : List Nat) (place : Option (Nat × Nat)) (wings : Wings) (start : Prop) : Prop where
  mark : ¬ start → place = wings.programmed
  cut : start → ∀ x ∈ place, ∃ f, (records x.1).state = .opened f
  program : ∀ op, wings = .both (.program op) →
    (records op.stripe).state = .opened op.front ∧ op.place = (records op.stripe).written
  erase : ∀ n, wings.erasing = some n → n ∈ dirty

/-- The copy in hand. -/
structure PlacedOk (records : Nat → Stripe) (c : Copy) : Prop where
  source : c.source.fits
  placed : c.dest.isSome = true ↔ 0 < c.copied ∨ (c.step = .program ∧ c.request ≠ .none)
  room : ∀ d, c.dest = some d → (records d.1).state = .opened .relocate ∧ (records d.1).written = d.2 + c.copied ∧
    (records d.1).live ≤ d.2 ∧ c.copied < c.source.count ∧ d.2 + c.source.count ≤ Config.leavesPerStripe

/-- What the operations in flight do for the copy in hand. -/
structure FeedsOk (wings : Wings) (copy : Option Copy) : Prop where
  fed : ∀ op, wings = .both (.program op) → op.front = .relocate →
    (op.ceased = false → ∃ c, copy = some c ∧ c.step = .program ∧ c.request = .inFlight) ∧
    (op.ceased = true → ∀ c, copy = some c → c.dest = none)
  fetched : ∀ w op, wings.fetching w = some op → op.owner = .relocation →
    ∃ c, copy = some c ∧ c.request = .inFlight ∧ c.step = fetchStep w

/-- The laws of the stripe table with their parts by name. -/
structure TableLaws (s : State) : Prop where
  shelves : ShelvesOk s.stripe s.store.freeQueue s.store.dirtyQueue
  levels : ∀ n, LevelOk (s.stripe n)
  fronts : FrontsOk s.stripe s.store.stalled
  extents : ∀ e ∈ s.liveExtents, e.fits
  flight : FlightOk s.stripe s.store.dirtyQueue s.store.mark s.store.wings (s.control.mode = .start)
  copy : ∀ c, s.copy = some c → PlacedOk s.stripe c
  feeds : FeedsOk s.store.wings s.copy

theorem stripeTableOk_iff : StripeTableOk s ↔ TableLaws s := by
  constructor
  · rintro ⟨a, b, c, d, e, f, g, h, i, j, k, l, m, n, o, p, q, x, y⟩
    refine ⟨⟨a, b, c, d⟩, fun n => ⟨(f n).1, (f n).2, g n, h n, i n⟩, ⟨e, j, k⟩, l, ⟨m, n, o, p⟩, fun c hc => ?_, ⟨x, fun w op => ?_⟩⟩
    · obtain ⟨q1, q2, q3⟩ := q c hc
      exact ⟨q1, q2, q3⟩
    · cases w <;> exact y _ op
  · rintro ⟨⟨a, b, c, d⟩, f, ⟨e, j, k⟩, l, ⟨m, n, o, p⟩, q, ⟨x, y⟩⟩
    refine ⟨a, b, c, d, e, fun n => ⟨(f n).live, (f n).written⟩, fun n => (f n).open_, fun n => (f n).blank, fun n => (f n).dead,
      j, k, l, m, n, o, p, fun c hc => ?_, x, fun w op => ?_⟩
    · obtain ⟨q1, q2, q3⟩ := q c hc
      exact ⟨q1, q2, q3⟩
    · cases w <;> exact y _ op

/-- A stripe that is closed keeps its counts in order. -/
theorem LevelOk.close (k : LevelOk r) (x : StripeState) (ho : ∀ f, x ≠ .opened f) (hf : x ≠ .free) (hd : x = .dirty → r.live = 0) :
    LevelOk { r with state := x } :=
  ⟨k.live, k.written, fun f h => absurd h (ho f), fun h => absurd h hf, hd⟩

/-! ### Records that keep what the laws speak of -/

/-- The states and the counts written are the same, and no live count is higher. -/
def Lowered (records after : Nat → Stripe) : Prop :=
  ∀ n, (after n).state = (records n).state ∧ (after n).written = (records n).written ∧ (after n).live ≤ (records n).live

theorem Lowered.refl (records : Nat → Stripe) : Lowered records records := fun _ => ⟨rfl, rfl, Nat.le_refl _⟩

theorem Lowered.shelves (l : Lowered records after) {free dirty : List Nat} (k : ShelvesOk records free dirty) :
    ShelvesOk after free dirty :=
  { k with free := fun n h => by rw [(l n).1]; exact k.free n h, dirty := fun n h => by rw [(l n).1]; exact k.dirty n h }

theorem Lowered.level (l : Lowered records after) (n : Nat) (k : LevelOk (records n)) : LevelOk (after n) := by
  obtain ⟨h1, h2, h3⟩ := l n
  obtain ⟨a, b, c, d, e⟩ := k
  refine ⟨by omega, by omega, fun f h => ?_, fun h => ?_, fun h => ?_⟩
  · rw [h2]; exact c f (h1 ▸ h)
  · rw [h2]; exact d (h1 ▸ h)
  · have := e (h1 ▸ h); omega

theorem Lowered.fronts (l : Lowered records after) {stalled : List Front} (k : FrontsOk records stalled) : FrontsOk after stalled :=
  ⟨fun f m n hm hn => k.fronts f m n ((l m).1 ▸ hm) ((l n).1 ▸ hn), k.stalledOnce, fun f hf n h => k.stalled f hf n ((l n).1 ▸ h)⟩

theorem Lowered.flight (l : Lowered records after) {dirty : List Nat} {mark : Option (Nat × Nat)} {wings : Wings} {start : Prop}
    (k : FlightOk records dirty mark wings start) : FlightOk after dirty mark wings start :=
  { k with
    cut := fun h x hx => by rw [(l x.1).1]; exact k.cut h x hx
    program := fun op h => by rw [(l op.stripe).1, (l op.stripe).2.1]; exact k.program op h }

theorem Lowered.placed (l : Lowered records after) {c : Copy} (k : PlacedOk records c) : PlacedOk after c := by
  refine { k with room := fun d hd => ?_ }
  obtain ⟨h1, h2, h3, h4, h5⟩ := k.room d hd
  obtain ⟨l1, l2, l3⟩ := l d.1
  exact ⟨l1.trans h1, l2.trans h2, l3.trans h3, h4, h5⟩

/-! ### One record changes -/

/-- Neither FREE nor DIRTY. -/
abbrev Stripe.shelved (r : Stripe) : Prop := r.state = .free ∨ r.state = .dirty

theorem ShelvesOk.update {free dirty : List Nat} (k : ShelvesOk records free dirty) (h : ¬ (records n).shelved) (hr : ¬ r.shelved) :
    ShelvesOk (Function.update records n r) free dirty := by
  refine { k with free := fun m hm => ?_, dirty := fun m hm => ?_ }
  · rw [k.free m hm, Function.update_apply]; split
    · rename_i e; subst e; exact iff_of_false (fun e => h (.inl e)) (fun e => hr (.inl e))
    · rfl
  · rw [k.dirty m hm, Function.update_apply]; split
    · rename_i e; subst e; exact iff_of_false (fun e => h (.inr e)) (fun e => hr (.inr e))
    · rfl

/-- The head of the free queue is taken. -/
theorem ShelvesOk.takeFree {rest dirty : List Nat} (k : ShelvesOk records (n :: rest) dirty) (hn : n < Config.stripes)
    (hr : ¬ r.shelved) : ShelvesOk (Function.update records n r) rest dirty := by
  obtain ⟨hnot, honce⟩ := List.nodup_cons.1 k.freeOnce
  have hs : (records n).state = .free := (k.free n hn).1 (by simp)
  refine { k with freeOnce := honce, free := fun m hm => ?_, dirty := fun m hm => ?_ }
  · rw [Function.update_apply]; split
    · rename_i e; subst e; exact iff_of_false hnot (fun e => hr (.inl e))
    · rename_i e; rw [← k.free m hm]; simp [e]
  · rw [k.dirty m hm, Function.update_apply]; split
    · rename_i e; subst e; exact iff_of_false (by simp [hs]) (fun e => hr (.inr e))
    · rfl

/-- A stripe leaves the dirty queue. -/
theorem ShelvesOk.leaveDirty {free dirty : List Nat} (k : ShelvesOk records free dirty) (hd : n ∈ dirty) (hn : n < Config.stripes)
    (hr : ¬ r.shelved) : ShelvesOk (Function.update records n r) free (dirty.erase n) := by
  have hs : (records n).state = .dirty := (k.dirty n hn).1 hd
  refine { k with dirtyOnce := k.dirtyOnce.erase n, free := fun m hm => ?_, dirty := fun m hm => ?_ }
  · rw [k.free m hm, Function.update_apply]; split
    · rename_i e; subst e; exact iff_of_false (by simp [hs]) (fun e => hr (.inl e))
    · rfl
  · rw [Function.update_apply, k.dirtyOnce.mem_erase_iff]; split
    · rename_i e; subst e; exact iff_of_false (by simp) (fun e => hr (.inr e))
    · rename_i e; simp [e, k.dirty m hm]

/-- A stripe passes from the dirty queue to the free queue's tail. -/
theorem ShelvesOk.freed {free dirty : List Nat} (k : ShelvesOk records free dirty) (hd : n ∈ dirty) (hn : n < Config.stripes)
    (hr : r.state = .free) : ShelvesOk (Function.update records n r) (free ++ [n]) (dirty.erase n) := by
  have hs : (records n).state = .dirty := (k.dirty n hn).1 hd
  have hf : n ∉ free := fun h => by rw [(k.free n hn).1 h] at hs; cases hs
  refine ⟨?_, fun m hm => ?_, k.dirtyOnce.erase n, fun m hm => ?_⟩
  · exact List.nodup_append.2 ⟨k.freeOnce, by simp, fun a ha b hb => by rw [List.mem_singleton.1 hb]; exact fun e => hf (e ▸ ha)⟩
  · rw [Function.update_apply, List.mem_append, List.mem_singleton]; split
    · rename_i e; simp [e, hr]
    · rename_i e; simp [e, k.free m hm]
  · rw [Function.update_apply, k.dirtyOnce.mem_erase_iff]; split
    · rename_i e; simp [e, hr]
    · rename_i e; simp [e, k.dirty m hm]

/-- A stripe joins the dirty queue. -/
theorem ShelvesOk.joinDirty {free dirty : List Nat} (k : ShelvesOk records free dirty) (kept : Nat) (hn : n < Config.stripes)
    (h : ¬ (records n).shelved) (hr : r.state = .dirty) : ShelvesOk (Function.update records n r) free (joinDirty kept n dirty) := by
  have hd : n ∉ dirty := fun e => h (.inr ((k.dirty n hn).1 e))
  refine { k with dirtyOnce := joinDirty_nodup k.dirtyOnce hd, free := fun m hm => ?_, dirty := fun m hm => ?_ }
  · rw [k.free m hm, Function.update_apply]; split
    · rename_i e; subst e; exact iff_of_false (fun e => h (.inl e)) (by simp [hr])
    · rfl
  · rw [Function.update_apply, mem_joinDirty]; split
    · rename_i e; simp [e, hr]
    · rename_i e; simp [e, k.dirty m hm]

theorem levels_update (k : ∀ n, LevelOk (records n)) (hr : LevelOk r) (m : Nat) : LevelOk (Function.update records n r m) := by
  rw [Function.update_apply]; split
  · exact hr
  · exact k m

/-- A record that opens nothing new. -/
theorem FrontsOk.update {stalled : List Front} (k : FrontsOk records stalled)
    (h : ∀ f, r.state = .opened f → (records n).state = .opened f) : FrontsOk (Function.update records n r) stalled := by
  have old : ∀ f m, (Function.update records n r m).state = .opened f → (records m).state = .opened f := by
    intro f m hm
    rw [Function.update_apply] at hm
    split at hm
    · rename_i e; subst e; exact h f hm
    · exact hm
  exact ⟨fun f m n hm hn => k.fronts f m n (old f m hm) (old f n hn), k.stalledOnce, fun f hf n hn => k.stalled f hf n (old f n hn)⟩

/-- A front that is not stalled and holds no stripe opens one. -/
theorem FrontsOk.open_ {stalled : List Front} (k : FrontsOk records stalled) {f : Front} (hf : f ∉ stalled)
    (h : ∀ m, (records m).state ≠ .opened f) (hr : r.state = .opened f) : FrontsOk (Function.update records n r) stalled := by
  have old : ∀ g m, (Function.update records n r m).state = .opened g → (m = n ∧ g = f) ∨ ((records m).state = .opened g ∧ g ≠ f) := by
    intro g m hm
    rw [Function.update_apply] at hm
    split at hm
    · rename_i e; rw [hr] at hm; cases hm; exact .inl ⟨e, rfl⟩
    · exact .inr ⟨hm, fun e => h m (e ▸ hm)⟩
  refine ⟨fun g m j hm hj => ?_, k.stalledOnce, fun g hg m hm => ?_⟩
  · rcases old g m hm with ⟨rfl, rfl⟩ | ⟨h1, h2⟩ <;> rcases old g j hj with ⟨rfl, h4⟩ | ⟨h3, h4⟩
    · rfl
    · exact absurd rfl h4
    · exact absurd h4 h2
    · exact k.fronts g m j h1 h3
  · rcases old g m hm with ⟨-, rfl⟩ | ⟨h1, -⟩
    · exact hf hg
    · exact k.stalled g hg m h1

/-- A stripe that is not OPEN is none of an operation in flight. -/
theorem FlightOk.update {dirty : List Nat} {mark : Option (Nat × Nat)} {wings : Wings} {start : Prop}
    (k : FlightOk records dirty mark wings start) (h : ∀ f, (records n).state ≠ .opened f) :
    FlightOk (Function.update records n r) dirty mark wings start := by
  refine { k with cut := fun hs x hx => ?_, program := fun op ho => ?_ }
  · obtain ⟨f, hf⟩ := k.cut hs x hx
    have e : x.1 ≠ n := fun e => h f (e ▸ hf)
    rw [Function.update_of_ne e]
    exact ⟨f, hf⟩
  · have hp := k.program op ho
    have e : op.stripe ≠ n := fun e => h op.front (e ▸ hp.1)
    rw [Function.update_of_ne e]
    exact hp

theorem FlightOk.dirty {dirty rest : List Nat} {mark : Option (Nat × Nat)} {wings : Wings} {start : Prop}
    (k : FlightOk records dirty mark wings start) (h : ∀ n, wings.erasing = some n → n ∈ dirty → n ∈ rest) :
    FlightOk records rest mark wings start := { k with erase := fun n hn => h n hn (k.erase n hn) }

/-- Idle wings with no mark. -/
theorem FlightOk.idle {dirty : List Nat} {start : Prop} {a b : Option FetchOp} : FlightOk records dirty none (.split a b) start :=
  ⟨fun _ => rfl, fun _ => nofun, nofun, nofun⟩

/-- A stripe that is not the RELOCATE front's is none of the copy's. -/
theorem PlacedOk.update {c : Copy} (k : PlacedOk records c) (h : (records n).state ≠ .opened .relocate) :
    PlacedOk (Function.update records n r) c := by
  refine { k with room := fun d hd => ?_ }
  have hr := k.room d hd
  have e : d.1 ≠ n := fun e => h (e ▸ hr.1)
  rw [Function.update_of_ne e]
  exact hr

/-- A copy without a destination. -/
theorem PlacedOk.unplaced {c : Copy} (hs : c.source.fits) (hd : c.dest = none) (hc : c.copied = 0)
    (hr : c.step = .program → c.request = .none) : PlacedOk records c := by
  refine ⟨hs, ?_, fun d h => by rw [hd] at h; cases h⟩
  rw [hd, hc]
  simp only [Option.isSome_none, Bool.false_eq_true, Nat.lt_irrefl, false_or, false_iff, not_and, not_not]
  exact hr

theorem FeedsOk.idle {copy : Option Copy} : FeedsOk (.split none none) copy := by
  refine ⟨nofun, fun w op h => ?_⟩
  cases w <;> cases h

/-! ### Records of a state -/

theorem stripe_mapStripe (h : Table.Ordered s.store.stripes) (n : Nat) (g : Stripe → Stripe) :
    (s.mapStripe n g).stripe = Function.update s.stripe n (g (s.stripe n)) := by
  funext m
  rw [Function.update_apply]
  split
  · rename_i e; subst e; exact stripe_putStripe_self s _ _ h
  · rename_i e; exact stripe_putStripe_ne s _ _ _ e

theorem tget_of_mem {α : Type} {l : Table α} (h : Table.Ordered l) {k : Nat} {v : α} (hm : (k, v) ∈ l) : tget l k = some v := by
  induction l with
  | nil => cases hm
  | cons e rest ih =>
    obtain ⟨j, w⟩ := e
    obtain ⟨h1, h2⟩ := ordered_cons.1 h
    simp only [tget]
    rcases List.mem_cons.1 hm with e | hm
    · cases e; simp
    · have hj : j ≠ k := by have := h1 _ hm; simp at this; omega
      rw [if_neg hj]
      exact ih h2 hm

theorem stripe_of_mem (h : Table.Ordered s.store.stripes) (hm : (n, r) ∈ s.store.stripes) : s.stripe n = r := by
  rw [State.stripe, tgetD, tget_of_mem h hm]; rfl

/-- A front without a stripe: no record is OPEN for it. -/
theorem frontStripe_none {f : Front} (h : s.frontStripe f = none) (n : Nat) : (s.stripe n).state ≠ .opened f := by
  intro e
  cases hg : tget s.store.stripes n with
  | none => simp [State.stripe, tgetD, hg, Stripe.formatted] at e
  | some r =>
    have hm := mem_of_tget hg
    have hs : s.stripe n = r := by simp [State.stripe, tgetD, hg]
    have := List.find?_eq_none.1 h _ hm
    simp [← hs, e] at this

theorem frontStripe_some (h : Table.Ordered s.store.stripes) {f : Front} (hf : s.frontStripe f = some (n, r)) :
    s.stripe n = r ∧ r.state = .opened f := by
  obtain ⟨hm, ho⟩ := frontStripe_mem hf
  exact ⟨stripe_of_mem h hm, ho⟩

end Sys2Proof.Machine
end

section
/-! StepKeepsStripes: the laws of the stripe table under the blocks' work. -/

namespace Sys2Proof.Machine

variable {s t : State} {n : Nat} {r : Stripe}

/-- What START leaves in hand: nothing. -/
structure Calm (s : State) : Prop where
  wings : s.store.wings = .split none none
  round : s.relocation.round = none
  stalled : s.store.stalled = []

theorem Calm.copy (c : Calm s) : s.copy = none := by rw [State.copy, c.round]; rfl

theorem detachFetcher_round (who : Fetcher) (s : State) : (detachFetcher who s).relocation = s.relocation := by
  obtain ⟨w, h, -⟩ := detachFetcher_wings who s; rw [h]

theorem detachFeeder_round (f : Front) (s : State) : (detachFeeder f s).relocation = s.relocation := by
  obtain ⟨w, h, -⟩ := detachFeeder_wings f s; rw [h]

theorem detachFetcher_stalled (who : Fetcher) (s : State) : (detachFetcher who s).store.stalled = s.store.stalled := by
  obtain ⟨w, h, -⟩ := detachFetcher_wings who s; rw [h]

theorem detachFeeder_stalled (f : Front) (s : State) : (detachFeeder f s).store.stalled = s.store.stalled := by
  obtain ⟨w, h, -⟩ := detachFeeder_wings f s; rw [h]

theorem Calm.detachFetcher (c : Calm s) (who : Fetcher) : Calm (detachFetcher who s) :=
  ⟨detachFetcher_idle who c.wings, by rw [detachFetcher_round]; exact c.round, by rw [detachFetcher_stalled]; exact c.stalled⟩

theorem Calm.detachFeeder (c : Calm s) (f : Front) : Calm (detachFeeder f s) :=
  ⟨detachFeeder_idle f c.wings, by rw [detachFeeder_round]; exact c.round, by rw [detachFeeder_stalled]; exact c.stalled⟩

theorem openStripe_stalled (f : Front) (s : State) : (openStripe f s).store.stalled = s.store.stalled := by
  unfold openStripe; split <;> rfl

/-- The blocks put nothing in hand in START. -/
theorem Work.calm (h : Work False s t) (m : s.control.mode = .start) (c : Calm s) : Calm t := by
  cases h with
  | refiles h =>
    have hw : t.store.wings = s.store.wings := congrArg StoreView.wings h.store
    have hr : t.relocation.round = s.relocation.round := congrArg StoreView.round h.store
    have hs : t.store.stalled = s.store.stalled := congrArg StoreView.stalled h.store
    exact ⟨hw.trans c.wings, hr.trans c.round, hs.trans c.stalled⟩
  | opens f =>
    refine ⟨?_, ?_, ?_⟩
    · rw [openStripe_wings]; exact c.wings
    · rw [openStripe_relocation]; exact c.round
    · rw [openStripe_stalled]; exact c.stalled
  | examines =>
    have e : examineStalled s = s := by unfold examineStalled; rw [c.stalled]; rfl
    rw [e]; exact c
  | stalls f h => exact absurd m h
  | unstalls f => exact { c with stalled := by show s.store.stalled.filter _ = []; rw [c.stalled]; rfl }
  | ceases who => exact c.detachFetcher who
  | leaves f => exact c.detachFeeder f
  | abandons => exact { (c.detachFetcher .relocation).detachFeeder .relocate with round := rfl }
  | closes n r d hr ho hp hc => rw [c.copy] at hc; cases hc
  | presents n q r d hr => rw [c.round] at hr; cases hr
  | astray j n p q r d hm ho hn hq hr => rw [c.round] at hr; cases hr
  | looks x h =>
    rcases h with h | h | h
    · exact h.elim
    · exact absurd m h
    · subst h; exact { c with round := rfl }
  | goes =>
    have e : mapCopy (fun c => { c with request := .inFlight }) s = s := by unfold mapCopy; rw [c.round]
    rw [e]; exact c
  | _ => exact { c with }

/-! ### Records that lose nothing but live leaves -/

theorem TableLaws.of_lowered (k : TableLaws s) (l : Lowered s.stripe t.stripe) (hf : t.store.freeQueue = s.store.freeQueue)
    (hd : t.store.dirtyQueue = s.store.dirtyQueue) (hs : t.store.stalled = s.store.stalled) (hm : t.store.mark = s.store.mark)
    (hw : t.store.wings = s.store.wings) (hc : t.control.mode = .start ↔ s.control.mode = .start)
    (he : ∀ e ∈ t.liveExtents, e ∈ s.liveExtents) (hy : t.copy = s.copy) : TableLaws t where
  shelves := hf ▸ hd ▸ l.shelves k.shelves
  levels n := l.level n (k.levels n)
  fronts := hs ▸ l.fronts k.fronts
  extents e h := k.extents e (he e h)
  flight := by rw [hd, hm, hw, propext hc]; exact l.flight k.flight
  copy c h := l.placed (k.copy c (hy ▸ h))
  feeds := hw ▸ hy ▸ k.feeds

theorem lowered_mapStripe (ho : Table.Ordered s.store.stripes) {g : Stripe → Stripe}
    (h : (g (s.stripe n)).state = (s.stripe n).state ∧ (g (s.stripe n)).written = (s.stripe n).written ∧
      (g (s.stripe n)).live ≤ (s.stripe n).live) : Lowered s.stripe (s.mapStripe n g).stripe := by
  intro m
  rw [stripe_mapStripe ho, Function.update_apply]
  split
  · rename_i e; subst e; exact h
  · exact ⟨rfl, rfl, Nat.le_refl _⟩

theorem TableLaws.mapStripe (k : TableLaws s) (ho : Table.Ordered s.store.stripes) {g : Stripe → Stripe}
    (h : (g (s.stripe n)).state = (s.stripe n).state ∧ (g (s.stripe n)).written = (s.stripe n).written ∧
      (g (s.stripe n)).live ≤ (s.stripe n).live) : TableLaws (s.mapStripe n g) :=
  k.of_lowered (lowered_mapStripe ho h) rfl rfl rfl rfl rfl .rfl (fun _ h => h) rfl

theorem TableLaws.of_view (k : TableLaws s) (h : t.storeView = s.storeView) (hl : ∀ e ∈ t.liveExtents, e ∈ s.liveExtents) :
    TableLaws t := by
  simp only [State.storeView, StoreView.mk.injEq] at h
  obtain ⟨h1, h2, h3, h4, h5, h6, -, -, -, h10, -, h12⟩ := h
  have e : t.stripe = s.stripe := by unfold State.stripe; rw [h1]
  exact k.of_lowered (e ▸ .refl _) h2 h3 h4 h5 h6 (by rw [h10]) hl (by unfold State.copy; rw [h12])

/-! ### Fronts -/

theorem TableLaws.unstall (k : TableLaws s) (f : Front) : TableLaws (unstall f s) :=
  { k with fronts := ⟨k.fronts.fronts, k.fronts.stalledOnce.filter _, fun g hg => k.fronts.stalled g (List.mem_filter.1 hg).1⟩ }

theorem TableLaws.stall (k : TableLaws s) {f : Front} (h : s.frontStripe f = none) (hs : f ∉ s.store.stalled) :
    TableLaws (stall f s) := by
  refine { k with fronts := ⟨k.fronts.fronts, ?_, fun g hg => ?_⟩ }
  · exact List.nodup_append.2 ⟨k.fronts.stalledOnce, by simp, fun a ha b hb => by
      rw [List.mem_singleton.1 hb]; exact fun e => hs (e ▸ ha)⟩
  · rcases List.mem_append.1 hg with hg | hg
    · exact k.fronts.stalled g hg
    · rw [List.mem_singleton.1 hg]; exact frontStripe_none h

theorem TableLaws.openStripe (k : TableLaws s) (hn : NumbersOk s) {f : Front} (h : ∀ n, (s.stripe n).state ≠ .opened f)
    (hs : f ∉ s.store.stalled) : TableLaws (openStripe f s) := by
  unfold Machine.openStripe; split
  · exact k
  · rename_i n rest hq
    have hn' : n < Config.stripes := hn.free n (by simp [hq])
    have kq : ShelvesOk s.stripe (n :: rest) s.store.dirtyQueue := hq ▸ k.shelves
    have hfree : (s.stripe n).state = .free := (kq.free n hn').1 (by simp)
    have e := stripe_mapStripe (s := { s with store.freeQueue := rest }) hn.stripes.1 n
      (fun r => { r with state := .opened f, written := 0, live := 0, programDay := s.today, retirePending := false })
    have no : ∀ g, (s.stripe n).state ≠ .opened g := fun g h => by rw [hfree] at h; cases h
    refine ⟨?_, fun m => ?_, ?_, k.extents, ?_, fun c hc => ?_, k.feeds⟩ <;> erw [e]
    · exact kq.takeFree hn' (by simp [Stripe.shelved])
    · exact levels_update k.levels ⟨Nat.le_refl _, Nat.zero_le _, (fun _ _ => (by decide : 0 < Config.leavesPerStripe)), fun _ => rfl, fun _ => rfl⟩ m
    · exact k.fronts.open_ hs h rfl
    · exact k.flight.update no
    · exact (k.copy c hc).update (no _)

theorem unstall_openStripe (f : Front) (s : State) : unstall f (openStripe f s) = openStripe f (unstall f s) := by
  unfold unstall openStripe
  cases s.store.freeQueue <;> rfl

/-- The stalled fronts are examined: each holds no stripe, and one that opens a stripe is stalled no more. -/
theorem TableLaws.examineStalled (k : TableLaws s) (hn : NumbersOk s) : TableLaws (examineStalled s) := by
  suffices h : ∀ (l : List Front) (t : State), TableLaws t → NumbersOk t → l.Nodup → (∀ f ∈ l, f ∈ t.store.stalled) →
      TableLaws (l.foldl (fun s f => if s.mayOpen f then Machine.unstall f (Machine.openStripe f s) else s) t) from
    h _ _ k hn k.fronts.stalledOnce (fun _ h => h)
  intro l
  induction l with
  | nil => exact fun t kt _ _ _ => kt
  | cons f l ih =>
    intro t kt ht hl hsub
    obtain ⟨hfl, hl⟩ := List.nodup_cons.1 hl
    have hu : NumbersOk (Machine.unstall f t) := { ht with }
    rw [List.foldl_cons]
    split
    · rw [unstall_openStripe]
      refine ih _ ((kt.unstall f).openStripe hu (kt.fronts.stalled f (hsub f (by simp))) ?_) (hu.openStripe f) hl fun g hg => ?_
      · simp [Machine.unstall]
      · rw [openStripe_stalled]
        exact List.mem_filter.2 ⟨hsub g (by simp [hg]), by simpa using fun e : g = f => hfl (e ▸ hg)⟩
    · exact ih t kt ht hl fun g hg => hsub g (by simp [hg])

/-! ### Operations whose requester or feeder ceases -/

theorem ceaseFetch_relocation {who : Fetcher} {x : Option FetchOp} {op : FetchOp} (hx : ceaseFetch who x = some op)
    (ho : op.owner = .relocation) : x = some op := by
  obtain ⟨y, hy, rfl⟩ := Option.map_eq_some_iff.1 hx
  by_cases e : y.owner = who
  · simp [e] at ho
  · simp [e, hy]

theorem ceaseFetch_owner {who : Fetcher} (h : who ≠ .ceased) {x : Option FetchOp} {op : FetchOp} (hx : ceaseFetch who x = some op) :
    op.owner ≠ who := by
  obtain ⟨y, hy, rfl⟩ := Option.map_eq_some_iff.1 hx
  split
  · exact h.symm
  · assumption

theorem detachFetcher_fetching {who w : _} {op : FetchOp} (h : (detachFetcher who s).store.wings.fetching w = some op) :
    ∃ x, s.store.wings.fetching w = x ∧ ceaseFetch who x = some op := by
  unfold detachFetcher at h
  split at h
  · rename_i a b hw
    rw [hw]
    cases w
    · exact ⟨a, rfl, h⟩
    · exact ⟨b, rfl, h⟩
  · rename_i op' hw
    rw [hw] at h
    cases w <;> cases h

theorem detachFetcher_both {who : Fetcher} {op : WideOp} (h : (detachFetcher who s).store.wings = .both op) :
    s.store.wings = .both op := by
  unfold detachFetcher at h
  split at h
  · cases h
  · exact h

/-- A program after a feeder's end is the program before, marked where it was the feeder's. -/
theorem detachFeeder_both {f : Front} {op : ProgramOp} (h : (detachFeeder f s).store.wings = .both (.program op)) :
    ∃ x, s.store.wings = .both (.program x) ∧ (if x.front = f then { x with ceased := true } else x) = op := by
  unfold detachFeeder at h
  split at h
  · rename_i x hw
    refine ⟨x, hw, ?_⟩
    split at h
    · rename_i e; rw [if_pos e]; cases h; rfl
    · rename_i e; rw [if_neg e]; rw [hw] at h; cases h; rfl
  · rename_i hx; exact absurd h (hx op)

theorem detachFeeder_fetching {f : Front} {w : Wing} : (detachFeeder f s).store.wings.fetching w = s.store.wings.fetching w := by
  unfold detachFeeder; split
  · rename_i x hw
    split
    · rw [hw]; cases w <;> rfl
    · rfl
  · rfl

/-- Other wings with the same program and erase, and another round, keep the laws where the copy is in order and served. -/
theorem TableLaws.of_hand (k : TableLaws s) {w : Wings} {x : Option Round} (hp : w.programmed = s.store.wings.programmed)
    (he : w.erasing = s.store.wings.erasing)
    (hprog : ∀ op, w = .both (.program op) → ∃ y, s.store.wings = .both (.program y) ∧ op.stripe = y.stripe ∧ op.front = y.front ∧
      op.place = y.place)
    (hc : ∀ c, (s.putRound x).copy = some c → PlacedOk s.stripe c) (hf : FeedsOk w (s.putRound x).copy) :
    TableLaws (({ s with store.wings := w } : State).putRound x) := by
  refine { k with flight := ⟨fun m => ?_, k.flight.cut, fun op h => ?_, fun n h => k.flight.erase n (he ▸ h)⟩, copy := hc, feeds := hf }
  · exact (k.flight.mark m).trans hp.symm
  · obtain ⟨y, hy, h1, h2, h3⟩ := hprog op h
    have hk := k.flight.program y hy
    rw [h1, h2, h3]; exact hk

/-- Another round keeps the laws where its copy is in order and served. -/
theorem TableLaws.putRound (k : TableLaws s) {x : Option Round} (hc : ∀ c, (s.putRound x).copy = some c → PlacedOk s.stripe c)
    (hf : FeedsOk s.store.wings (s.putRound x).copy) : TableLaws (s.putRound x) :=
  k.of_hand rfl rfl (fun op h => ⟨op, h, rfl, rfl, rfl⟩) hc hf

theorem TableLaws.of_wings (k : TableLaws s) {w : Wings} (hp : w.programmed = s.store.wings.programmed)
    (he : w.erasing = s.store.wings.erasing)
    (hprog : ∀ op, w = .both (.program op) → ∃ y, s.store.wings = .both (.program y) ∧ op.stripe = y.stripe ∧ op.front = y.front ∧
      op.place = y.place)
    (hf : FeedsOk w s.copy) : TableLaws { s with store.wings := w } :=
  k.of_hand (x := s.relocation.round) hp he hprog k.copy hf

theorem TableLaws.detachFetcher (k : TableLaws s) (who : Fetcher) : TableLaws (detachFetcher who s) := by
  obtain ⟨w, hw, he, hp⟩ := detachFetcher_wings who s
  have e : (Machine.detachFetcher who s).store.wings = w := by rw [hw]
  rw [hw]
  refine k.of_wings hp he (fun op ho => ?_) ⟨fun op ho => ?_, fun x op ho hr => ?_⟩
  · exact ⟨op, detachFetcher_both (e.trans ho), rfl, rfl, rfl⟩
  · exact k.feeds.fed op (detachFetcher_both (e.trans ho))
  · rw [← e] at ho
    obtain ⟨y, hy, hc⟩ := detachFetcher_fetching ho
    exact k.feeds.fetched x op (hy.trans (ceaseFetch_relocation hc hr)) hr

theorem TableLaws.detachFeeder (k : TableLaws s) (f : Front) (h : f ≠ .relocate) : TableLaws (detachFeeder f s) := by
  obtain ⟨w, hw, he, hp⟩ := detachFeeder_wings f s
  have e : (Machine.detachFeeder f s).store.wings = w := by rw [hw]
  rw [hw]
  refine k.of_wings hp he (fun op ho => ?_) ⟨fun op ho hr => ?_, fun x op ho hr => ?_⟩
  · obtain ⟨x, hx, rfl⟩ := detachFeeder_both (e.trans ho)
    refine ⟨x, hx, ?_⟩
    split <;> exact ⟨rfl, rfl, rfl⟩
  · obtain ⟨x, hx, rfl⟩ := detachFeeder_both (e.trans ho)
    by_cases hxf : x.front = f
    · rw [if_pos hxf] at hr; exact absurd (hxf.symm.trans hr) h
    · rw [if_neg hxf] at hr ⊢; exact k.feeds.fed x hx hr
  · rw [← e, detachFeeder_fetching] at ho
    exact k.feeds.fetched x op ho hr

/-- The round is abandoned: no program feeds a copy, and no fetch is the engine's. -/
theorem TableLaws.abandon (k : TableLaws s) :
    TableLaws ((Machine.detachFeeder .relocate (Machine.detachFetcher .relocation s)).putRound none) := by
  obtain ⟨w, hw, he, hp⟩ := detachFetcher_wings .relocation s
  obtain ⟨v, hv, he', hp'⟩ := detachFeeder_wings .relocate (Machine.detachFetcher .relocation s)
  have e : (Machine.detachFeeder .relocate (Machine.detachFetcher .relocation s)).store.wings = v := by rw [hv]
  rw [hv]
  rw [hw] at he' hp' ⊢
  refine k.of_hand (hp'.trans hp) (he'.trans he) (fun op ho => ?_) nofun ⟨fun op ho hr => ?_, fun y op ho hr => ?_⟩
  · obtain ⟨x, hx, rfl⟩ := detachFeeder_both (e.trans ho)
    refine ⟨x, detachFetcher_both hx, ?_⟩
    split <;> exact ⟨rfl, rfl, rfl⟩
  · obtain ⟨x, -, rfl⟩ := detachFeeder_both (e.trans ho)
    refine ⟨fun h => ?_, fun _ => nofun⟩
    split at h
    · cases h
    · rename_i hx; rw [if_neg hx] at hr; exact absurd hr hx
  · rw [← e, detachFeeder_fetching] at ho
    obtain ⟨z, -, hc⟩ := detachFetcher_fetching ho
    exact absurd hr (ceaseFetch_owner (by simp) hc)

/-! ### Stripes that are not OPEN -/

/-- A FULL stripe is retired, or joins the dirty queue. -/
theorem TableLaws.leaveFull (k : TableLaws s) (hn : NumbersOk s) {q : Stripe} (hr : (n, q) ∈ s.store.stripes) (hf : q.state = .full) :
    TableLaws (s.mapStripe n (fun r => { r with state := .retired })) ∧
    (q.live = 0 → ∀ kept, TableLaws { s.mapStripe n (fun r => { r with state := .dirty }) with
      store.dirtyQueue := joinDirty kept n s.store.dirtyQueue }) := by
  have hs : s.stripe n = q := stripe_of_mem hn.stripes.1 hr
  have hshelf : ¬ (s.stripe n).shelved := by rw [hs, Stripe.shelved, hf]; simp
  have no : ∀ f, (s.stripe n).state ≠ .opened f := fun f e => by rw [hs, hf] at e; cases e
  have e := fun g => stripe_mapStripe hn.stripes.1 n g
  constructor
  · refine ⟨?_, fun m => ?_, ?_, k.extents, ?_, fun c hc => ?_, k.feeds⟩ <;> rw [e]
    · exact k.shelves.update hshelf (by simp [Stripe.shelved])
    · exact levels_update k.levels ((k.levels n).close .retired nofun nofun nofun) m
    · exact k.fronts.update nofun
    · exact k.flight.update no
    · exact (k.copy c hc).update (no _)
  · intro hl kept
    have e := stripe_mapStripe hn.stripes.1 n (fun r => { r with state := .dirty })
    refine ⟨?_, fun m => ?_, ?_, k.extents, ?_, fun c hc => ?_, k.feeds⟩ <;> erw [e]
    · exact k.shelves.joinDirty kept (hn.listed _ hr) hshelf rfl
    · exact levels_update k.levels ((k.levels n).close .dirty nofun nofun fun _ => hs ▸ hl) m
    · exact k.fronts.update nofun
    · exact (k.flight.update no).dirty fun j _ hj => (mem_joinDirty _ _ _ _).2 (.inr hj)
    · exact (k.copy c hc).update (no _)

/-- The stripe at the dirty queue's head is retired. -/
theorem TableLaws.scrap (k : TableLaws s) (hn : NumbersOk s) {rest : List Nat} (hq : s.store.dirtyQueue = n :: rest)
    (he : s.store.wings.erasing = none) :
    TableLaws (({ s with store.dirtyQueue := rest } : State).mapStripe n (fun r => { r with state := .retired })) := by
  have hn' : n < Config.stripes := hn.dirty n (by simp [hq])
  have hd : n ∈ s.store.dirtyQueue := by simp [hq]
  have hs : (s.stripe n).state = .dirty := (k.shelves.dirty n hn').1 hd
  have no : ∀ f, (s.stripe n).state ≠ .opened f := fun f e => by rw [hs] at e; cases e
  have e := stripe_mapStripe (s := { s with store.dirtyQueue := rest }) hn.stripes.1 n (fun r => { r with state := .retired })
  have er : s.store.dirtyQueue.erase n = rest := by rw [hq, List.erase_cons_head]
  refine ⟨?_, fun m => ?_, ?_, k.extents, ?_, fun c hc => ?_, k.feeds⟩ <;> erw [e]
  · exact er ▸ k.shelves.leaveDirty hd hn' (by simp [Stripe.shelved])
  · exact levels_update k.levels ((k.levels n).close .retired nofun nofun nofun) m
  · exact k.fronts.update nofun
  · exact (k.flight.update no).dirty fun j hj => by rw [he] at hj; cases hj
  · exact (k.copy c hc).update (no _)

/-! ### The RELOCATE front and the copy -/

theorem programInFlight_false {f : Front} (h : s.programInFlight f = false) {op : ProgramOp}
    (hw : s.store.wings = .both (.program op)) : op.front ≠ f := by
  simpa [State.programInFlight, hw] using h

/-- The RELOCATE front's stripe is closed where the copy in hand does not fit it. -/
theorem TableLaws.close (k : TableLaws s) (hn : NumbersOk s) (calm : s.control.mode = .start → Calm s) {q : Stripe} {c : Copy}
    (hr : (n, q) ∈ s.store.stripes) (ho : q.state = .opened .relocate) (hp : s.programInFlight .relocate = false)
    (hc : s.copy = some c) (hz : c.copied = 0) (hfew : Config.leavesPerStripe - q.written < c.source.count) :
    TableLaws (s.mapStripe n (fun r => { r with state := .full })) := by
  have hs : s.stripe n = q := stripe_of_mem hn.stripes.1 hr
  have hso : (s.stripe n).state = .opened .relocate := hs ▸ ho
  have m : s.control.mode ≠ .start := fun m => by rw [(calm m).copy] at hc; cases hc
  have e := stripe_mapStripe hn.stripes.1 n (fun r => { r with state := .full })
  refine ⟨?_, fun m => ?_, ?_, k.extents, ?_, fun c' hc' => ?_, k.feeds⟩ <;> rw [e]
  · exact k.shelves.update (by simp [Stripe.shelved, hso]) (by simp [Stripe.shelved])
  · exact levels_update k.levels ((k.levels n).close .full nofun nofun nofun) m
  · exact k.fronts.update nofun
  · refine { k.flight with cut := fun h => absurd h m, program := fun op hw => ?_ }
    have hop := k.flight.program op hw
    have hne : op.stripe ≠ n := fun e => by
      rw [e, hso] at hop
      exact programInFlight_false hp hw (StripeState.opened.inj hop.1).symm
    rw [Function.update_of_ne hne]
    exact hop
  · have hcc : c' = c := Option.some.inj (hc'.symm.trans hc)
    subst hcc
    refine { k.copy c' hc with room := fun d hd => ?_ }
    obtain ⟨r1, r2, r3, r4, r5⟩ := (k.copy c' hc).room d hd
    have hdn : d.1 = n := k.fronts.fronts .relocate _ _ r1 hso
    rw [hdn, hs] at r2
    omega

/-- No program feeds a copy that is not in flight, and no fetch is made for it. -/
theorem FeedsOk.replace {w : Wings} {x : Option Copy} {y : Option Copy} (k : FeedsOk w x) (hx : ∀ c, x = some c → c.request ≠ .inFlight)
    (hy : ∀ op, w = .both (.program op) → op.front = .relocate → op.ceased = true → (∀ c, x = some c → c.dest = none) →
      ∀ c, y = some c → c.dest = none) : FeedsOk w y := by
  refine ⟨fun op hw hf => ⟨fun h => ?_, fun h => ?_⟩, fun i op hw ho => ?_⟩
  · obtain ⟨c, hc, -, hq⟩ := (k.fed op hw hf).1 h
    exact absurd hq (hx c hc)
  · exact hy op hw hf h ((k.fed op hw hf).2 h)
  · obtain ⟨c, hc, hq, -⟩ := k.fetched i op hw ho
    exact absurd hq (hx c hc)

/-- The copy's program is presented in the front's stripe. -/
theorem TableLaws.present (k : TableLaws s) (hn : NumbersOk s) {q : Stripe} {x : Round} {c : Copy} (hr : s.relocation.round = some x)
    (hc : x.copy = some c) (hst : c.step = .program) (hq : c.request = .none) (hp : s.programInFlight .relocate = false)
    (hf : s.frontStripe .relocate = some (n, q))
    (hroom : c.copied = 0 → q.written = 0 ∨ c.source.count ≤ Config.leavesPerStripe - q.written) :
    TableLaws (s.putRound (some { x with copy := some { c with
      dest := (match c.dest with | some d => some d | none => some (n, q.written)), request := .pending } })) := by
  have hcopy : s.copy = some c := by rw [State.copy, hr]; exact hc
  obtain ⟨hs, ho⟩ := frontStripe_some hn.stripes.1 hf
  obtain ⟨⟨f1, f2⟩, hplaced, room⟩ := k.copy c hcopy
  refine k.putRound (fun c' hc' => ?_) (k.feeds.replace (fun c' hc' => ?_) fun op hw hfr => ?_)
  · cases hc'
    cases hd : c.dest with
    | some d =>
      refine ⟨⟨f1, f2⟩, by simp [hst], fun d' hd' => ?_⟩
      cases hd'
      exact room d hd
    | none =>
      have hz : c.copied = 0 := by
        rw [hd] at hplaced
        simp [hq] at hplaced
        exact hplaced
      refine ⟨⟨f1, f2⟩, by simp [hst], fun d' hd' => ?_⟩
      cases hd'
      obtain ⟨l1, l2, -, -, -⟩ := k.levels n
      rw [hs] at l1 l2
      have := hroom hz
      refine ⟨hs ▸ ho, ?_, ?_, ?_, ?_⟩
      · show (s.stripe n).written = q.written + c.copied
        rw [hs, hz]; rfl
      · show (s.stripe n).live ≤ q.written
        rw [hs]; exact l1
      · show c.copied < c.source.count
        omega
      · show q.written + c.source.count ≤ Config.leavesPerStripe
        omega
  · rw [hcopy] at hc'; cases hc'; rw [hq]; simp
  · exact absurd hfr (programInFlight_false hp hw)

/-- A look makes a copy afresh. -/
theorem TableLaws.look (k : TableLaws s) {x : Option Round} (hc : ∀ c, s.copy = some c → c.request ≠ .inFlight)
    (hx : ∀ y ∈ x, ∀ c ∈ y.copy, FreshCopy s c) : TableLaws (s.putRound x) := by
  have fresh : ∀ c, (s.putRound x).copy = some c → FreshCopy s c := by
    intro c h
    cases x with
    | none => cases h
    | some y => exact hx y rfl c h
  refine k.putRound (fun c h => ?_) (k.feeds.replace hc fun _ _ _ _ _ c h => (fresh c h).2.2.1)
  obtain ⟨h1, h2, h3, h4, -⟩ := fresh c h
  have hlive : c.source ∈ s.liveExtents := by
    unfold State.liveExtents; simp [h1]
  exact .unplaced (k.extents _ hlive) h3 h2 (fun e => by rw [h4] at e; cases e)

/-- The copy's request is taken up. -/
theorem TableLaws.go (k : TableLaws s) (hc : ∀ c, s.copy = some c → c.request = .pending) :
    TableLaws (mapCopy (fun c => { c with request := .inFlight }) s) := by
  obtain ⟨x, hx⟩ := mapCopy_round (fun c => { c with request := .inFlight }) s
  have hm := mapCopy_copy (fun c => { c with request := .inFlight }) s
  rw [hx] at hm ⊢
  have old : ∀ c', (s.putRound x).copy = some c' → ∃ c, s.copy = some c ∧ { c with request := .inFlight } = c' := by
    intro c' h
    rw [hm] at h
    exact Option.map_eq_some_iff.1 h
  refine k.putRound (fun c' h => ?_) (k.feeds.replace (fun c h => by rw [hc c h]; simp) fun op _ _ _ hd c' h => ?_)
  · obtain ⟨c, hs, rfl⟩ := old c' h
    obtain ⟨h1, h2, h3⟩ := k.copy c hs
    refine ⟨h1, ?_, h3⟩
    rw [hc c hs] at h2
    simpa using h2
  · obtain ⟨c, hs, rfl⟩ := old c' h
    exact hd c hs

/-- The RELOCATE front holds one stripe at most. -/
theorem TableLaws.not_astray (k : TableLaws s) (hn : NumbersOk s) {j : Nat} {p q : Stripe} (hm : (j, p) ∈ s.store.stripes)
    (ho : p.state = .opened .relocate) (hx : (n, q) ∈ (s.mapStripe j (fun r => { r with state := .full })).store.stripes)
    (hq : q.state = .opened .relocate) : False := by
  have hj : s.stripe j = p := stripe_of_mem hn.stripes.1 hm
  have e := stripe_mapStripe hn.stripes.1 j (fun r => { r with state := .full })
  have hs := stripe_of_mem (hn.mapStripe j (fun r => { r with state := .full }) (.inl (hn.listed _ hm))).stripes.1 hx
  rw [e, Function.update_apply] at hs
  split at hs
  · rw [← hs] at hq; cases hq
  · rename_i hne
    exact hne (k.fronts.fronts .relocate _ _ (hs ▸ hq) (hj ▸ ho))

theorem Work.laws (h : Work False s t) (hn : NumbersOk s) (calm : s.control.mode = .start → Calm s) (k : TableLaws s) :
    TableLaws t := by
  cases h with
  | refiles h => exact k.of_view h.store h.extents
  | dies n j => exact k.mapStripe hn.stripes.1 ⟨rfl, rfl, Nat.sub_le _ _⟩
  | falls n => exact k.mapStripe hn.stripes.1 ⟨rfl, rfl, Nat.le_refl _⟩
  | rises n => exact k.mapStripe hn.stripes.1 ⟨rfl, rfl, Nat.le_refl _⟩
  | opens f h hs => exact k.openStripe hn (frontStripe_none h) hs
  | examines => exact k.examineStalled hn
  | stalls f m h hs => exact k.stall h hs
  | unstalls f => exact k.unstall f
  | ceases who => exact k.detachFetcher who
  | leaves f h => exact k.detachFeeder f h
  | abandons => exact k.abandon
  | retires n r hr hf => exact (k.leaveFull hn hr hf).1
  | joins n kept r hr hf hl => exact (k.leaveFull hn hr hf).2 hl kept
  | scraps n rest hq he => exact k.scrap hn hq he
  | modes m h hm => exact { k with flight := { k.flight with mark := fun _ => k.flight.mark h, cut := fun e => absurd e hm } }
  | closes n r c hr ho hp hc hz hfew => exact k.close hn calm hr ho hp hc hz hfew
  | presents n q r c hr hc hst hq hp hf hroom => exact k.present hn hr hc hst hq hp hf hroom
  | astray j n p q r c hm ho hx hq => exact (k.not_astray hn hm ho hx hq).elim
  | looks x m hc hx => exact k.look hc hx
  | goes hc => exact k.go hc
  | _ => exact { k with }

end Sys2Proof.Machine
end

section
/-! StepKeepsStripes: the laws of the stripe table under the starts and completions of the store's operations and the supply, and the
statement. -/

namespace Sys2Proof.Machine

variable {s t : State} {n : Nat} {r : Stripe}

/-! ### Operations start -/

theorem idle_fetching {w : Wing} (h : s.idle w = true) : ∃ a b, s.store.wings = .split a b := by
  unfold State.idle at h
  cases hw : s.store.wings with
  | split a b => exact ⟨a, b, rfl⟩
  | both op => simp [hw] at h

theorem TableLaws.startFetch (k : TableLaws s) {w : Wing} {op : FetchOp} (hi : s.idle w = true)
    (ho : op.owner = .relocation → ∃ c, s.copy = some c ∧ c.request = .inFlight ∧ c.step = fetchStep w) :
    TableLaws (putFetch w op s) := by
  obtain ⟨a, b, hw⟩ := idle_fetching hi
  have old := k.feeds.fetched
  rw [hw] at old
  cases w with
  | low =>
    have e : putFetch .low op s = { s with store.wings := .split (some op) b } := by unfold putFetch; rw [hw]
    rw [e]
    refine k.of_wings (by rw [hw]; rfl) (by rw [hw]; rfl) nofun ⟨nofun, fun x y hy hr => ?_⟩
    cases x with
    | low => cases hy; exact ho hr
    | high => exact old .high y hy hr
  | high =>
    have e : putFetch .high op s = { s with store.wings := .split a (some op) } := by unfold putFetch; rw [hw]
    rw [e]
    refine k.of_wings (by rw [hw]; rfl) (by rw [hw]; rfl) nofun ⟨nofun, fun x y hy hr => ?_⟩
    cases x with
    | low => exact old .low y hy hr
    | high => cases hy; exact ho hr

theorem TableLaws.startProgram (k : TableLaws s) (hn : NumbersOk s) {op : ProgramOp} (m : s.control.mode ≠ .start)
    (hf : s.frontStripe op.front = some (op.stripe, r)) (hp : op.place = r.written) (hc : op.ceased = false)
    (hcopy : op.front = .relocate → ∃ c, s.copy = some c ∧ c.step = .program ∧ c.request = .inFlight) :
    TableLaws { s with store.wings := .both (.program op), store.mark := some (op.stripe, op.place) } := by
  obtain ⟨hs, ho⟩ := frontStripe_some hn.stripes.1 hf
  refine { k with
    flight := ⟨fun _ => rfl, fun h => absurd h m, fun o h => ?_, nofun⟩, feeds := ⟨fun o h hr => ?_, fun w o h => ?_⟩ }
  · cases h
    exact ⟨hs ▸ ho, hs ▸ hp⟩
  · cases h
    exact ⟨fun _ => hcopy hr, fun h => by rw [hc] at h; cases h⟩
  · cases w <;> cases h

theorem TableLaws.startErase (k : TableLaws s) (m : s.control.mode ≠ .start) (hi : s.store.wings = .split none none)
    {rest : List Nat} (hq : s.store.dirtyQueue = n :: rest) :
    TableLaws { s with store.wings := .both (.erase n), store.eraseRequested := false } := by
  refine { k with
    flight := ⟨fun _ => ?_, fun h => absurd h m, nofun, fun j h => ?_⟩, feeds := ⟨nofun, fun w o h => ?_⟩ }
  · exact (k.flight.mark m).trans (by rw [hi]; rfl)
  · cases h
    show n ∈ s.store.dirtyQueue
    simp [hq]
  · cases w <;> cases h

/-! ### Fetches complete -/

/-- The wing that a completed fetch leaves idle, and the fetch of the other. -/
theorem takeFetch_others {w : Wing} {op : FetchOp} (h : takeFetch w s = some (op, t)) :
    ∃ a b, s.store.wings = .split a b ∧ ∃ a' b', t = { s with store.wings := .split a' b' } ∧
      ∀ x y, (Wings.split a' b').fetching x = some y → x ≠ w ∧ s.store.wings.fetching x = some y := by
  unfold takeFetch at h
  split at h
  · rename_i a b hw
    cases h
    refine ⟨_, _, hw, _, _, rfl, fun x y hy => ?_⟩
    rw [hw]
    cases x with
    | low => cases hy
    | high => exact ⟨by simp, hy⟩
  · rename_i a b hw
    cases h
    refine ⟨_, _, hw, _, _, rfl, fun x y hy => ?_⟩
    rw [hw]
    cases x with
    | low => exact ⟨by simp, hy⟩
    | high => cases hy
  · cases h

theorem TableLaws.takeFetch (k : TableLaws s) {w : Wing} {op : FetchOp} (h : takeFetch w s = some (op, t)) : TableLaws t := by
  obtain ⟨a, b, hw, a', b', rfl, ho⟩ := takeFetch_others h
  exact k.of_wings (by rw [hw]; rfl) (by rw [hw]; rfl) nofun ⟨nofun, fun x y hy hr => k.feeds.fetched x y (ho x y hy).2 hr⟩

/-- The engine has one fetch in flight. -/
theorem TableLaws.takeCopyFetch (k : TableLaws s) {w : Wing} {op : FetchOp} (h : Machine.takeFetch w s = some (op, t))
    (ho : op.owner = .relocation) : (∃ c, t.copy = some c ∧ c.request = .inFlight ∧ c.step = fetchStep w) ∧
      ∀ y : Option Copy, FeedsOk t.store.wings y := by
  have hw := (takeFetch_idle h).2
  obtain ⟨a, b, hs, a', b', rfl, hx⟩ := takeFetch_others h
  obtain ⟨c, hc, hq, hst⟩ := k.feeds.fetched w op hw ho
  refine ⟨⟨c, hc, hq, hst⟩, fun y => ⟨nofun, fun x z hz hr => ?_⟩⟩
  obtain ⟨hne, hz⟩ := hx x z hz
  obtain ⟨c', hc', -, hst'⟩ := k.feeds.fetched x z hz hr
  rw [hc] at hc'; cases hc'
  rw [hst] at hst'
  cases w <;> cases x <;> first | exact absurd rfl hne | cases hst'

/-- The copy takes the sheet fetched. -/
theorem TableLaws.buffer (k : TableLaws s) {w : Wing} {op : FetchOp} (h : Machine.takeFetch w s = some (op, t))
    (ho : op.owner = .relocation) (body : List Octet) : TableLaws (copyFetched w body t) := by
  have kt := k.takeFetch h
  obtain ⟨⟨c, hc, -, hst⟩, hfeeds⟩ := k.takeCopyFetch h ho
  obtain ⟨x, hx⟩ := copyFetched_round w body t
  have hm : (copyFetched w body t).copy = _ := mapCopy_copy _ t
  rw [hx] at hm ⊢
  refine kt.putRound (fun c' h' => ?_) (hfeeds _)
  rw [hm, hc] at h'
  obtain ⟨h1, h2, h3⟩ := kt.copy c hc
  cases w with
  | low =>
    cases h'
    refine ⟨h1, ?_, h3⟩
    rw [hst] at h2
    simpa [fetchStep] using h2
  | high =>
    cases h'
    refine ⟨h1, ?_, h3⟩
    rw [hst] at h2
    simpa [fetchStep] using h2

/-! ### Programs complete -/

theorem writtenStripe_level (k : LevelOk r) (h : r.written < Config.leavesPerStripe) {f : Front} (ho : r.state = .opened f) :
    LevelOk (writtenStripe r) := by
  have h96 : Config.leavesPerStripe = 96 := rfl
  obtain ⟨k1, k2, -, -, -⟩ := k
  refine ⟨?_, ?_, fun g hg => ?_, fun hg => ?_, fun hg => ?_⟩
  · show r.live ≤ r.written + 1; omega
  · show r.written + 1 ≤ _; omega
  · show r.written + 1 < _
    simp only [writtenStripe] at hg
    split at hg
    · cases hg
    · omega
  · simp only [writtenStripe] at hg; split at hg
    · cases hg
    · rw [ho] at hg; cases hg
  · simp only [writtenStripe] at hg; split at hg
    · cases hg
    · rw [ho] at hg; cases hg

theorem failedStripe_level (k : LevelOk r) (h : r.written < Config.leavesPerStripe) : LevelOk (failedStripe r) := by
  obtain ⟨k1, k2, -, -, -⟩ := k
  refine ⟨?_, h, nofun, nofun, nofun⟩
  show r.live ≤ r.written + 1; omega

/-- What a completed program leaves of its stripe's state: it is OPEN no more, or as before. -/
theorem programmed_state {g : Stripe → Stripe} (hg : g = writtenStripe ∨ g = failedStripe) :
    (g r).state = .full ∨ (g r).state = r.state := by
  rcases hg with rfl | rfl
  · unfold writtenStripe; simp only; split <;> simp
  · exact .inl rfl

/-- The program in flight writes the next leaf of its front's stripe. -/
theorem TableLaws.programmed (k : TableLaws s) {op : ProgramOp} (hw : s.store.wings = .both (.program op)) :
    (s.stripe op.stripe).state = .opened op.front ∧ op.place = (s.stripe op.stripe).written ∧
      (s.stripe op.stripe).written < Config.leavesPerStripe := by
  obtain ⟨h1, h2⟩ := k.flight.program op hw
  exact ⟨h1, h2, (k.levels _).open_ _ h1⟩

theorem stripe_programTaken (hn : NumbersOk s) (op : ProgramOp) (g : Stripe → Stripe) :
    (programTaken op g s).stripe = Function.update s.stripe op.stripe (g (s.stripe op.stripe)) :=
  stripe_mapStripe (s := { s with store.wings := .split none none, store.mark := none }) hn.stripes.1 _ _

/-- A program has completed; what remains to be seen is the copy. -/
theorem TableLaws.programTaken (k : TableLaws s) (hn : NumbersOk s) {op : ProgramOp} {g : Stripe → Stripe} {x : Option Round}
    (hw : s.store.wings = .both (.program op)) (hg : g = writtenStripe ∨ g = failedStripe)
    (hcopy : ∀ c, (s.putRound x).copy = some c → PlacedOk (Machine.programTaken op g s).stripe c) :
    TableLaws ((Machine.programTaken op g s).putRound x) := by
  have e := stripe_programTaken hn op g
  obtain ⟨ho, -, hlt⟩ := k.programmed hw
  have hst := programmed_state (r := s.stripe op.stripe) hg
  have e' : ((Machine.programTaken op g s).putRound x).stripe = _ := e
  refine ⟨?_, fun m => ?_, ?_, k.extents, .idle, hcopy, .idle⟩
  · rw [e']
    refine k.shelves.update (by simp [Stripe.shelved, ho]) ?_
    rcases hst with h | h <;> simp [Stripe.shelved, h, ho]
  · rw [e']
    refine levels_update k.levels ?_ m
    rcases hg with rfl | rfl
    · exact writtenStripe_level (k.levels _) hlt ho
    · exact failedStripe_level (k.levels _) hlt
  · rw [e']
    refine k.fronts.update fun f hf => ?_
    rcases hst with h | h
    · rw [h] at hf; cases hf
    · exact h ▸ hf

/-- A program that is none of the copy's leaves the copy as it is. -/
theorem TableLaws.finish (k : TableLaws s) (hn : NumbersOk s) {op : ProgramOp} {g : Stripe → Stripe}
    (hw : s.store.wings = .both (.program op)) (hg : g = writtenStripe ∨ g = failedStripe)
    (hc : op.ceased = true ∨ op.front ≠ .relocate ∨ s.copy = none) : TableLaws (Machine.programTaken op g s) := by
  refine k.programTaken (x := s.relocation.round) hn hw hg fun c h => ?_
  have h : s.copy = some c := h
  rw [stripe_programTaken hn]
  by_cases hf : op.front = .relocate
  · rcases hc with hc | hc | hc
    · have hd := (k.feeds.fed op hw hf).2 hc c h
      have p := k.copy c h
      exact { p with room := fun d e => by rw [hd] at e; cases e }
    · exact absurd hf hc
    · rw [hc] at h; cases h
  · refine (k.copy c h).update ?_
    rw [(k.programmed hw).1]
    exact fun e => hf (StripeState.opened.inj e)

/-- Leaves of a stripe become live. -/
theorem TableLaws.liveRise (k : TableLaws s) (hn : Table.Ordered s.store.stripes) {j : Nat} (hl : (s.stripe n).live + j ≤ (s.stripe n).written)
    (hd : (s.stripe n).state ≠ .dirty) (hc : s.copy = none ∨ (s.stripe n).state ≠ .opened .relocate) (ho : (s.stripe n).state ≠ .free)
    (hw : s.store.wings = .split none none) (hm : s.store.mark = none) : TableLaws (liveRises n j s) := by
  have e := stripe_mapStripe hn n (fun r => { r with live := r.live + j })
  have e' : (liveRises n j s).stripe = _ := e
  obtain ⟨-, l2, l3, l4, -⟩ := k.levels n
  refine ⟨?_, fun m => ?_, ?_, k.extents, ?_, fun c h => ?_, k.feeds⟩
  · rw [e']; exact k.shelves.update (by simp [Stripe.shelved, hd, ho]) (by simp [Stripe.shelved, hd, ho])
  · have level : LevelOk { s.stripe n with live := (s.stripe n).live + j } := ⟨hl, l2, l3, l4, fun h => absurd h hd⟩
    rw [e']; exact levels_update k.levels level m
  · rw [e']; exact k.fronts.update fun f h => h
  · show FlightOk _ _ s.store.mark s.store.wings _
    rw [hw, hm]; exact .idle
  · rw [e']
    rcases hc with hc | hc
    · have h : s.copy = some c := h
      rw [hc] at h; cases h
    · exact (k.copy c h).update hc

/-- The leaf that a program has written enters a record. -/
theorem recordLeaf_fits {es : List Extent} {place : Nat} (h : ∀ e ∈ es, e.fits) (hp : place < Config.leavesPerStripe) :
    ∀ e ∈ recordLeaf es n place, e.fits := by
  have h96 : Config.leavesPerStripe = 96 := rfl
  have hnew : Extent.fits ⟨n, place, 1⟩ := ⟨Nat.le_refl _, hp⟩
  intro e he
  unfold recordLeaf at he
  split at he
  · rename_i x hx
    split at he
    · rename_i hx'
      rcases List.mem_append.1 he with he | he
      · exact h e (List.mem_of_mem_dropLast he)
      · cases List.mem_singleton.1 he
        have := h x (List.mem_of_getLast? hx)
        refine ⟨?_, ?_⟩
        · show 1 ≤ x.count + 1; omega
        · show x.first + (x.count + 1) ≤ _; omega
    · rcases List.mem_append.1 he with he | he
      · exact h e he
      · cases List.mem_singleton.1 he; exact hnew
  · cases List.mem_singleton.1 he; exact hnew

/-- The laws speak of the store, the round, the mode and the extents alone. -/
theorem TableLaws.of_parts (k : TableLaws s) (hs : t.store = s.store) (hr : t.relocation = s.relocation) (hc : t.control = s.control)
    (hx : ∀ e ∈ t.liveExtents, e.fits) : TableLaws t := by
  have e : t.stripe = s.stripe := by unfold State.stripe; rw [hs]
  have ec : t.copy = s.copy := by unfold State.copy; rw [hr]
  obtain ⟨a, b, c, -, d, f, g⟩ := k
  refine ⟨?_, ?_, ?_, hx, ?_, ?_, ?_⟩ <;> simp only [e, ec, hs, hc] <;> assumption

/-- A program of intake or of a pass has written a leaf that a record takes: it is live. -/
theorem TableLaws.recorded (k : TableLaws s) (hn : NumbersOk s) {op : ProgramOp} (hw : s.store.wings = .both (.program op))
    (hf : op.front ≠ .relocate) {u : State} (hu : u.store = (Machine.programTaken op writtenStripe s).store)
    (hy : u.relocation = s.relocation) (hc : u.control = s.control) (hx : ∀ e ∈ u.liveExtents, e.fits) :
    TableLaws (liveRises op.stripe 1 u) := by
  have kp := k.finish hn hw (.inl rfl) (.inr (.inl hf))
  have ku : TableLaws u := kp.of_parts hu hy hc hx
  obtain ⟨ho, -, hlt⟩ := k.programmed hw
  have hs : u.stripe op.stripe = writtenStripe (s.stripe op.stripe) := by
    have e : u.stripe = (Machine.programTaken op writtenStripe s).stripe := by unfold State.stripe; rw [hu]
    rw [e, stripe_programTaken hn, Function.update_self]
  have hst := programmed_state (r := s.stripe op.stripe) (g := writtenStripe) (.inl rfl)
  have hord : Table.Ordered u.store.stripes := by rw [hu]; exact (hn.programTaken hw _).stripes.1
  have hl : (writtenStripe (s.stripe op.stripe)).live + 1 ≤ (writtenStripe (s.stripe op.stripe)).written :=
    Nat.add_le_add_right (k.levels op.stripe).live 1
  refine ku.liveRise hord (hs ▸ hl) ?_ (.inr ?_) ?_ (by rw [hu]; rfl) (by rw [hu]; rfl)
  all_goals
    rw [hs]
    rcases hst with h | h <;> simp [h, ho, hf]

/-- A program of the copy has written its next leaf: what it has copied stands in its stripe. -/
theorem TableLaws.copied (k : TableLaws s) {op : ProgramOp} (hw : s.store.wings = .both (.program op))
    (hf : op.front = .relocate) (hc : op.ceased = false) {c : Copy} (hcopy : s.copy = some c) : c.source.fits ∧
      ∃ d, c.dest = some d ∧ d.1 = op.stripe ∧ (s.stripe d.1).written = d.2 + c.copied ∧ (s.stripe d.1).live ≤ d.2 ∧
        c.copied < c.source.count ∧ d.2 + c.source.count ≤ Config.leavesPerStripe := by
  obtain ⟨c', hc', hst, hq⟩ := (k.feeds.fed op hw hf).1 hc
  rw [hcopy] at hc'; cases hc'
  obtain ⟨h1, h2, h3⟩ := k.copy c hcopy
  obtain ⟨d, hd⟩ := Option.isSome_iff_exists.1 (h2.2 (.inr ⟨hst, by rw [hq]; simp⟩))
  obtain ⟨r1, r2, r3, r4, r5⟩ := h3 d hd
  refine ⟨h1, d, hd, ?_, r2, r3, r4, r5⟩
  exact k.fronts.fronts .relocate _ _ r1 (hf ▸ (k.programmed hw).1)

/-- The copy goes on to its next leaf. -/
theorem TableLaws.copyOn (k : TableLaws s) (hn : NumbersOk s) {op : ProgramOp} {x : Round} {c : Copy}
    (hw : s.store.wings = .both (.program op)) (hf : op.front = .relocate) (hc : op.ceased = false)
    (hr : s.relocation.round = some x) (hx : x.copy = some c) (hmore : c.copied + 1 ≠ c.source.count) :
    TableLaws ((Machine.programTaken op writtenStripe s).putRound (some { x with copy := some { c with
      copied := c.copied + 1, request := .pending, low := [], high := [], step := .fetchLow } })) := by
  have hcopy : s.copy = some c := by rw [State.copy, hr]; exact hx
  obtain ⟨hfit, d, hd, hds, r2, r3, r4, r5⟩ := k.copied hw hf hc hcopy
  obtain ⟨ho, -, -⟩ := k.programmed hw
  refine k.programTaken hn hw (.inl rfl) fun c' h => ?_
  cases h
  refine ⟨hfit, ?_, fun d' hd' => ?_⟩
  · simp [hd]
  · have hdd : d' = d := Option.some.inj (hd'.symm.trans hd)
    subst hdd
    rw [stripe_programTaken hn, hds, Function.update_self]
    rw [hds] at r2 r3
    refine ⟨?_, ?_, r3, ?_, r5⟩
    · have hne : (s.stripe op.stripe).written + 1 ≠ Config.leavesPerStripe := by omega
      unfold writtenStripe
      simp only [if_neg hne]
      exact hf ▸ ho
    · show (s.stripe op.stripe).written + 1 = d'.2 + (c.copied + 1)
      omega
    · show c.copied + 1 < c.source.count
      omega

/-- The copy is committed: its leaves are live in its stripe, and its source's are not. -/
theorem TableLaws.committed (k : TableLaws s) (hn : NumbersOk s) {op : ProgramOp} {x : Round} {c : Copy} {d : Nat × Nat} {o : Object}
    (hw : s.store.wings = .both (.program op)) (hf : op.front = .relocate) (hc : op.ceased = false)
    (hr : s.relocation.round = some x) (hx : x.copy = some c) (hlast : c.copied + 1 = c.source.count) (hd : c.dest = some d)
    (ho : s.object c.key = some o) :
    TableLaws ((commit c d (Machine.programTaken op writtenStripe s)).putRound (some { x with copy := none })) := by
  have hcopy : s.copy = some c := by rw [State.copy, hr]; exact hx
  obtain ⟨⟨f1, f2⟩, d', hd', hds, r2, r3, r4, r5⟩ := k.copied hw hf hc hcopy
  obtain rfl : d = d' := Option.some.inj (hd.symm.trans hd')
  obtain ⟨hop, -, -⟩ := k.programmed hw
  have kp : TableLaws ((Machine.programTaken op writtenStripe s).putRound (some { x with copy := none })) :=
    k.programTaken hn hw (.inl rfl) nofun
  have np : NumbersOk ((Machine.programTaken op writtenStripe s).putRound (some { x with copy := none })) :=
    (hn.programTaken hw _).putRound nofun
  have ho' : ((Machine.programTaken op writtenStripe s).putRound (some { x with copy := none })).object c.key = some o := ho
  have e : (commit c d (Machine.programTaken op writtenStripe s)).putRound (some { x with copy := none })
      = commit c d ((Machine.programTaken op writtenStripe s).putRound (some { x with copy := none })) := by
    unfold commit
    have ho'' : (Machine.programTaken op writtenStripe s).object c.key = some o := ho
    rw [ho', ho'']; rfl
  have hs : ((Machine.programTaken op writtenStripe s).putRound (some { x with copy := none })).stripe d.1
      = writtenStripe (s.stripe op.stripe) := by
    rw [hds]
    show (Machine.programTaken op writtenStripe s).stripe op.stripe = _
    rw [stripe_programTaken hn, Function.update_self]
  have hst := programmed_state (r := s.stripe op.stripe) (g := writtenStripe) (.inl rfl)
  rw [hds] at r2 r3
  rw [e]
  generalize hu : (Machine.programTaken op writtenStripe s).putRound (some { x with copy := none }) = u at kp np ho' hs
  unfold commit
  rw [ho']
  have kv : TableLaws (u.putObject (mapVersion c.version c.serial (replaceExtent c.index ⟨d.1, d.2, c.source.count⟩) o)) := by
    refine kp.of_parts rfl rfl rfl fun y hy => ?_
    rcases commitObject_extents ho' hy with rfl | hy
    · exact ⟨f1, r5⟩
    · exact kp.extents y hy
  refine TableLaws.mapStripe (kv.liveRise np.stripes.1 ?_ ?_ (.inl ?_) ?_ ?_ ?_) ?_ ⟨rfl, rfl, Nat.sub_le _ _⟩
  · show (u.stripe d.1).live + c.source.count ≤ (u.stripe d.1).written
    rw [hs]
    show (s.stripe op.stripe).live + c.source.count ≤ (s.stripe op.stripe).written + 1
    omega
  · show (u.stripe d.1).state ≠ .dirty
    rw [hs]; rcases hst with h | h <;> simp [h, hop]
  · show u.copy = none
    rw [← hu]; rfl
  · show (u.stripe d.1).state ≠ .free
    rw [hs]; rcases hst with h | h <;> simp [h, hop]
  · show u.store.wings = _
    rw [← hu]; rfl
  · show u.store.mark = _
    rw [← hu]; rfl
  · exact ordered_tset _ np.stripes.1 _ _

/-! ### Erases complete -/

theorem stripe_eraseTaken (hn : NumbersOk s) (n : Nat) (g : Stripe → Stripe) :
    (eraseTaken n g s).stripe = Function.update s.stripe n (g (s.stripe n)) :=
  stripe_mapStripe (s := { s with store.wings := .split none none, store.dirtyQueue := s.store.dirtyQueue.erase n }) hn.stripes.1 _ _

/-- An erase has completed: its stripe is FREE at the tail of the free queue, or retired. -/
theorem TableLaws.erased (k : TableLaws s) (hn : NumbersOk s) (m : s.control.mode ≠ .start) (hw : s.store.wings = .both (.erase n)) :
    TableLaws { eraseTaken n erasedStripe s with store.freeQueue := s.store.freeQueue ++ [n] } ∧
    TableLaws (eraseTaken n (fun r => { r with state := .retired }) s) := by
  have hd : n ∈ s.store.dirtyQueue := k.flight.erase n (by rw [hw]; rfl)
  have hn' : n < Config.stripes := hn.dirty n hd
  have hs : (s.stripe n).state = .dirty := (k.shelves.dirty n hn').1 hd
  have no : ∀ f, (s.stripe n).state ≠ .opened f := fun f e => by rw [hs] at e; cases e
  have hm : s.store.mark = none := by rw [k.flight.mark m, hw]; rfl
  constructor
  · have e : ({ eraseTaken n erasedStripe s with store.freeQueue := s.store.freeQueue ++ [n] } : State).stripe
        = Function.update s.stripe n (erasedStripe (s.stripe n)) := stripe_eraseTaken hn n erasedStripe
    refine ⟨?_, fun m => ?_, ?_, k.extents, ?_, fun c hc => ?_, .idle⟩
    · rw [e]; exact k.shelves.freed hd hn' rfl
    · have level : LevelOk (erasedStripe (s.stripe n)) := ⟨Nat.le_refl _, Nat.zero_le _, nofun, fun _ => rfl, nofun⟩
      rw [e]; exact levels_update k.levels level m
    · rw [e]; exact k.fronts.update nofun
    · show FlightOk _ _ s.store.mark _ _
      rw [hm]; exact .idle
    · rw [e]; exact (k.copy c hc).update (no _)
  · have e := stripe_eraseTaken hn n (fun r => { r with state := .retired })
    refine ⟨?_, fun m => ?_, ?_, k.extents, ?_, fun c hc => ?_, .idle⟩
    · rw [e]; exact k.shelves.leaveDirty hd hn' (by simp [Stripe.shelved])
    · rw [e]; exact levels_update k.levels ((k.levels n).close .retired nofun nofun nofun) m
    · rw [e]; exact k.fronts.update nofun
    · show FlightOk _ _ s.store.mark _ _
      rw [hm]; exact .idle
    · rw [e]; exact (k.copy c hc).update (no _)

/-! ### The supply, format and recovery -/

theorem tgetD_tmapD {α : Type} [DecidableEq α] {d : α} {g : α → α} {l : Table α} (hl : Table.Ordered l) (hd : g d = d) (k : Nat) :
    tgetD d (tmapD d g l) k = g (tgetD d l k) := by
  induction l with
  | nil => exact hd.symm
  | cons e rest ih =>
    obtain ⟨j, w⟩ := e
    obtain ⟨h1, h2⟩ := ordered_cons.1 hl
    have hne : j = k → tget rest k = none := fun h => tget_none_of_lt (fun e he => h ▸ h1 e he)
    have ih := ih h2
    have hsplit : tmapD d g ((j, w) :: rest) = if g w = d then tmapD d g rest else (j, g w) :: tmapD d g rest := by
      unfold tmapD; rw [List.filterMap_cons]; split <;> rename_i h <;> split at h <;> simp_all
    rw [hsplit]
    by_cases hjk : j = k
    · have hr : tgetD d (tmapD d g rest) k = d := by rw [ih, tgetD, hne hjk]; exact hd
      split
      · rename_i hg; rw [hr]; simp [tgetD, tget, hjk, hg]
      · simp [tgetD, tget, hjk]
    · have hw : tgetD d ((j, w) :: rest) k = tgetD d rest k := by simp [tgetD, tget, hjk]
      rw [hw, ← ih]
      split
      · rfl
      · simp [tgetD, tget, hjk]

theorem stripe_mapStripes (hn : Table.Ordered s.store.stripes) {g : Stripe → Stripe} (hg : g Stripe.formatted = Stripe.formatted)
    (n : Nat) : ({ s with store.stripes := tmapD Stripe.formatted g s.store.stripes } : State).stripe n = g (s.stripe n) :=
  tgetD_tmapD hn hg n

/-- What an outage leaves: the mark names an OPEN stripe. -/
theorem TableLaws.cut (k : TableLaws s) (hn : NumbersOk s) (p q : Bool) :
    TableLaws { loseVolatile s with control.powered := p, control.resetLine := q } := by
  obtain ⟨x, i, h, -⟩ := cutOperation_flash s
  have l : Lowered s.stripe
      ({ s with store.stripes := tmapD Stripe.formatted (fun r => { r with readers := 0 }) s.store.stripes } : State).stripe := by
    intro n
    rw [stripe_mapStripes hn.stripes.1 rfl]
    exact ⟨rfl, rfl, Nat.le_refl _⟩
  unfold loseVolatile
  rw [h]
  refine ⟨l.shelves k.shelves, fun n => l.level n (k.levels n), ⟨(l.fronts k.fronts).fronts, List.nodup_nil, nofun⟩, k.extents,
    ⟨fun h => absurd rfl h, fun _ y hy => ?_, nofun, nofun⟩, nofun, .idle⟩
  have hopen : ∃ f, (s.stripe y.1).state = .opened f := by
    by_cases m : s.control.mode = .start
    · exact k.flight.cut m y hy
    · have hm : s.store.wings.programmed = some y := (k.flight.mark m).symm.trans hy
      cases hw : s.store.wings with
      | split a b => rw [hw] at hm; cases hm
      | both w =>
        cases w with
        | erase n => rw [hw] at hm; cases hm
        | program op => rw [hw] at hm; cases hm; exact ⟨_, (k.programmed hw).1⟩
  obtain ⟨f, hf⟩ := hopen
  exact ⟨f, (l y.1).1.trans hf⟩

theorem TableLaws.format (s : State) : TableLaws (format s) := by
  have e : (Machine.format s).stripe = fun _ => Stripe.formatted := rfl
  have hd : (Machine.format s).store.dirtyQueue = List.range Config.stripes := by unfold Machine.format; dsimp only
  have level : LevelOk Stripe.formatted := ⟨Nat.le_refl _, Nat.zero_le _, nofun, nofun, fun _ => rfl⟩
  refine ⟨⟨List.nodup_nil, fun n _ => ⟨nofun, fun h => ?_⟩, ?_, fun n hn => ⟨fun _ => rfl, fun _ => ?_⟩⟩, fun n => level,
    ⟨fun f m n h => ?_, List.nodup_nil, nofun⟩, nofun, .idle, nofun, .idle⟩
  · rw [e] at h; cases h
  · rw [hd]; exact List.nodup_range
  · rw [hd]; exact List.mem_range.2 hn
  · rw [e] at h; cases h

theorem recoveredStripe_state : (recoveredStripe r).state = r.state ∨ (∃ f, r.state = .opened f) ∧ (recoveredStripe r).state = .full := by
  unfold recoveredStripe
  cases h : r.state <;> simp

theorem recoveredStripe_not_opened (f : Front) : (recoveredStripe r).state ≠ .opened f := by
  unfold recoveredStripe
  cases r.state <;> simp

theorem recoveredStripe_level (k : LevelOk r) : LevelOk (recoveredStripe r) := by
  refine ⟨k.live, k.written, fun f h => absurd h (recoveredStripe_not_opened f), fun h => ?_, fun h => ?_⟩
  · rcases recoveredStripe_state (r := r) with e | ⟨-, e⟩
    · exact k.blank (e ▸ h)
    · rw [e] at h; cases h
  · rcases recoveredStripe_state (r := r) with e | ⟨-, e⟩
    · exact k.dead (e ▸ h)
    · rw [e] at h; cases h

/-- Recovery closes the OPEN stripes. -/
theorem ShelvesOk.recover {records : Nat → Stripe} {free dirty : List Nat} (k : ShelvesOk records free dirty) :
    ShelvesOk (fun n => recoveredStripe (records n)) free dirty := by
  refine { k with free := fun n hn => (k.free n hn).trans ?_, dirty := fun n hn => (k.dirty n hn).trans ?_ }
  all_goals
    rcases recoveredStripe_state (r := records n) with e | ⟨⟨f, hf⟩, e⟩
    · rw [e]
    · rw [e, hf]; simp

/-- Recovery: a stripe's record once it is closed, and with the marked leaf written. -/
theorem TableLaws.recoverStore (k : TableLaws s) (hn : NumbersOk s) (m : s.control.mode = .start) (c : Calm s) :
    TableLaws (recoverStore s) := by
  have e := stripe_mapStripes hn.stripes.1 (g := recoveredStripe) rfl
  have e' := funext e
  have kr : TableLaws { s with store.stripes := tmapD Stripe.formatted recoveredStripe s.store.stripes, store.mark := none } := by
    refine ⟨?_, fun n => ?_, ⟨fun f m n h => ?_, k.fronts.stalledOnce, fun f hf n h => ?_⟩, k.extents, ?_, fun x hx => ?_, k.feeds⟩
    · exact e' ▸ k.shelves.recover
    · exact e n ▸ recoveredStripe_level (k.levels n)
    · exact absurd (e m ▸ h) (recoveredStripe_not_opened f)
    · exact recoveredStripe_not_opened f (e n ▸ h)
    · show FlightOk _ _ none s.store.wings _
      rw [c.wings]; exact .idle
    · have hx : s.copy = some x := hx
      rw [c.copy] at hx; cases hx
  unfold Machine.recoverStore
  simp only
  split
  · rename_i hm
    have hs : ({ s with store.stripes := tmapD Stripe.formatted recoveredStripe s.store.stripes, store.mark := none } : State)
      = { s with store.stripes := tmapD Stripe.formatted recoveredStripe s.store.stripes } := by rw [← hm]
    exact hs ▸ kr
  · rename_i n i hm
    have hm : s.store.mark = some (n, i) := hm
    obtain ⟨f, hf⟩ := k.flight.cut m (n, i) hm
    have hlt := (k.levels n).open_ f hf
    have hord : Table.Ordered (tmapD Stripe.formatted recoveredStripe s.store.stripes) := (canonical_tmapD _ _ hn.stripes.1).1
    have hfull : (recoveredStripe (s.stripe n)).state = .full := by unfold recoveredStripe; rw [hf]
    have eu := stripe_mapStripe
      (s := { s with store.stripes := tmapD Stripe.formatted recoveredStripe s.store.stripes, store.mark := none }) hord n
      (fun r => { r with written := r.written + 1 })
    have en : ({ s with store.stripes := tmapD Stripe.formatted recoveredStripe s.store.stripes, store.mark := none } : State).stripe n
      = recoveredStripe (s.stripe n) := e n
    refine TableLaws.of_parts (s := ({ s with
      store.stripes := tmapD Stripe.formatted recoveredStripe s.store.stripes, store.mark := none } : State).mapStripe n
        (fun r => { r with written := r.written + 1 })) ?_ rfl rfl rfl k.extents
    have level : LevelOk { recoveredStripe (s.stripe n) with written := (recoveredStripe (s.stripe n)).written + 1 } :=
      ⟨Nat.le_succ_of_le (k.levels n).live, hlt, fun g h => by simp [hfull] at h, fun h => by simp [hfull] at h,
        fun h => by simp [hfull] at h⟩
    refine ⟨?_, fun j => ?_, ?_, k.extents, ?_, fun x hx => ?_, k.feeds⟩
    · rw [eu]; exact kr.shelves.update (by rw [en]; simp [Stripe.shelved, hfull]) (by rw [en]; simp [Stripe.shelved, hfull])
    · rw [eu]; exact levels_update kr.levels (en ▸ level) j
    · rw [eu]; exact kr.fronts.update fun g h => h
    · exact (show FlightOk _ _ none s.store.wings _ by rw [c.wings]; exact .idle)
    · have hx : s.copy = some x := hx
      rw [c.copy] at hx; cases hx

end Sys2Proof.Machine
end

section
/-! StepKeepsStripes, the statement: the laws hold once the part is formatted, and START has nothing in hand. -/

namespace Sys2Proof.Machine

variable {s t : State} {n : Nat}

/-- `StripesOk` without its tables. -/
structure CoreOk (s : State) : Prop where
  idle : s.running = false → s.control.mode = .start
  unformatted : s.control.formatted = false → s.control.mode = .start
  start : s.control.mode = .start → Calm s
  table : s.control.formatted = true → TableLaws s

theorem stripesOk_iff : StripesOk s ↔ TablesOk s ∧ CoreOk s := by
  constructor
  · rintro ⟨a, b, c, d, e⟩
    exact ⟨a, b, c, fun m => ⟨(d m).1, (d m).2.1, (d m).2.2⟩, fun f => stripeTableOk_iff.1 (e f)⟩
  · rintro ⟨a, b, c, d, e⟩
    exact ⟨a, b, c, fun m => ⟨(d m).wings, (d m).round, (d m).stalled⟩, fun f => stripeTableOk_iff.2 (e f)⟩

theorem steady_formatted (h : t.steady = s.steady) : t.control.formatted = s.control.formatted := congrArg Steady.formatted h

/-- Outside START a change that leaves the supply and the mode keeps the laws where it keeps the table's. -/
theorem CoreOk.of_working (k : CoreOk s) (m : s.control.mode ≠ .start) (hc : t.control = s.control)
    (ht : TableLaws s → TableLaws t) : CoreOk t := by
  refine ⟨fun h => ?_, fun h => ?_, fun h => ?_, fun h => ?_⟩
  · rw [State.running, hc] at h; rw [hc]; exact k.idle h
  · rw [hc] at h ⊢; exact k.unformatted h
  · rw [hc] at h; exact absurd h m
  · rw [hc] at h; exact ht (k.table h)

/-- In START no operation is in flight. -/
theorem CoreOk.both (k : CoreOk s) {op : WideOp} (hw : s.store.wings = .both op) : s.control.mode ≠ .start := fun m => by
  rw [(k.start m).wings] at hw; cases hw

theorem CoreOk.fetching (k : CoreOk s) {w : Wing} {op : FetchOp} (h : takeFetch w s = some (op, t)) : s.control.mode ≠ .start :=
  fun m => by
    have hw := (takeFetch_idle h).2
    rw [(k.start m).wings] at hw
    cases w <;> cases hw

theorem Work.coreOk (h : Work False s t) (hn : NumbersOk s) (k : CoreOk s) : CoreOk t := by
  have hst := h.steady
  refine ⟨fun r => ?_, fun f => ?_, fun m => ?_, fun f => ?_⟩
  · exact (steady_mode hst).2 (k.idle (by rwa [steady_running hst] at r))
  · exact (steady_mode hst).2 (k.unformatted (by rwa [steady_formatted hst] at f))
  · have m := (steady_mode hst).1 m
    exact h.calm m (k.start m)
  · exact h.laws hn k.start (k.table (by rwa [steady_formatted hst] at f))

theorem commit_control (c : Copy) (d : Nat × Nat) (s : State) : (commit c d s).control = s.control := by
  unfold commit; split <;> rfl

theorem Event.coreOk (h : Event False s t) (hn : NumbersOk s) (k : CoreOk s) : CoreOk t := by
  cases h with
  | work h => exact h.coreOk hn k
  | fetches w op m hi ho =>
    obtain ⟨x, hx⟩ := putFetch_rest w op s
    exact k.of_working m (by rw [hx]) fun l => l.startFetch hi ho
  | programs r op m hi hf hp hc hcopy => exact k.of_working m rfl fun l => l.startProgram hn m hf hp hc hcopy
  | erases n rest m hi hq => exact k.of_working m rfl fun l => l.startErase m hi hq
  | fetched w op h =>
    have m := k.fetching h
    have hc : t.control = s.control := by obtain ⟨⟨a, b, rfl⟩, -⟩ := takeFetch_idle h; rfl
    exact k.of_working m hc fun l => l.takeFetch h
  | buffers w op body h ho =>
    have m := k.fetching h
    refine k.of_working m ?_ fun l => l.buffer h ho body
    obtain ⟨⟨a, b, rfl⟩, -⟩ := takeFetch_idle h
    obtain ⟨x, hx⟩ := copyFetched_round w body { s with store.wings := .split a b }
    rw [hx]; rfl
  | spoils w op h ho =>
    have m := k.fetching h
    refine k.of_working m ?_ fun l => ?_
    · obtain ⟨⟨a, b, rfl⟩, -⟩ := takeFetch_idle h; rfl
    · exact (l.takeFetch h).putRound nofun ((l.takeCopyFetch h ho).2 _)
  | finishes op g hw hg hc => exact k.of_working (k.both hw) rfl fun l => l.finish hn hw hg hc
  | records op n d hw hf hd =>
    refine k.of_working (k.both hw) rfl fun l => l.recorded hn hw hf rfl rfl rfl fun e he => ?_
    obtain ⟨-, hp, hlt⟩ := l.programmed hw
    rcases mem_liveExtents.1 he with he | ⟨x, hx, he⟩ | he
    · exact l.extents e (mem_liveExtents.2 (.inl he))
    · rcases mem_tput hx with rfl | hx
      · exact recordLeaf_fits (fun e he => l.extents e (provisional_live he)) (hp ▸ hlt) e he
      · exact l.extents e (mem_liveExtents.2 (.inr (.inl ⟨x, hx, he⟩)))
    · exact l.extents e (mem_liveExtents.2 (.inr (.inr he)))
  | outputs op hw hf =>
    refine k.of_working (k.both hw) rfl fun l => l.recorded hn hw hf rfl rfl rfl fun e he => ?_
    obtain ⟨-, hp, hlt⟩ := l.programmed hw
    rcases mem_liveExtents.1 he with he | he | he
    · exact l.extents e (mem_liveExtents.2 (.inl he))
    · exact l.extents e (mem_liveExtents.2 (.inr (.inl he)))
    · exact recordLeaf_fits (fun e he => l.extents e (mem_liveExtents.2 (.inr (.inr he)))) (hp ▸ hlt) e he
  | copies op r c hw hf hc hr hx hmore => exact k.of_working (k.both hw) rfl fun l => l.copyOn hn hw hf hc hr hx hmore
  | commits op r c d o hw hf hc hr hx hlast hd ho =>
    refine k.of_working (k.both hw) ?_ fun l => l.committed hn hw hf hc hr hx hlast hd ho
    exact commit_control c d (programTaken op writtenStripe s)
  | ends op g r hw hg => exact k.of_working (k.both hw) rfl fun l => l.programTaken hn hw hg nofun
  | restarts op r c hw hr hc =>
    refine k.of_working (k.both hw) rfl fun l => l.programTaken hn hw (.inr rfl) fun c' h => ?_
    cases h
    exact .unplaced (l.copy c (by rw [State.copy, hr]; exact hc)).source rfl rfl nofun
  | erased n hw => exact k.of_working (k.both hw) rfl fun l => (l.erased hn (k.both hw) hw).1
  | wears n hw => exact k.of_working (k.both hw) rfl fun l => (l.erased hn (k.both hw) hw).2
  | cuts p q =>
    have hf : (loseVolatile s).control.formatted = s.control.formatted := by
      obtain ⟨x, i, h, -⟩ := cutOperation_flash s
      unfold loseVolatile; rw [h]
    exact ⟨fun _ => rfl, fun _ => rfl, fun _ => ⟨rfl, rfl, rfl⟩, fun f => (k.table (hf ▸ f)).cut hn p q⟩
  | supplies p q m hr hm =>
    have ms : s.control.mode = .start := k.idle hr
    obtain rfl : m = .start := hm.elim (fun h => h.trans ms) id
    refine ⟨fun _ => rfl, fun _ => rfl, fun _ => { k.start ms with }, fun f => ?_⟩
    have l := k.table f
    exact { l with flight := { l.flight with mark := fun h => absurd rfl h, cut := fun _ => l.flight.cut ms } }
  | formats m => exact ⟨fun _ => m, fun _ => m, fun _ => ⟨rfl, rfl, rfl⟩, fun _ => .format s⟩
  | recovers m =>
    obtain ⟨x, hx⟩ := recoverStore_rest s
    refine ⟨fun _ => ?_, fun _ => ?_, fun _ => ?_, fun f => ?_⟩
    · rw [hx]; exact m
    · rw [hx]; exact m
    · rw [hx]; exact { k.start m with }
    · have hf : (recoverStore s).control = s.control := by rw [hx]
      exact (k.table (hf ▸ f)).recoverStore hn m (k.start m)
  | begins m h hm hr hf hk =>
    have l := k.table hf
    refine ⟨fun h => absurd (h.symm.trans hr) (by simp), fun h => absurd (h.symm.trans hf) (by simp), fun h => absurd h hm, fun _ => ?_⟩
    refine { l with flight := ?_ }
    show FlightOk _ _ s.store.mark s.store.wings _
    rw [hk, (k.start h).wings]
    exact .idle

theorem CoreOk.sane (k : CoreOk s) : Sane False s := by
  refine ⟨fun h => .inr ?_, .inr fun m => (k.start m).wings⟩
  obtain ⟨n, hn⟩ := Option.isSome_iff_exists.1 h
  have hf : s.control.formatted = true := by
    cases f : s.control.formatted with
    | true => rfl
    | false => rw [(k.start (k.unformatted f)).wings] at hn; cases hn
  exact List.ne_nil_of_mem ((k.table hf).flight.erase n hn)

/-- Settles O16: each change of an event keeps the laws of the stripe table (`Event.coreOk`), the stripe numbers being in range. -/
theorem stepKeepsStripes : Obligations.StepKeepsStripes := by
  intro s t k h
  obtain ⟨ht, hc⟩ := stripesOk_iff.1 k
  have hn := (tablesOk_iff.1 ht).1
  refine stripesOk_iff.2 ⟨stepKeepsTables s t ht h, ?_⟩
  have both : NumbersOk t ∧ CoreOk t :=
    step_keeps (P := fun s => NumbersOk s ∧ CoreOk s) (fun p => p.2.sane) (fun _ _ e p => ⟨e.numbersOk p.1, e.coreOk p.1 p.2⟩) ⟨hn, hc⟩ h
  exact both.2

end Sys2Proof.Machine
end

section
/-! What the completions of programs and erases leave in the flash. -/

namespace Sys2Proof.Machine

variable {s t : State}

/-! ### The next state of a completion -/

theorem exec_leafProgramWritten {op : ProgramOp} (h : s.store.wings = .both (.program op)) :
    exec .leafProgramWritten s
      = .next (conclude (programWritten op { s with store.wings := .split none none, store.mark := none })) := by
  show Host.Outcome.next (match takeProgram s with
    | none => s
    | some (op, s) => conclude (programWritten op s)) = _
  simp only [takeProgram, h]

theorem exec_leafProgramFailed {op : ProgramOp} (h : s.store.wings = .both (.program op)) :
    exec .leafProgramFailed s
      = .next (conclude (programFailed op { s with store.wings := .split none none, store.mark := none })) := by
  show Host.Outcome.next (match takeProgram s with
    | none => s
    | some (op, s) => conclude (programFailed op s)) = _
  simp only [takeProgram, h]

theorem exec_stripeEraseComplete {n : Nat} (e : Bool) (h : s.store.wings = .both (.erase n)) :
    exec (.stripeEraseComplete e) s = .next (conclude (
      let u : State := { s with store.wings := .split none none, store.dirtyQueue := s.store.dirtyQueue.erase n }
      if e then eraseDone n u else eraseFailed n u)) := by
  show Host.Outcome.next (match takeErase s with
    | none => s
    | some (n, s) => conclude (if e then eraseDone n s else eraseFailed n s)) = _
  simp only [takeErase, h]

/-! ### The flash -/

theorem sheetAt_of_flash (h : t.store.flash = s.store.flash) (n i : Nat) (w : Wing) : t.sheetAt n i w = s.sheetAt n i w := by
  unfold State.sheetAt; rw [h]

theorem flash_of_quiet (h : t.quiet = s.quiet) : t.store.flash = s.store.flash := congrArg QuietView.flash h

theorem conclude_flash (s : State) : (conclude s).store.flash = s.store.flash := by
  obtain ⟨l, h⟩ := conclude_quiet s
  exact congrArg QuietView.flash h

theorem programWritten_flash (op : ProgramOp) (s : State) : (programWritten op s).store.flash = (writeLeaf op s).store.flash :=
  flash_of_quiet (feedWritten_quiet op _)

theorem programFailed_flash (op : ProgramOp) (s : State) :
    (programFailed op s).store.flash = (loseLeaf op.stripe op.place s).store.flash := flash_of_quiet (feedFailed_quiet op _)

theorem eraseDone_flash (n : Nat) (s : State) : (eraseDone n s).store.flash = (eraseLeaves n s).store.flash :=
  flash_of_quiet (examineStalled_quiet _)

/-- Every leaf but the one that is lost reads as before. -/
theorem sheetAt_loseLeaf_ne (n i k j : Nat) (w : Wing) (s : State) (h : leafAddress k j ≠ leafAddress n i) :
    (loseLeaf n i s).sheetAt k j w = s.sheetAt k j w := by
  simp only [loseLeaf, State.sheetAt, tget_tput_ne _ _ _ _ h]

/-- A table without the keys that fail a test. -/
theorem tget_filter {α : Type} (l : Table α) (p : Nat → Bool) (k : Nat) :
    tget (l.filter (fun e => p e.1)) k = if p k then tget l k else none := by
  induction l with
  | nil => simp
  | cons e rest ih =>
    obtain ⟨j, v⟩ := e
    by_cases hj : j = k
    · subst hj
      cases hp : p j <;> simp_all [tget]
    · cases hp : p j <;> simp_all [tget]

theorem leafAddress_stripe {k i : Nat} (h : i < Config.leavesPerStripe) : leafAddress k i / Config.leavesPerStripe = k := by
  rw [leafAddress, Nat.mul_comm, Nat.mul_add_div (by decide), Nat.div_eq_of_lt h, Nat.add_zero]

/-- The leaves of an erased stripe carry no tag, and those of the others read as before. -/
theorem sheetAt_eraseLeaves {n k i : Nat} {w : Wing} (h : i < Config.leavesPerStripe) :
    (eraseLeaves n s).sheetAt k i w = if k = n then erasedSheet else s.sheetAt k i w := by
  unfold State.sheetAt eraseLeaves
  simp only [tget_filter s.store.flash (fun a => !(a / Config.leavesPerStripe == n)), leafAddress_stripe h]
  by_cases e : k = n <;> simp [e]

/-- Settles O7: the end of an event and a feeder's work leave the flash as a program or an erase has made it (`conclude_flash`,
`programWritten_flash`, `eraseDone_flash`). -/
theorem flashChangesOnlyWhereProgrammed : Obligations.FlashChangesOnlyWhereProgrammed := by
  refine ⟨fun s t op w hw h => ?_, fun s t op w hw h n i hne => ?_, fun s t n w _ hw h k i hi => ?_⟩
  · rw [exec_leafProgramWritten hw] at h
    cases h
    have hf := (conclude_flash _).trans (programWritten_flash op { s with store.wings := .split none none, store.mark := none })
    refine ⟨(sheetAt_of_flash hf _ _ w).trans (sheetAt_writeLeaf_self op _ w), fun n i hne => ?_⟩
    exact (sheetAt_of_flash hf n i w).trans (sheetAt_writeLeaf_ne op _ n i w hne)
  · rw [exec_leafProgramFailed hw] at h
    cases h
    have hf := (conclude_flash _).trans (programFailed_flash op { s with store.wings := .split none none, store.mark := none })
    exact (sheetAt_of_flash hf n i w).trans (sheetAt_loseLeaf_ne _ _ n i w _ hne)
  · rw [exec_stripeEraseComplete true hw] at h
    cases h
    have hf := (conclude_flash _).trans
      (eraseDone_flash n { s with store.wings := .split none none, store.dirtyQueue := s.store.dirtyQueue.erase n })
    exact (sheetAt_of_flash hf k i w).trans (sheetAt_eraseLeaves hi)

end Sys2Proof.Machine
end

section
/-! What the completion of a program leaves of its stripe, and of the descriptor that fed it. -/

namespace Sys2Proof.Machine

variable {s t u : State}

/-! ### Changes of the counts alone -/

/-- Live and reader counts change, and idle wings stay idle. -/
structure CountsOnly (s t : State) : Prop where
  wings : s.store.wings = .split none none → t.store.wings = .split none none
  mark : t.store.mark = s.store.mark
  free : t.store.freeQueue = s.store.freeQueue
  dirty : t.store.dirtyQueue = s.store.dirtyQueue
  ordered : Table.Ordered t.store.stripes
  records : ∀ n, { t.stripe n with live := (s.stripe n).live, readers := (s.stripe n).readers } = s.stripe n

theorem CountsOnly.of_store (ho : Table.Ordered s.store.stripes) (h : t.store = s.store) : CountsOnly s t := by
  have e : t.stripe = s.stripe := by unfold State.stripe; rw [h]
  exact ⟨fun k => h ▸ k, by rw [h], by rw [h], by rw [h], h ▸ ho, fun n => by rw [e]⟩

theorem CountsOnly.trans (h : CountsOnly s t) (k : CountsOnly t u) : CountsOnly s u := by
  refine ⟨fun e => k.wings (h.wings e), k.mark.trans h.mark, k.free.trans h.free, k.dirty.trans h.dirty, k.ordered, fun n => ?_⟩
  rw [← h.records n, ← k.records n]

theorem CountsOnly.store (h : CountsOnly s t) (e : u.store = t.store) : CountsOnly s u := h.trans (.of_store h.ordered e)

theorem countsOnly_mapStripe (ho : Table.Ordered s.store.stripes) (n : Nat) (g : Stripe → Stripe)
    (hg : ∀ r, { g r with live := r.live, readers := r.readers } = r) : CountsOnly s (s.mapStripe n g) := by
  refine ⟨id, rfl, rfl, rfl, ordered_tset _ ho _ _, fun m => ?_⟩
  rw [stripe_mapStripe ho, Function.update_apply]
  split
  · rename_i e; subst e; exact hg _
  · rfl

/-- A fold of changes of the counts. -/
theorem CountsOnly.foldl {α : Type} {g : State → α → State}
    (h : ∀ s a, Table.Ordered s.store.stripes → CountsOnly s (g s a)) (l : List α) (ho : Table.Ordered s.store.stripes) :
    CountsOnly s (l.foldl g s) := by
  induction l generalizing s with
  | nil => exact .of_store ho rfl
  | cons a l ih => exact (h s a ho).trans (ih (h s a ho).ordered)

theorem liveRises_counts (n k : Nat) (ho : Table.Ordered s.store.stripes) : CountsOnly s (liveRises n k s) :=
  countsOnly_mapStripe ho _ _ fun _ => rfl

theorem liveFalls_counts (n k : Nat) (ho : Table.Ordered s.store.stripes) : CountsOnly s (liveFalls n k s) :=
  countsOnly_mapStripe ho _ _ fun _ => rfl

theorem extentsDie_counts (es : List Extent) (ho : Table.Ordered s.store.stripes) : CountsOnly s (extentsDie es s) :=
  .foldl (fun _ (e : Extent) ho => liveFalls_counts e.stripe e.count ho) es ho

theorem readersFall_counts (es : List Extent) (ho : Table.Ordered s.store.stripes) : CountsOnly s (readersFall es s) :=
  .foldl (fun _ n ho => countsOnly_mapStripe ho n (fun r => { r with readers := r.readers - 1 }) fun _ => rfl) _ ho

theorem detachFetcher_counts (who : Fetcher) (ho : Table.Ordered s.store.stripes) : CountsOnly s (detachFetcher who s) := by
  obtain ⟨w, h, -⟩ := detachFetcher_wings who s
  refine ⟨detachFetcher_idle who, ?_, ?_, ?_, ?_, fun n => ?_⟩ <;> rw [h]
  · exact ho
  · rfl

theorem detachFeeder_counts (f : Front) (ho : Table.Ordered s.store.stripes) : CountsOnly s (detachFeeder f s) := by
  obtain ⟨w, h, -⟩ := detachFeeder_wings f s
  refine ⟨detachFeeder_idle f, ?_, ?_, ?_, ?_, fun n => ?_⟩ <;> rw [h]
  · exact ho
  · rfl

/-! ### The feeders -/

theorem notifyAll_store (n : Notice) (ps : List Port) (s : State) : (notifyAll n ps s).store = s.store :=
  List.foldlRecOn (motive := fun t : State => t.store = s.store) _ _ rfl (fun _ h _ _ => h)

theorem spaceCheck_store (s : State) : (spaceCheck s).store = s.store := by
  unfold spaceCheck; simp only; split
  · rfl
  · rw [notifyAll_store]

theorem publish_store (h : Nat) (s : State) : (publish h s).store = s.store := by
  unfold publish; split
  · rfl
  · rw [notifyAll_store]; rfl

theorem enterObject_store (n : Nat) (d : Descriptor) (s : State) : (enterObject n d s).store = s.store := by
  unfold enterObject; simp only; split
  · rfl
  · split
    · rw [publish_store]; rfl
    · rfl

theorem enterReady_store (n : Nat) (s : State) : (enterReady n s).store = s.store := by
  induction n generalizing s with
  | zero => rfl
  | succ n ih =>
    unfold enterReady; split
    · rfl
    · rw [ih, enterObject_store]

theorem intakeWritten_counts (op : ProgramOp) (ho : Table.Ordered s.store.stripes) : CountsOnly s (intakeWritten op s) := by
  unfold intakeWritten; split
  · exact .of_store ho rfl
  · split
    · exact .of_store ho rfl
    · refine (liveRises_counts op.stripe 1 ho).store ?_
      rw [enterReady_store, spaceCheck_store]; rfl

theorem endPassSource_counts (ho : Table.Ordered s.store.stripes) : CountsOnly s (endPassSource s) := by
  unfold endPassSource; split
  · exact .of_store ho rfl
  · rename_i st _
    have h : CountsOnly s (if st.fetch = .inFlight then detachFetcher .passSource s else s) := by
      split
      · exact detachFetcher_counts _ ho
      · exact .of_store ho rfl
    exact (h.trans (readersFall_counts _ h.ordered)).store rfl

theorem endActive_counts (p : Pass) (o : PassOutcome) (c : Option PassCause) (ho : Table.Ordered s.store.stripes) :
    CountsOnly s (endActive p o c s) := by
  have h1 := endPassSource_counts ho
  have h2 : CountsOnly s (unstall .restore (detachFeeder .restore (endPassSource s))) := by
    have h := h1.trans (detachFeeder_counts .restore h1.ordered)
    exact ⟨h.wings, h.mark, h.free, h.dirty, h.ordered, h.records⟩
  have h3 : CountsOnly s (stopActive (o == .created) s) := by
    unfold stopActive
    cases o == .created
    · exact (h2.trans (extentsDie_counts _ h2.ordered)).store rfl
    · exact h2.store rfl
  exact h3.store rfl

theorem createVersion_counts (p : Pass) (ho : Table.Ordered s.store.stripes) : CountsOnly s (createVersion p s) := by
  unfold createVersion; split
  · rename_i b n o e _ _ _ _
    split
    · exact (CountsOnly.of_store (s := s) (t := takeSerial (s.putObject
        { o with versions := o.versions ++ [passVersion p b n s], lastNumber := n })) ho rfl).trans (endActive_counts _ _ _ ho)
    · exact endActive_counts _ _ _ ho
  · exact endActive_counts _ _ _ ho

theorem passWritten_counts (op : ProgramOp) (ho : Table.Ordered s.store.stripes) : CountsOnly s (passWritten op s) := by
  unfold passWritten; split
  · exact .of_store ho rfl
  · have h : CountsOnly s (liveRises op.stripe 1 { s with passes.output := recordLeaf s.passes.output op.stripe op.place }) :=
      (liveRises_counts op.stripe 1 ho).store rfl
    simp only
    split
    · refine CountsOnly.trans ?_ (createVersion_counts _ ?_)
      · exact h.store rfl
      · exact h.ordered
    · exact h.store rfl

theorem commit_counts (c : Copy) (d : Nat × Nat) (ho : Table.Ordered s.store.stripes) : CountsOnly s (commit c d s) := by
  unfold commit; split
  · exact .of_store ho rfl
  · rename_i o _
    have h : CountsOnly s (s.putObject (mapVersion c.version c.serial (replaceExtent c.index ⟨d.1, d.2, c.source.count⟩) o)) :=
      .of_store ho rfl
    have h' := h.trans (liveRises_counts d.1 c.source.count h.ordered)
    exact h'.trans (liveFalls_counts _ _ h'.ordered)

theorem endCopy_store (r : Round) (s : State) : (endCopy r s).store = s.store := by
  obtain ⟨x, hx, -⟩ := lookNext_fresh { r with copy := none } s
  unfold endCopy; rw [hx]; rfl

theorem copyNext_store (r : Round) (c : Copy) (s : State) : (copyNext r c s).store = s.store := by
  unfold copyNext; split
  · rfl
  · exact endCopy_store r s

theorem copyWritten_counts (ho : Table.Ordered s.store.stripes) : CountsOnly s (copyWritten s) := by
  unfold copyWritten; split
  · exact .of_store ho rfl
  · split
    · exact .of_store ho rfl
    · simp only
      split
      · refine CountsOnly.store ?_ (endCopy_store _ _)
        unfold commitCopy; split
        · split
          · exact commit_counts _ _ ho
          · exact .of_store ho rfl
        · exact .of_store ho rfl
      · exact .of_store ho (copyNext_store _ _ s)

/-- A feeder that learns of a written leaf changes live and reader counts alone. -/
theorem feedWritten_counts (op : ProgramOp) (ho : Table.Ordered s.store.stripes) : CountsOnly s (feedWritten op s) := by
  unfold feedWritten; split
  · exact .of_store ho rfl
  · split
    · exact intakeWritten_counts op ho
    · exact passWritten_counts op ho
    · exact copyWritten_counts ho

/-- What a feeder that learns of a failed program leaves alone. -/
structure FeedFailed (s t : State) : Prop where
  store : t.store = s.store
  catalog : t.catalog = s.catalog
  descriptors : t.intake.descriptors = s.intake.descriptors
  provisional : t.intake.provisional = s.intake.provisional

theorem endCopy_rest (r : Round) (s : State) : FeedFailed s (endCopy r s) := by
  obtain ⟨x, hx, -⟩ := lookNext_fresh { r with copy := none } s
  unfold endCopy; rw [hx]; exact ⟨rfl, rfl, rfl, rfl⟩

theorem feedFailed_rest (op : ProgramOp) (s : State) : FeedFailed s (feedFailed op s) := by
  unfold feedFailed; split
  · exact ⟨rfl, rfl, rfl, rfl⟩
  · split
    · exact ⟨rfl, rfl, rfl, rfl⟩
    · unfold passFailed; split <;> exact ⟨rfl, rfl, rfl, rfl⟩
    · unfold copyFailed; split
      · exact ⟨rfl, rfl, rfl, rfl⟩
      · split
        · exact ⟨rfl, rfl, rfl, rfl⟩
        · unfold copyNext; split
          · exact ⟨rfl, rfl, rfl, rfl⟩
          · exact endCopy_rest _ s

/-! ### The leaf that intake's program has written -/

/-- The descriptor of the run, which keeps staged leaves, takes the leaf into its record. -/
theorem enterReady_of_none {n : Nat} (h : ∀ x ∈ s.intake.descriptors, x.2.complete = false) : enterReady n s = s := by
  cases n with
  | zero => rfl
  | succ n =>
    unfold enterReady
    have e : s.intake.descriptors.find? (fun e => e.2.complete && e.2.waits.isEmpty) = none :=
      List.find?_eq_none.2 fun x hx => by simp [h x hx]
    rw [e]

theorem notifyAll_intake (n : Notice) (ps : List Port) (s : State) : (notifyAll n ps s).intake = s.intake :=
  List.foldlRecOn (motive := fun t : State => t.intake = s.intake) _ _ rfl (fun _ h _ _ => h)

theorem spaceCheck_intake (s : State) : ∃ x, (spaceCheck s).intake = { s.intake with space := x } := by
  unfold spaceCheck; simp only; split
  · exact ⟨s.intake.space, rfl⟩
  · exact ⟨_, notifyAll_intake _ _ _⟩

theorem intakeWritten_takes {op : ProgramOp} {run : Run} {d : Descriptor} (hr : s.intake.run = some run)
    (hd : s.descriptor run.descriptor = some d) (hc : ∀ x ∈ s.intake.descriptors, x.2.complete = false)
    (hl : ∃ l ∈ d.staged, l.leaf ≠ op.leaf) :
    let t := intakeWritten op s
    t.descriptor run.descriptor
      = some { d with staged := d.staged.filter (fun l => l.leaf != op.leaf), programmed := d.programmed + 1 } ∧
    t.provisional run.descriptor = recordLeaf (s.provisional run.descriptor) op.stripe op.place ∧
    t.intake.request = .none ∧ t.store = (liveRises op.stripe 1 s).store := by
  intro t
  obtain ⟨l, hl, hne⟩ := hl
  generalize hd' : ({ d with staged := d.staged.filter (fun l => l.leaf != op.leaf), programmed := d.programmed + 1 } : Descriptor) = d'
  have incomplete : d'.complete = false := by
    have hm : l ∈ d'.staged := by rw [← hd']; exact List.mem_filter.2 ⟨hl, by simpa using hne⟩
    have he : d'.staged.isEmpty = false := by
      cases h : d'.staged with
      | nil => rw [h] at hm; cases hm
      | cons a b => rfl
    simp [Descriptor.complete, he]
  have ht : ∃ u : State, t = enterReady Config.descriptors (spaceCheck u) ∧
      u.intake.descriptors = tput s.intake.descriptors run.descriptor d' ∧
      u.intake.provisional
        = tput s.intake.provisional run.descriptor (recordLeaf (s.provisional run.descriptor) op.stripe op.place) ∧
      u.intake.request = .none ∧ u.store = (liveRises op.stripe 1 s).store := by
    unfold t intakeWritten
    rw [hr]
    simp only [hd]
    subst hd'
    exact ⟨_, rfl, rfl, rfl, rfl, rfl⟩
  obtain ⟨u, hu, h1, h2, h3, h4⟩ := ht
  obtain ⟨x, hx⟩ := spaceCheck_intake u
  have hnone : ∀ y ∈ (spaceCheck u).intake.descriptors, y.2.complete = false := by
    intro y hy
    rw [hx] at hy
    rcases mem_tput (show y ∈ tput s.intake.descriptors run.descriptor d' from h1 ▸ hy) with rfl | hy
    · exact incomplete
    · exact hc y hy
  rw [enterReady_of_none hnone] at hu
  rw [hu]
  refine ⟨?_, ?_, ?_, (spaceCheck_store u).trans h4⟩
  · rw [State.descriptor, hx, h1]; exact tget_tput_self _ _ _
  · rw [State.provisional, hx, h2, tget_tput_self]; rfl
  · rw [hx]; exact h3

/-! ### The statement -/

/-- The record of a program's stripe once the flash and the record have been changed. -/
theorem stripe_completed {op : ProgramOp} {g : Stripe → Stripe} (ho : Table.Ordered s.store.stripes) (hu : u.store.stripes = s.store.stripes) :
    (u.mapStripe op.stripe g).stripe op.stripe = g (s.stripe op.stripe) := by
  have e : u.stripe = s.stripe := by unfold State.stripe; rw [hu]
  rw [stripe_mapStripe (hu ▸ ho), Function.update_self, e]

/-- Settles O53: a feeder changes live and reader counts alone (`feedWritten_counts`), and intake's descriptor takes the leaf
(`intakeWritten_takes`). -/
theorem programsFillTheirStripes : Obligations.ProgramsFillTheirStripes := by
  intro s op hw ho r
  constructor
  · refine ⟨_, exec_leafProgramWritten hw, ?_⟩
    generalize hu : ({ s with store.wings := .split none none, store.mark := none } : State) = u
    generalize hv : (writeLeaf op u).mapStripe op.stripe writtenStripe = v
    have hs : u.store.stripes = s.store.stripes := by rw [← hu]
    have hvs : v.stripe op.stripe = writtenStripe r := by rw [← hv]; exact stripe_completed ho hs
    have hov : Table.Ordered v.store.stripes := by rw [← hv]; exact ordered_tset _ (hs ▸ ho) _ _
    have hp : programWritten op u = feedWritten op v := by rw [← hv]; rfl
    have hc := feedWritten_counts op hov
    have hrec := hc.records op.stripe
    rw [hvs] at hrec
    have hvw : v.store.wings = .split none none := by rw [← hv, ← hu]; rfl
    have hvm : v.store.mark = none := by rw [← hv, ← hu]; rfl
    rw [hp]
    refine ⟨hc.wings hvw, hc.mark.trans hvm, (congrArg Stripe.written hrec :), (congrArg Stripe.state hrec :),
      (congrArg Stripe.retirePending hrec :), (congrArg Stripe.eraseCount hrec :), fun h => ?_, fun run d h hf hr hd hn hl => ?_⟩
    · have e : feedWritten op v = v := by unfold feedWritten; rw [if_pos h]
      rw [e, hvs]
      refine ⟨rfl, ?_, ?_, ?_⟩ <;> (rw [← hv, ← hu]; rfl)
    · have e : feedWritten op v = intakeWritten op v := by unfold feedWritten; rw [h, hf]; rfl
      have hi : v.intake = s.intake := by rw [← hv, ← hu]; rfl
      obtain ⟨h1, h2, h3, h4⟩ := intakeWritten_takes (s := v) (op := op) (by rw [hi]; exact hr)
        (by rw [State.descriptor, hi]; exact hd) (by rw [hi]; exact hn) hl
      have hpr : v.provisional run.descriptor = s.provisional run.descriptor := by unfold State.provisional; rw [hi]
      rw [e]
      refine ⟨h1, hpr ▸ h2, ?_, h3⟩
      have hst : (intakeWritten op v).stripe op.stripe = (liveRises op.stripe 1 v).stripe op.stripe := by
        unfold State.stripe; rw [h4]
      rw [hst, liveRises, stripe_mapStripe hov, Function.update_self, hvs]
      rfl
  · refine ⟨_, exec_leafProgramFailed hw, ?_⟩
    generalize hu : ({ s with store.wings := .split none none, store.mark := none } : State) = u
    generalize hv : (loseLeaf op.stripe op.place u).mapStripe op.stripe failedStripe = v
    have hs : u.store.stripes = s.store.stripes := by rw [← hu]
    have hp : programFailed op u = feedFailed op v := by rw [← hv]; rfl
    obtain ⟨h1, h2, h3, h4⟩ := feedFailed_rest op v
    rw [hp]
    refine ⟨?_, ?_, ?_, ?_, ?_, ?_⟩
    · rw [h1, ← hv, ← hu]; rfl
    · rw [h1, ← hv, ← hu]; rfl
    · have e : (feedFailed op v).stripe = v.stripe := by unfold State.stripe; rw [h1]
      rw [e, ← hv]
      exact stripe_completed ho hs
    · rw [h3, ← hv, ← hu]; rfl
    · rw [h4, ← hv, ← hu]; rfl
    · rw [h2, ← hv, ← hu]; rfl

end Sys2Proof.Machine
end

section
/-! The arbiter: its ranking and its winner, and what a decision does. -/

namespace Sys2Proof.Machine

variable {s : State} {c : Claim}

/-! ### Claims that may win -/

/-- A claim that is pending and that the guard line does not hold back. -/
def State.standingClaim (s : State) (c : Claim) : Prop := s.claims c = true ∧ (c.wide = true → s.store.guardAsserted = false)

theorem eligible_iff : s.eligible c = true ↔ s.standingClaim c := by
  unfold State.eligible State.standingClaim
  cases c.wide <;> cases s.store.guardAsserted <;> simp

theorem open_iff {w : Wing} : s.open_ w = true ↔ s.idle w = true ∧ s.store.held ≠ some w := by
  simp [State.open_]

/-- The test of the winner: a standing claim that wants a wing idle and not held. -/
theorem startable_iff :
    (s.eligible c && (if c.wide then s.open_ .low || s.open_ .high else s.open_ (s.wants c))) = true ↔
      s.standingClaim c ∧ ∃ w, s.idle w = true ∧ s.store.held ≠ some w ∧ (c.wide = false → w = s.wants c) := by
  rw [Bool.and_eq_true, eligible_iff]
  refine and_congr_right fun _ => ?_
  cases hw : c.wide with
  | true =>
    simp only [if_true, Bool.or_eq_true, open_iff, Bool.true_eq_false, false_implies, and_true]
    exact ⟨fun h => h.elim (fun h => ⟨_, h⟩) (fun h => ⟨_, h⟩), fun ⟨w, h⟩ => by cases w <;> simp [h]⟩
  | false =>
    simp only [Bool.false_eq_true, if_false, open_iff, true_implies]
    exact ⟨fun ⟨h1, h2⟩ => ⟨_, h1, h2, rfl⟩, fun ⟨w, h1, h2, h3⟩ => h3 ▸ ⟨h1, h2⟩⟩

/-- The first element that passes a test, by what stands before it. -/
theorem find?_eq_some_of_split {α : Type} {l a b : List α} {x : α} {p : α → Bool} (h : l = a ++ x :: b) (hx : p x = true)
    (ha : ∀ y ∈ a, ¬ p y = true) : l.find? p = some x :=
  List.find?_eq_some_iff_append.2 ⟨hx, a, b, h, fun y hy => by simpa using ha y hy⟩

theorem winner_none_of (h : ∀ c, ¬ (s.standingClaim c ∧
    ∃ w, s.idle w = true ∧ s.store.held ≠ some w ∧ (c.wide = false → w = s.wants c))) : s.winner = none :=
  List.find?_eq_none.2 fun c _ hc => h c (startable_iff.1 hc)

theorem widest_none_of (h : ∀ c, s.standingClaim c → c.wide = false) : s.widest = none :=
  List.find?_eq_none.2 fun c _ hc => by
    rw [Bool.and_eq_true, eligible_iff] at hc
    rw [h c hc.1] at hc
    cases hc.2

/-- While the guard line is asserted no program and no erase stands. -/
theorem not_wide_of_guarded (hg : s.store.guardAsserted = true) (h : s.standingClaim c) : c.wide = false := by
  cases hw : c.wide with
  | false => rfl
  | true => rw [h.2 hw] at hg; cases hg

/-! ### Decisions -/

theorem with_held_none (h : s.store.held = none) : ({ s with store.held := none } : State) = s := by rw [← h]

theorem arbitrate_of_not_held (h : s.store.held = none) : arbitrate s = decideLoop 2 s := by
  have e : arbitrate s = decideLoop 2 { s with store.held := none } := by unfold arbitrate; rw [h]
  rw [e, with_held_none h]

theorem arbitrate_of_widest_none (h : s.widest = none) : arbitrate s = decideLoop 2 { s with store.held := none } := by
  unfold arbitrate
  rw [h]
  cases s.store.held <;> rfl

theorem arbitrate_of_held {w : Wing} (h : s.store.held = some w) (hc : s.widest = some c) (hl : s.idle .low = true)
    (hh : s.idle .high = true) : arbitrate s = startWide c { s with store.held := none } := by
  unfold arbitrate
  rw [h, hc, hl, hh]
  rfl

theorem decideLoop_of_none {n : Nat} (h : s.winner = none) : decideLoop n s = s := by
  cases n with
  | zero => rfl
  | succ n => unfold decideLoop; rw [h]

theorem decideLoop_of_wide {n : Nat} (h : s.winner = some c) (hw : c.wide = true) : decideLoop (n + 1) s =
    if s.idle .low && s.idle .high then startWide c s
    else { s with store.held := some (if s.idle .low then .low else .high) } := by
  rw [decideLoop]; simp only [h, hw, if_true]

theorem decideLoop_of_fetch {n : Nat} (h : s.winner = some c) (hw : c.wide = false) :
    decideLoop (n + 1) s = decideLoop n (startFetch c s) := by
  rw [decideLoop]; simp only [h, hw, Bool.false_eq_true, if_false]

/-! ### What a fetch's start changes -/

/-- A fetch's start changes the wings, which stay split, and the turn pointer. -/
structure FetchStarted (s t : State) : Prop where
  held : t.store.held = s.store.held
  guard : t.store.guardAsserted = s.store.guardAsserted
  split : (∃ a b, s.store.wings = .split a b) → ∃ a b, t.store.wings = .split a b

theorem putFetch_started (w : Wing) (op : FetchOp) (s : State) : FetchStarted s (putFetch w op s) := by
  unfold putFetch; split
  · exact ⟨rfl, rfl, fun _ => ⟨_, _, rfl⟩⟩
  · exact ⟨rfl, rfl, fun _ => ⟨_, _, rfl⟩⟩
  · exact ⟨rfl, rfl, id⟩

theorem startStreamFetch_started (who : Fetcher) (st : Stream) (s : State) : FetchStarted s (startStreamFetch who st s) := by
  unfold startStreamFetch; split
  · exact ⟨rfl, rfl, id⟩
  · split
    · exact ⟨rfl, rfl, id⟩
    · exact putFetch_started _ _ s

theorem mapActive_store (p : Port) (g : Stream → Stream) (s : State) : (mapActive p g s).store = s.store := by
  unfold mapActive; simp only; split <;> rfl

theorem startFetch_started (c : Claim) (s : State) : FetchStarted s (startFetch c s) := by
  unfold startFetch; split
  · split
    · exact ⟨rfl, rfl, id⟩
    · rename_i p _ st _
      have h := startStreamFetch_started (.stream p) st s
      simp only
      refine ⟨?_, ?_, fun k => ?_⟩ <;> rw [mapActive_store]
      · exact h.held
      · exact h.guard
      · exact h.split k
  · split
    · exact ⟨rfl, rfl, id⟩
    · rename_i st _
      have h := startStreamFetch_started .passSource st s
      exact ⟨h.held, h.guard, h.split⟩
  · split
    · exact ⟨rfl, rfl, id⟩
    · simp only
      generalize hv : putFetch (s.wants .copyFetch) _ s = v
      have h : FetchStarted s v := hv ▸ putFetch_started _ _ s
      obtain ⟨x, hx⟩ := mapCopy_round (fun c => { c with request := .inFlight }) v
      rw [hx]
      exact ⟨h.held, h.guard, h.split⟩
  · exact ⟨rfl, rfl, id⟩

/-- While the guard line is asserted a decision starts fetches alone, and holds no wing. -/
theorem decideLoop_guarded {n : Nat} (hg : s.store.guardAsserted = true) : FetchStarted s (decideLoop n s) := by
  induction n generalizing s with
  | zero => exact ⟨rfl, rfl, id⟩
  | succ n ih =>
    cases hw : s.winner with
    | none => rw [decideLoop_of_none hw]; exact ⟨rfl, rfl, id⟩
    | some c =>
      have hp := List.find?_some hw
      have hc := startable_iff.1 hp
      rw [decideLoop_of_fetch hw (not_wide_of_guarded hg hc.1)]
      have h1 := startFetch_started c s
      have h2 := ih (s := startFetch c s) (h1.guard.trans hg)
      exact ⟨h2.held.trans h1.held, h2.guard.trans h1.guard, fun k => h2.split (h1.split k)⟩

theorem arbitrate_guarded (hg : s.store.guardAsserted = true) : (arbitrate s).store.held = none ∧
    ((∃ a b, s.store.wings = .split a b) → ∃ a b, (arbitrate s).store.wings = .split a b) := by
  rw [arbitrate_of_widest_none (widest_none_of fun c h => not_wide_of_guarded hg h)]
  have h := decideLoop_guarded (n := 2) (s := { s with store.held := none }) hg
  exact ⟨h.held, h.split⟩

/-- The start of a stream's fetch on the wing of its next sheet. -/
theorem startFetch_stream {p : Port} {st : Stream} {rest : List Stream} {h n i : Nat}
    (hq : (s.streams.ports.get p).queue = st :: rest) (hn : nextSheet st = some h) (hl : locate st.snapshot (h / 2) = some (n, i))
    (hi : s.idle (wingOf h) = true) :
    (startFetch (.streamFetch p) s).store.turn = p ∧
    (startFetch (.streamFetch p) s).store.wings.fetching (wingOf h) = some ⟨.stream p, st.key, st.version, h / 2, n, i⟩ ∧
    ((startFetch (.streamFetch p) s).streams.ports.get p).queue = { st with fetch := .inFlight } :: rest := by
  have ha : s.active p = some st := by rw [State.active, State.portStreams, hq]; rfl
  have hs : startStreamFetch (.stream p) st s = putFetch (wingOf h) ⟨.stream p, st.key, st.version, h / 2, n, i⟩ s := by
    unfold startStreamFetch; simp only [hn, hl]
  have hf : startFetch (.streamFetch p) s = mapActive p (fun st => { st with fetch := .inFlight })
      { putFetch (wingOf h) ⟨.stream p, st.key, st.version, h / 2, n, i⟩ s with store.turn := p } := by
    unfold startFetch; simp only [ha, hs]
  obtain ⟨a, b, hw⟩ := idle_fetching hi
  obtain ⟨x, hx⟩ := putFetch_rest (wingOf h) ⟨.stream p, st.key, st.version, h / 2, n, i⟩ s
  rw [hf]
  refine ⟨?_, ?_, ?_⟩
  · rw [mapActive_store]
  · rw [mapActive_store]
    show (putFetch _ _ s).store.wings.fetching _ = _
    unfold putFetch
    rw [hw]
    cases wingOf h <;> rfl
  · rw [hx]
    unfold mapActive State.portStreams State.putPortStreams
    simp only [hq, PerPort.get_set_self]

/-! ### The statement -/

theorem ranking_below (h : s.occupancy < 64) : s.ranking = (turnOrder s.store.turn).map Claim.streamFetch
    ++ .intakeProgram :: [.erase, .copyFetch, .copyProgram, .passFetch, .passProgram] :=
  if_neg (Nat.not_le.2 h)

theorem ranking_from (h : 64 ≤ s.occupancy) : s.ranking = .intakeProgram :: ((turnOrder s.store.turn).map Claim.streamFetch
    ++ [.erase, .copyFetch, .copyProgram, .passFetch, .passProgram]) := if_pos h

theorem startWide_erase {n : Nat} {rest : List Nat} (h : s.store.dirtyQueue = n :: rest) :
    startWide .erase s = { s with store.wings := .both (.erase n), store.eraseRequested := false } := by
  unfold startWide; simp only [h]

theorem startWide_copyProgram {r : Round} {c : Copy} {n : Nat} {t : Stripe} (h : s.relocation.round = some { r with copy := some c })
    (hf : s.frontStripe .relocate = some (n, t)) : startWide .copyProgram s = { s with
      relocation.round := some { r with copy := some { c with request := .inFlight } },
      store.mark := some (n, t.written),
      store.wings := .both (.program
        ⟨.relocate, n, t.written, c.key, c.version, c.leafBase + c.copied, c.low ++ c.high, false⟩) } := by
  have hc : s.copy = some c := by rw [State.copy, h]; rfl
  have hm : mapCopy (fun c => { c with request := .inFlight }) s
      = s.putRound (some { r with copy := some { c with request := .inFlight } }) := by
    unfold mapCopy; rw [h]; rfl
  have hf' : (s.putRound (some { r with copy := some { c with request := .inFlight } })).frontStripe .relocate = some (n, t) := hf
  unfold startWide
  simp only [hc, hm]
  unfold startProgram
  rw [hf']
  rfl

/-- Settles O56: the winner's test is the statement's (`startable_iff`), and a decision is one step of `decideLoop`. -/
theorem arbiterServesTheHighestClass : Obligations.ArbiterServesTheHighestClass := by
  intro s order lower standing startable
  have horder : order = turnOrder s.store.turn := by unfold order; cases s.store.turn <;> rfl
  refine ⟨fun h => ?_, fun h => ?_, fun a c b h hc ha => ?_, fun h => winner_none_of h, fun hheld => ⟨fun h => ?_, ?_, ?_⟩, ?_, ?_,
    fun hg => (arbitrate_guarded hg).1, fun n rest h => startWide_erase h, fun r c n t h hf => startWide_copyProgram h hf⟩
  · rw [horder]; exact ranking_below h
  · rw [horder]; exact ranking_from h
  · exact find?_eq_some_of_split h (startable_iff.2 hc) fun y hy e => ha y hy (startable_iff.1 e)
  · rw [arbitrate_of_not_held hheld, decideLoop_of_none h]
  · intro p st rest h n i hw hq hn hl
    have hi : s.idle (wingOf h) = true := by
      have h2 := (winner_claims hw).2 rfl
      have ha : s.active p = some st := by rw [State.active, State.portStreams, hq]; rfl
      simpa [State.wants, ha, hn] using h2
    exact ⟨_, by rw [arbitrate_of_not_held hheld, decideLoop_of_fetch hw rfl], startFetch_stream hq hn hl hi⟩
  · intro c hw hc
    rw [arbitrate_of_not_held hheld, decideLoop_of_wide hw hc]
    exact ⟨fun hl hh => by simp [hl, hh], fun hl hh => by simp [hl, hh], fun hl hh => by simp [hl]⟩
  · intro a c b w hheld h hc hw ha hl hh
    refine arbitrate_of_held hheld (find?_eq_some_of_split h ?_ fun y hy e => ha y hy ?_) hl hh
    · rw [Bool.and_eq_true, eligible_iff]; exact ⟨hc, hw⟩
    · rw [Bool.and_eq_true, eligible_iff] at e; exact e
  · intro h
    rw [arbitrate_of_widest_none (widest_none_of h), arbitrate_of_not_held rfl]

end Sys2Proof.Machine
end

section
/-! What the completion of an erase leaves of its stripe and its queues, and the store guard line. -/

namespace Sys2Proof.Machine

variable {s t : State}

/-! ### PRESERVE leaves the stripes' states alone -/

theorem ordered_mapStripe (ho : Table.Ordered s.store.stripes) (n : Nat) (g : Stripe → Stripe) :
    Table.Ordered (s.mapStripe n g).store.stripes := ordered_tset _ ho _ _

theorem abortPasses_counts (pick : Pass → Bool) (c : PassCause) (ho : Table.Ordered s.store.stripes) :
    CountsOnly s (abortPasses pick c s) := by
  have h : ∀ t : State, (abortQueued pick c t).store = t.store := fun t => by
    unfold abortQueued
    exact List.foldlRecOn (motive := fun u : State => u.store = t.store) _ _ rfl (fun _ h _ _ => h)
  unfold abortPasses
  refine CountsOnly.store ?_ (h _)
  split
  · split
    · exact endActive_counts _ _ _ ho
    · exact .of_store ho rfl
  · exact .of_store ho rfl

theorem abandonRound_counts (ho : Table.Ordered s.store.stripes) : CountsOnly s (abandonRound s) := by
  have h := (detachFetcher_counts (s := s) .relocation ho)
  have h' := h.trans (detachFeeder_counts .relocate h.ordered)
  exact ⟨h'.wings, h'.mark, h'.free, h'.dirty, h'.ordered, h'.records⟩

theorem enterPreserve_counts (c : PreserveCause) (ho : Table.Ordered s.store.stripes) : CountsOnly s (enterPreserve c s) := by
  have h1 : CountsOnly s (abortPasses (fun _ => true) .preserve { s with control.mode := .preserve, control.cause := some c }) :=
    (CountsOnly.of_store (t := { s with control.mode := .preserve, control.cause := some c }) ho rfl).trans
      (abortPasses_counts _ _ ho)
  have h2 := h1.trans (abandonRound_counts h1.ordered)
  unfold enterPreserve
  refine CountsOnly.store ⟨h2.wings, h2.mark, h2.free, h2.dirty, h2.ordered, h2.records⟩
    (t := { abandonRound (abortPasses (fun _ => true) .preserve { s with control.mode := .preserve, control.cause := some c }) with
      store.eraseRequested := false }) (notifyAll_store _ _ _)

theorem judgeRetire_counts (ho : Table.Ordered s.store.stripes) : CountsOnly s (judgeRetire s) := by
  unfold judgeRetire; split
  · unfold retireAction; split
    · exact enterPreserve_counts _ ho
    · exact .of_store ho rfl
    · exact .of_store ho rfl
  · exact .of_store ho rfl

/-! ### The erase -/

/-- An erase that has completed ERASED, before the stalled fronts are examined. -/
def erasedState (n : Nat) (s : State) : State :=
  let u : State := { s with store.wings := .split none none, store.dirtyQueue := s.store.dirtyQueue.erase n }
  { (eraseLeaves n u).mapStripe n erasedStripe with store.freeQueue := s.store.freeQueue ++ [n] }

theorem exec_erased {n : Nat} (h : s.store.wings = .both (.erase n)) :
    exec (.stripeEraseComplete true) s = .next (conclude (examineStalled (erasedState n s))) := exec_stripeEraseComplete true h

theorem erasedState_stripe {n : Nat} (ho : Table.Ordered s.store.stripes) :
    (erasedState n s).stripe = Function.update s.stripe n (erasedStripe (s.stripe n)) :=
  stripe_mapStripe (s := eraseLeaves n
    { s with store.wings := .split none none, store.dirtyQueue := s.store.dirtyQueue.erase n }) ho n erasedStripe

theorem erasedState_ordered {n : Nat} (ho : Table.Ordered s.store.stripes) : Table.Ordered (erasedState n s).store.stripes :=
  ordered_mapStripe (s := eraseLeaves n
    { s with store.wings := .split none none, store.dirtyQueue := s.store.dirtyQueue.erase n }) ho n erasedStripe

theorem examineStalled_of_nil (h : s.store.stalled = []) : examineStalled s = s := by
  unfold examineStalled; rw [h]; rfl

theorem examineStalled_of_one {f : Front} (h : s.store.stalled = [f]) :
    examineStalled s = if s.mayOpen f then unstall f (openStripe f s) else s := by
  unfold examineStalled; rw [h]; rfl

/-- A stalled front that may open a stripe takes the free queue's head. -/
theorem unstall_openStripe_head {f : Front} {m : Nat} {rest : List Nat} (hs : s.store.stalled = [f]) (hq : s.store.freeQueue = m :: rest)
    (ho : Table.Ordered s.store.stripes) :
    (unstall f (openStripe f s)).store.stalled = [] ∧ (unstall f (openStripe f s)).store.freeQueue = rest ∧
    (unstall f (openStripe f s)).stripe m = { s.stripe m with
      state := .opened f, written := 0, live := 0, programDay := s.clock.day, retirePending := false } := by
  have e : openStripe f s = ({ s with store.freeQueue := rest } : State).mapStripe m (fun r =>
      { r with state := .opened f, written := 0, live := 0, programDay := s.today, retirePending := false }) := by
    unfold openStripe; simp only [hq]; rfl
  refine ⟨?_, ?_, ?_⟩
  · show (openStripe f s).store.stalled.filter (· != f) = []
    rw [openStripe_stalled, hs]; simp
  · show (openStripe f s).store.freeQueue = rest
    rw [e]; rfl
  · show (openStripe f s).stripe m = _
    rw [e, stripe_mapStripe (s := { s with store.freeQueue := rest }) ho, Function.update_self]
    rfl

/-- Settles O55: with at most one front stalled its examination is one case of `examineStalled_of_one`; the retire condition's judgement
changes live and reader counts alone (`judgeRetire_counts`), and a decision under the guard line starts fetches
(`arbitrate_guarded`). -/
theorem erasesAndTheGuardLine : Obligations.ErasesAndTheGuardLine := by
  intro s
  refine ⟨fun n hw ho => ?_, fun h => ?_, fun h => ?_, fun a b hg hw => (arbitrate_guarded hg).2 ⟨a, b, hw⟩⟩
  · have hst := erasedState_stripe (s := s) (n := n) ho
    have hor : Table.Ordered (erasedState n s).store.stripes := erasedState_ordered ho
    have hn : (erasedState n s).stripe n = erasedStripe (s.stripe n) := by rw [hst, Function.update_self]
    refine ⟨fun hs => ?_, fun hs hq => ?_, fun f hf hs => ⟨fun hlt => ?_, fun m rest hq hle hne => ?_⟩, ?_⟩
    · refine ⟨_, exec_erased hw, ?_⟩
      rw [examineStalled_of_nil (s := erasedState n s) hs]
      exact ⟨rfl, hn, rfl, rfl⟩
    · refine ⟨_, exec_erased hw, ?_⟩
      have hq' : (erasedState n s).store.freeQueue = [n] := by
        show s.store.freeQueue ++ [n] = [n]
        rw [hq]; rfl
      have hmay : (erasedState n s).mayOpen .relocate = true := by unfold State.mayOpen; rw [hq']; rfl
      obtain ⟨h1, h2, h3⟩ := unstall_openStripe_head (s := erasedState n s) hs hq' hor
      rw [examineStalled_of_one (s := erasedState n s) hs, if_pos hmay]
      refine ⟨h1, h2, h3.trans ?_⟩
      rw [hn]; rfl
    · refine ⟨_, exec_erased hw, ?_⟩
      have hmay : (erasedState n s).mayOpen f = false := by
        have hlen : (erasedState n s).store.freeQueue.length = s.store.freeQueue.length + 1 := by
          show (s.store.freeQueue ++ [n]).length = _
          simp
        have : ¬ Config.relocationReserve < (erasedState n s).store.freeQueue.length := by
          rw [hlen]; show ¬ 4 < _; omega
        cases f with
        | relocate => exact absurd rfl hf
        | _ => exact decide_eq_false this
      rw [examineStalled_of_one (s := erasedState n s) hs, if_neg (by rw [hmay]; simp)]
      exact ⟨hs, rfl⟩
    · refine ⟨_, exec_erased hw, ?_⟩
      have hq' : (erasedState n s).store.freeQueue = m :: (rest ++ [n]) := by
        show s.store.freeQueue ++ [n] = _
        rw [hq]; rfl
      have hmay : (erasedState n s).mayOpen f = true := by
        have : Config.relocationReserve < (erasedState n s).store.freeQueue.length := by
          rw [hq', List.length_cons, List.length_append]
          rw [hq, List.length_cons] at hle
          show 4 < _
          simp; omega
        cases f with
        | relocate => exact absurd rfl hf
        | _ => exact decide_eq_true this
      obtain ⟨h1, h2, h3⟩ := unstall_openStripe_head (s := erasedState n s) hs hq' hor
      rw [examineStalled_of_one (s := erasedState n s) hs, if_pos hmay]
      exact ⟨h1, h2, by rw [h3], by rw [h3], by rw [h3]; rfl⟩
    · refine ⟨_, exec_stripeEraseComplete false hw, ?_⟩
      obtain ⟨x, k, hl, -⟩ := loseStripe_flash n
        { s with store.wings := .split none none, store.dirtyQueue := s.store.dirtyQueue.erase n }
      generalize hv : (loseStripe n { s with store.wings := .split none none, store.dirtyQueue := s.store.dirtyQueue.erase n }).mapStripe n
        (fun r => { r with state := .retired }) = v
      have hov : Table.Ordered v.store.stripes := by rw [← hv, hl]; exact ordered_mapStripe (by exact ho) _ _
      have hvn : v.stripe n = { s.stripe n with state := .retired } := by
        rw [← hv, hl, stripe_mapStripe (by exact ho), Function.update_self]; rfl
      have e : eraseFailed n { s with store.wings := .split none none, store.dirtyQueue := s.store.dirtyQueue.erase n }
        = judgeRetire v := by rw [← hv]; rfl
      have hc := judgeRetire_counts hov
      have hrec := hc.records n
      rw [hvn] at hrec
      show (eraseFailed n _).store.wings = _ ∧ _
      simp only [Bool.false_eq_true, if_false]
      rw [e]
      refine ⟨hc.wings ?_, (congrArg Stripe.state hrec :), (congrArg Stripe.eraseCount hrec :), hc.free.trans ?_, hc.dirty.trans ?_⟩
      all_goals rw [← hv, hl]; rfl
  · have e : ∀ b, guardLine b s = conclude { s with store.guardAsserted := b } := fun b => by
      unfold guardLine
      exact if_pos h
    exact ⟨congrArg _ (e true), congrArg _ (e false)⟩
  · have e : ∀ b, guardLine b s = { s with store.guardAsserted := b } := fun b => by
      unfold guardLine
      exact if_neg (by rw [show ({ s with store.guardAsserted := b } : State).working = s.working from rfl, h]; simp)
    exact ⟨congrArg _ (e true), congrArg _ (e false)⟩

end Sys2Proof.Machine
end

section
/-! What the completion of a fetch brings: the verdict on its sheet, its delivery, and the report of a DAMAGED one. -/

namespace Sys2Proof.Machine

variable {s t : State}

/-! ### The verdict -/

theorem sound_iff (k : Key) (version leaf : Nat) (w : Wing) (x : Sheet) : sound k version leaf w x = true ↔
    ∃ g, x.tag = some g ∧ g.key = k.wire ∧ g.version = version ∧ g.leaf = leaf ∧
      g.half = (match w with | .low => 0 | .high => 1) ∧ g.check = crc32 x.body := by
  unfold sound
  cases x.tag with
  | none => simp
  | some g => cases w <;> simp [and_assoc, eq_comm (a := crc32 x.body)]

theorem sound_programmedSheet (op : ProgramOp) (w : Wing) : sound op.key op.version op.leaf w (programmedSheet op w) = true := by
  rw [sound_iff]
  cases w <;> exact ⟨_, rfl, rfl, rfl, rfl, rfl, rfl⟩

/-! ### Notices and damage -/

/-- The kinds pending after a kind is set pending for several ports. -/
theorem notifyAll_pending_get (n : Notice) (ps : List Port) (q : Port) (s : State) :
    ((notifyAll n ps s).notices.get q).pending
      = if q ∈ ps then (s.notices.get q).pending ||| noticeBit n else (s.notices.get q).pending := by
  unfold notifyAll
  induction ps generalizing s with
  | nil => rfl
  | cons p ps ih =>
    rw [List.foldl_cons, ih, notify_pending_get]
    by_cases hp : q = p <;> by_cases hq : q ∈ ps <;> simp [hp, hq, BitVec.or_assoc]

theorem bits_or_left {n : Nat} {x y b : BitVec n} (h : x &&& b = b) : (x ||| y) &&& b = b := by
  ext i hi
  have hi' := congrArg (fun z => z[i]) h
  simp only [BitVec.getElem_and, BitVec.getElem_or] at hi' ⊢
  cases hb : b[i] <;> simp_all

theorem bits_or_right {n : Nat} {x y b : BitVec n} (h : y &&& b = b) : (x ||| y) &&& b = b := by
  rw [BitVec.or_comm]; exact bits_or_left h

/-- A kind set pending for several ports is pending for each of them. -/
theorem notifyAll_pending {n : Notice} {ps : List Port} {q : Port} (hq : q ∈ ps) :
    ((notifyAll n ps s).notices.get q).pending &&& noticeBit n = noticeBit n := by
  rw [notifyAll_pending_get, if_pos hq]
  exact bits_or_right BitVec.and_self

theorem notifyAll_streams (n : Notice) (ps : List Port) (s : State) : (notifyAll n ps s).streams = s.streams :=
  List.foldlRecOn (motive := fun t : State => t.streams = s.streams) _ _ rfl (fun _ h _ _ => h)

theorem notifyAll_control (n : Notice) (ps : List Port) (s : State) : (notifyAll n ps s).control = s.control :=
  List.foldlRecOn (motive := fun t : State => t.control = s.control) _ _ rfl (fun _ h _ _ => h)

theorem notifyAll_catalog (n : Notice) (ps : List Port) (s : State) : (notifyAll n ps s).catalog = s.catalog :=
  List.foldlRecOn (motive := fun t : State => t.catalog = s.catalog) _ _ rfl (fun _ h _ _ => h)

theorem damageAction_flag (h : s.control.settings.damageAction = .flag) : damageAction s = s := by
  unfold damageAction; rw [h]

theorem held_of_catalog (h : t.catalog = s.catalog) (k : Key) (number serial : Nat) : t.held k number serial = s.held k number serial := by
  unfold State.held State.object; rw [h]

/-- The version a damage report marks is found DAMAGED. -/
theorem held_putObject_mapVersion {k : Key} {number serial : Nat} {o : Object} {v : Version} (ho : s.object k = some o) (hk : o.key = k)
    (hv : s.held k number serial = some v) :
    (s.putObject (mapVersion number serial (fun v => { v with damaged := true }) o)).held k number serial
      = some { v with damaged := true } := by
  have hf : o.versions.find? (fun v => v.number == number && v.serial == serial) = some v := by
    unfold State.held at hv; rwa [ho] at hv
  have hobj : (s.putObject (mapVersion number serial (fun v => { v with damaged := true }) o)).object k
      = some (mapVersion number serial (fun v => { v with damaged := true }) o) := by
    unfold State.object State.putObject
    rw [show (mapVersion number serial (fun v => { v with damaged := true }) o).key = k from hk]
    exact tget_tput_self _ _ _
  have hkeep : (fun v : Version => v.number == number && v.serial == serial)
      ∘ (fun v => if v.number = number ∧ v.serial = serial then { v with damaged := true } else v)
      = fun v => v.number == number && v.serial == serial := by
    funext v
    by_cases h : v.number = number ∧ v.serial = serial <;> simp [h]
  have hm := List.find?_some hf
  unfold State.held
  rw [hobj]
  show List.find? _ (o.versions.map _) = _
  rw [List.find?_map, hkeep, hf, Option.map_some, if_pos (by simpa using hm)]

/-- A report of a GOOD version's damage marks it and sets DAMAGE_FOUND pending. -/
theorem markDamaged_eq {k : Key} {number serial : Nat} {o : Object} {v : Version} (ho : s.object k = some o)
    (hv : s.held k number serial = some v) (hg : v.damaged = false) : markDamaged k number serial s
      = some (notifyAll .damageFound deskAndBench
          (s.putObject (mapVersion number serial (fun v => { v with damaged := true }) o))) := by
  unfold markDamaged
  simp [ho, hv, hg]

/-! ### The end of a stream -/

theorem readersFall_store (es : List Extent) (s : State) : ∃ x : Store, readersFall es s = { s with store := x } :=
  List.foldlRecOn (motive := fun t : State => ∃ x : Store, t = { s with store := x }) _ _ ⟨s.store, rfl⟩
    (fun _ h _ _ => by obtain ⟨x, rfl⟩ := h; exact ⟨_, rfl⟩)

/-- A stream ended with a final status leaves its queue and waits among the ended ones; of the rest the store alone changes. -/
theorem endStream_some (p : Port) (st : Stream) (kind : StreamKind) (f : Status) (s : State) :
    ∃ x : Store, endStream p st kind (some f) s = ({ s with store := x } : State).putPortStreams p
      { queue := (s.portStreams p).queue.filter (fun x => x.id != st.id),
        ended := (s.portStreams p).ended
          ++ [{ st with kind := kind, send := none, ahead := none, fetch := .none, final := some f }] } := by
  have hd : ∃ y : Store, (if st.fetch = .inFlight then detachFetcher (.stream p) s else s) = { s with store := y } := by
    split
    · obtain ⟨w, hw, -⟩ := detachFetcher_wings (.stream p) s
      exact ⟨_, hw⟩
    · exact ⟨s.store, rfl⟩
  obtain ⟨y, hy⟩ := hd
  obtain ⟨x, hx⟩ := readersFall_store st.snapshot { s with store := y }
  refine ⟨x, ?_⟩
  unfold endStream
  simp only
  rw [hy, hx]
  rfl

/-! ### The completion -/

/-- The state that a completed fetch leaves, its wing idle. -/
def fetchIdle (w : Wing) (other : Option FetchOp) (s : State) : State :=
  { s with store.wings := match w with | .low => .split none other | .high => .split other none }

theorem exec_sheetFetchComplete {w : Wing} {op : FetchOp} {other : Option FetchOp} (delivered : Option Sheet)
    (h : s.store.wings = (match w with | .low => Wings.split (some op) other | .high => Wings.split other (some op))) :
    exec (.sheetFetchComplete w delivered) s = .next (conclude (fetchDone w delivered op (fetchIdle w other s))) := by
  have ht : takeFetch w s = some (op, fetchIdle w other s) := by
    unfold takeFetch
    cases w with
    | low => rw [h]; rfl
    | high => rw [h]; cases other <;> rfl
  show Host.Outcome.next _ = _
  rw [ht]

theorem fetchDone_eq (w : Wing) (delivered : Option Sheet) (op : FetchOp) (s : State) :
    fetchDone w delivered op s = if sound op.key op.version op.leaf w (delivered.getD (s.sheetAt op.stripe op.place w))
      then soundFetch op w (delivered.getD (s.sheetAt op.stripe op.place w)).body s else damagedFetch op s := rfl

theorem mapActive_cons {p : Port} {st : Stream} {rest : List Stream} (g : Stream → Stream) (h : (s.streams.ports.get p).queue = st :: rest) :
    mapActive p g s = s.putPortStreams p ⟨g st :: rest, (s.streams.ports.get p).ended⟩ := by
  unfold mapActive State.portStreams
  simp only [h]

theorem takeSheet_none {sheet : Nat} {body : List Octet} {st : Stream} (h : st.send = none) :
    takeSheet sheet body st = { st with send := some ⟨sheet, body⟩, fetch := .none } := by
  unfold takeSheet; rw [h]

theorem takeSheet_some {sheet : Nat} {body : List Octet} {st : Stream} (h : st.send ≠ none) :
    takeSheet sheet body st = { st with ahead := some ⟨sheet, body⟩, fetch := .none } := by
  unfold takeSheet
  cases hs : st.send with
  | none => exact absurd hs h
  | some b => rfl

/-- What the fetch of a READ that brings a DAMAGED sheet leaves. -/
theorem damagedFetch_read {p : Port} {op : FetchOp} {st : Stream} {rest : List Stream} {o : Object} {v : Version}
    (hop : op.owner = .stream p) (hq : (s.streams.ports.get p).queue = st :: rest) (hid : ∀ y ∈ rest, y.id ≠ st.id)
    (hread : st.kind = .read) (ho : s.object st.key = some o) (hk : o.key = st.key)
    (hv : s.held st.key st.version st.serial = some v) (hg : v.damaged = false) (hflag : s.control.settings.damageAction = .flag) :
    (damagedFetch op s).held st.key st.version st.serial = some { v with damaged := true } ∧
    ((damagedFetch op s).streams.ports.get p).queue = rest ∧
    ((damagedFetch op s).streams.ports.get p).ended = (s.streams.ports.get p).ended
      ++ [{ st with kind := .read, send := none, ahead := none, fetch := .none, final := some .damaged }] ∧
    ∀ q ∈ deskAndBench, ((damagedFetch op s).notices.get q).pending &&& noticeBit .damageFound = noticeBit .damageFound := by
  generalize hu : notifyAll .damageFound deskAndBench
    (s.putObject (mapVersion st.version st.serial (fun v => { v with damaged := true }) o)) = u
  have hust : u.streams = s.streams := by rw [← hu, notifyAll_streams]; rfl
  obtain ⟨x, hx⟩ := endStream_some p st .read .damaged u
  have hcut : cutStream p st .damaged .damaged u = endStream p st .read (some .damaged) u := by unfold cutStream; rw [hread]
  have hact : s.active p = some st := by unfold State.active State.portStreams; rw [hq]; rfl
  have he : damagedFetch op s = endStream p st .read (some .damaged) u := by
    unfold damagedFetch
    simp only [hop, hact]
    unfold reportDamage
    rw [markDamaged_eq ho hv hg, hu]
    show damageAction (cutStream p st .damaged .damaged u) = _
    rw [hcut, damageAction_flag]
    rw [hx]
    show u.control.settings.damageAction = _
    rw [← hu, notifyAll_control]
    exact hflag
  have hps : u.portStreams p = s.streams.ports.get p := by unfold State.portStreams; rw [hust]
  have hfil : (st :: rest).filter (fun x => x.id != st.id) = rest := by
    rw [List.filter_cons_of_neg (by simp)]
    exact List.filter_eq_self.mpr (fun y hy => by simpa using hid y hy)
  rw [he, hx, hps, hq, hfil]
  refine ⟨?_, ?_, ?_, fun q hq => ?_⟩
  · have hcat : u.catalog = (s.putObject (mapVersion st.version st.serial (fun v => { v with damaged := true }) o)).catalog := by
      rw [← hu, notifyAll_catalog]
    exact (held_of_catalog hcat _ _ _).trans (held_putObject_mapVersion ho hk hv)
  · simp [State.putPortStreams]
  · simp [State.putPortStreams]
  · show (u.notices.get q).pending &&& _ = _
    rw [← hu]
    exact notifyAll_pending hq

/-- Settles O52, by the owner of the fetch and the verdict on its sheet. -/
theorem fetchesBringSoundSheets : Obligations.FetchesBringSoundSheets := by
  refine ⟨sound_iff, sound_programmedSheet, fun s w op other delivered hw => ?_⟩
  intro idle x verdict sheet
  have he := exec_sheetFetchComplete delivered hw
  have hx : delivered.getD ((fetchIdle w other s).sheetAt op.stripe op.place w) = x := rfl
  rw [fetchDone_eq, hx] at he
  refine ⟨fun hc => ?_, fun p st rest hop hgood hq => ?_, fun p st rest o v hop hbad hq hid hread ho hk hv hg hflag => ?_⟩
  · have hsame : (if sound op.key op.version op.leaf w x then soundFetch op w x.body (fetchIdle w other s)
        else damagedFetch op (fetchIdle w other s)) = idle := by
      unfold soundFetch damagedFetch
      simp only [hc, ite_self]
      rfl
    rw [he, hsame]
  · refine ⟨takeSheet sheet x.body st, ?_, takeSheet_none, takeSheet_some⟩
    have hmap : soundFetch op w x.body (fetchIdle w other s) = mapActive p (takeSheet sheet x.body) idle := by
      unfold soundFetch
      simp only [hop]
      rfl
    rw [he, if_pos hgood, hmap, mapActive_cons _ (s := idle) hq]
  · obtain ⟨hheld, hqueue, hended, hnote⟩ :=
      damagedFetch_read (s := fetchIdle w other s) hop hq hid hread ho hk hv hg hflag
    refine ⟨_, _, ?_, hheld, hqueue, hended, rfl, rfl, rfl, hnote⟩
    rw [he, if_neg (by rw [show sound op.key op.version op.leaf w x = false from hbad]; simp)]

end Sys2Proof.Machine
end

section
/-! What recovery leaves of the store, the catalog and the ledger. -/

namespace Sys2Proof.Machine

variable {s t u : State}

/-! ### The store -/

/-- A stripe's record once the store is recovered, the marked leaf counted. -/
def restoredStripe (marked : Bool) (r : Stripe) : Stripe :=
  { recoveredStripe r with written := r.written + if marked then 1 else 0 }

theorem recoverStore_ordered (ho : Table.Ordered s.store.stripes) : Table.Ordered (recoverStore s).store.stripes := by
  have h := (canonical_tmapD Stripe.formatted recoveredStripe ho).1
  unfold recoverStore; simp only; split
  · exact h
  · rename_i n i _
    exact ordered_mapStripe (s := { s with store.stripes := tmapD Stripe.formatted recoveredStripe s.store.stripes }) h n
      (fun r => { r with written := r.written + 1 })

theorem recoverStore_stripe (ho : Table.Ordered s.store.stripes) (n : Nat) :
    (recoverStore s).stripe n = restoredStripe (decide (s.store.mark.map (·.1) = some n)) (s.stripe n) := by
  have e := stripe_mapStripes ho (g := recoveredStripe) rfl
  unfold recoverStore; simp only
  cases hm : s.store.mark with
  | none => exact e n
  | some x =>
    obtain ⟨m, i⟩ := x
    have h := congrFun (stripe_mapStripe (s := { s with store.stripes := tmapD Stripe.formatted recoveredStripe s.store.stripes })
      (canonical_tmapD Stripe.formatted recoveredStripe ho).1 m (fun r => { r with written := r.written + 1 })) n
    refine h.trans ?_
    rw [Function.update_apply, e n]
    by_cases hn : n = m
    · subst hn; rw [if_pos rfl, e n]; simp [restoredStripe, recoveredStripe]
    · rw [if_neg hn]; simp [restoredStripe, recoveredStripe, Ne.symm hn]

/-! ### The editions -/

/-- A CLOSING edition once it is recovered at a stamp (R46). -/
def closedEdition (now : Stamp) (e : Edition) : Edition :=
  if e.outstanding = 0 then
    { e with state := .published, published := some now, release := if e.origin = .historical then some now else e.release }
  else { e with state := .opened, release := none, outstanding := 0 }

/-- An edition once it is recovered at a stamp (R46). -/
def recoveredEdition (now : Stamp) (e : Edition) : Edition := if e.state = .closing then closedEdition now e else e

theorem recoveredEdition_not_closing (now : Stamp) (e : Edition) : (recoveredEdition now e).state ≠ .closing := by
  unfold recoveredEdition closedEdition
  split
  · split <;> simp
  · assumption

theorem publish_eq {h : Nat} {e : Edition} (he : s.edition h = some e) :
    publish h s = notifyAll .editionPublished allPorts (s.putEdition h
      { e with state := .published, published := some s.now, release := if e.origin = .historical then some s.now else e.release }) := by
  unfold publish; rw [he]
  cases ho : e.origin <;> simp [ho]

/-- What the recovery of one edition writes. -/
theorem recoverEdition_eq {h : Nat} {e : Edition} (he : s.edition h = some e) :
    ∃ nts, recoverEdition h e s = if e.state = .closing
      then { s.putEdition h (closedEdition s.now e) with notices := nts } else s := by
  unfold recoverEdition
  cases hs : e.state with
  | closing =>
    simp only [if_true]
    by_cases ho : e.outstanding = 0
    · have hc : closedEdition s.now e = _ := if_pos ho
      refine ⟨(notifyAll .editionPublished allPorts (s.putEdition h (closedEdition s.now e))).notices, ?_⟩
      rw [if_pos ho, publish_eq he, ← hc]
      rfl
    · have hc : closedEdition s.now e = _ := if_neg ho
      refine ⟨s.notices, ?_⟩
      rw [if_neg ho, hc]
      unfold returnToOpen
      rw [he]
      exact if_pos hs
  | _ => exact ⟨s.notices, by simp⟩

/-- Recovery of the catalog writes editions and notices alone. -/
structure EditionsOnly (s t : State) : Prop where
  rest : ∃ x y, t = { s with catalog.editions := x, notices := y }
  ordered : Table.Ordered s.catalog.editions → Table.Ordered t.catalog.editions

theorem EditionsOnly.refl : EditionsOnly s s := ⟨⟨_, _, rfl⟩, id⟩

theorem EditionsOnly.trans (h : EditionsOnly s t) (k : EditionsOnly t u) : EditionsOnly s u := by
  obtain ⟨⟨x, y, rfl⟩, h2⟩ := h
  obtain ⟨⟨x', y', rfl⟩, k2⟩ := k
  exact ⟨⟨x', y', rfl⟩, fun o => k2 (h2 o)⟩

theorem recoverEdition_editionsOnly {h : Nat} {e : Edition} (he : s.edition h = some e) : EditionsOnly s (recoverEdition h e s) := by
  obtain ⟨nts, hr⟩ := recoverEdition_eq he
  rw [hr]; split
  · exact ⟨⟨_, _, rfl⟩, fun o => ordered_tput o _ _⟩
  · exact .refl

theorem recoverEdition_edition {h : Nat} {e : Edition} (he : s.edition h = some e) (j : Nat) :
    (recoverEdition h e s).edition j = if j = h then some (recoveredEdition s.now e) else s.edition j := by
  obtain ⟨nts, hr⟩ := recoverEdition_eq he
  rw [hr]
  unfold recoveredEdition
  by_cases hc : e.state = .closing
  · rw [if_pos hc, if_pos hc]
    by_cases hj : j = h
    · subst hj; rw [if_pos rfl]; exact edition_putEdition_self s j _
    · rw [if_neg hj]; exact edition_putEdition_ne s h j _ hj
  · rw [if_neg hc, if_neg hc]
    split
    · rename_i hj; exact hj ▸ he
    · rfl

/-- Recovery of a list of editions, each as the state holds it. -/
theorem recoverEditions_fold (l : Table Edition) (hl : Table.Ordered l) (hs : ∀ x ∈ l, s.edition x.1 = some x.2) :
    EditionsOnly s (l.foldl (fun s e => recoverEdition e.1 e.2 s) s) ∧
    ∀ j, (l.foldl (fun s e => recoverEdition e.1 e.2 s) s).edition j
      = ((tget l j).map (recoveredEdition s.now)).or (s.edition j) := by
  induction l generalizing s with
  | nil => exact ⟨.refl, fun j => rfl⟩
  | cons x l ih =>
    obtain ⟨hlt, hord⟩ := ordered_cons.1 hl
    have hx := hs x List.mem_cons_self
    have hone := recoverEdition_editionsOnly hx
    have hlook := recoverEdition_edition hx
    have hnow : (recoverEdition x.1 x.2 s).now = s.now := by
      obtain ⟨⟨a, b, h⟩, -⟩ := hone
      rw [h]; rfl
    have ih := ih hord (s := recoverEdition x.1 x.2 s) (fun y hy => by
      rw [hlook, if_neg (Nat.ne_of_gt (hlt y hy))]
      exact hs y (List.mem_cons_of_mem _ hy))
    refine ⟨hone.trans ih.1, fun j => ?_⟩
    rw [List.foldl_cons, ih.2 j, hnow, hlook]
    by_cases hj : j = x.1
    · subst hj
      rw [tget_none_of_lt hlt]
      simp [tget]
    · simp [tget, hj, Ne.symm hj]

theorem recoverCatalog_editionsOnly (ho : Table.Ordered s.catalog.editions) : EditionsOnly s (recoverCatalog s) :=
  (recoverEditions_fold _ ho fun _ hx => tget_of_mem ho hx).1

theorem recoverCatalog_edition (ho : Table.Ordered s.catalog.editions) (j : Nat) :
    (recoverCatalog s).edition j = (s.edition j).map (recoveredEdition s.now) := by
  refine ((recoverEditions_fold _ ho fun _ hx => tget_of_mem ho hx).2 j).trans ?_
  show ((s.edition j).map _).or (s.edition j) = _
  cases s.edition j <;> rfl

/-! ### The leaves that cease to be live -/

/-- The live count of a stripe after extents have died; it stops at 0. -/
theorem extentsDie_stripe (es : List Extent) (ho : Table.Ordered s.store.stripes) (n : Nat) :
    (extentsDie es s).stripe n
      = { s.stripe n with live := (s.stripe n).live - leavesIn (es.filter (fun e => e.stripe == n)) } := by
  unfold extentsDie
  induction es generalizing s with
  | nil => rfl
  | cons e es ih =>
    rw [List.foldl_cons, ih (s := liveFalls e.stripe e.count s) (ordered_mapStripe ho _ _)]
    have hs := congrFun (stripe_mapStripe ho e.stripe (fun r => { r with live := r.live - e.count })) n
    rw [show (liveFalls e.stripe e.count s).stripe n = _ from hs, Function.update_apply]
    by_cases hn : n = e.stripe
    · subst hn
      simp [leavesIn, Nat.sub_sub]
    · rw [if_neg hn, List.filter_cons_of_neg (by simpa using Ne.symm hn)]

/-- A change of the stripe table alone. -/
structure StripesOnly (s t : State) : Prop where
  rest : ∃ x, t = { s with store.stripes := x }
  ordered : Table.Ordered s.store.stripes → Table.Ordered t.store.stripes

theorem StripesOnly.refl : StripesOnly s s := ⟨⟨_, rfl⟩, id⟩

theorem StripesOnly.trans (h : StripesOnly s t) (k : StripesOnly t u) : StripesOnly s u := by
  obtain ⟨⟨x, rfl⟩, h2⟩ := h
  obtain ⟨⟨x', rfl⟩, k2⟩ := k
  exact ⟨⟨x', rfl⟩, fun o => k2 (h2 o)⟩

theorem extentsDie_stripesOnly (es : List Extent) (s : State) : StripesOnly s (extentsDie es s) := by
  unfold extentsDie
  induction es generalizing s with
  | nil => exact .refl
  | cons e es ih =>
    have h : StripesOnly s (liveFalls e.stripe e.count s) := ⟨⟨_, rfl⟩, fun o => ordered_mapStripe o _ _⟩
    exact h.trans (ih _)

/-- The extents of the records that start-up discards die as one list. -/
theorem recoverOutputs_eq (s : State) : recoverOutputs s =
    { extentsDie (s.intake.provisional.flatMap (·.2) ++ s.passes.output) s with intake.provisional := [], passes.output := [] } := by
  have hfold : s.intake.provisional.foldl (fun s e => extentsDie e.2 s) s = extentsDie (s.intake.provisional.flatMap (·.2)) s := by
    unfold extentsDie
    rw [List.foldl_flatMap]
  obtain ⟨⟨x, hx⟩, -⟩ := extentsDie_stripesOnly (s.intake.provisional.flatMap (·.2)) s
  have hout : (extentsDie (s.intake.provisional.flatMap (·.2)) s).passes.output = s.passes.output := by rw [hx]
  unfold recoverOutputs
  simp only
  rw [hfold, hout]
  unfold extentsDie
  rw [List.foldl_append]

/-! ### The stripes that leave FULL -/

theorem judgeRetire_start (h : s.control.mode = .start) : judgeRetire s = s := by
  unfold judgeRetire retireAction
  rw [h]
  split
  · split <;> simp_all
  · rfl

/-- FULL stripes become DIRTY or RETIRED, and join the dirty queue behind the entries that stood in it. -/
structure LeftFull (kept : Nat) (s t : State) : Prop where
  rest : ∃ x q, t = { s with store.stripes := x, store.dirtyQueue := q }
  queue : ∀ before joined, before.length = kept → s.store.dirtyQueue = before ++ joined →
    ∃ joined', t.store.dirtyQueue = before ++ joined'
  ordered : Table.Ordered t.store.stripes
  records : ∀ n, { t.stripe n with state := (s.stripe n).state } = s.stripe n
  closed : ∀ n f, (t.stripe n).state = .opened f → (s.stripe n).state = .opened f

variable {kept : Nat}

theorem LeftFull.refl (ho : Table.Ordered s.store.stripes) : LeftFull kept s s :=
  ⟨⟨_, _, rfl⟩, fun _ j _ h => ⟨j, h⟩, ho, fun _ => rfl, fun _ _ h => h⟩

theorem LeftFull.trans (h : LeftFull kept s t) (k : LeftFull kept t u) : LeftFull kept s u := by
  refine ⟨?_, fun b j hb hj => ?_, k.ordered, fun n => ?_, fun n f e => h.closed n f (k.closed n f e)⟩
  · obtain ⟨x, q, hx⟩ := h.rest
    obtain ⟨x', q', hx'⟩ := k.rest
    exact ⟨x', q', by rw [hx', hx]⟩
  · obtain ⟨j', hj'⟩ := h.queue b j hb hj
    exact k.queue b j' hb hj'
  · rw [← h.records n, ← k.records n]

/-- One stripe's state changed to one that is not OPEN. -/
theorem leftFull_mapStripe (ho : Table.Ordered s.store.stripes) (n : Nat) {st : StripeState} (hst : ∀ f, st ≠ .opened f) :
    LeftFull kept s (s.mapStripe n (fun r => { r with state := st })) := by
  have e := stripe_mapStripe ho n (fun r => { r with state := st })
  refine ⟨⟨_, _, rfl⟩, fun _ j _ h => ⟨j, h⟩, ordered_mapStripe ho _ _, fun m => ?_, fun m f h => ?_⟩
  · rw [e, Function.update_apply]; split
    · rename_i hm; subst hm; rfl
    · rfl
  · rw [e, Function.update_apply] at h
    split at h
    · exact absurd h (hst f)
    · exact h

theorem leaveFullOne_leftFull (hm : s.control.mode = .start) (ho : Table.Ordered s.store.stripes) (n : Nat) :
    LeftFull kept s (leaveFullOne kept n s) := by
  unfold leaveFullOne; split
  · unfold retireStripe
    rw [judgeRetire_start (by exact hm)]
    exact leftFull_mapStripe ho n nofun
  · have h := leftFull_mapStripe (kept := kept) ho n (st := .dirty) nofun
    refine h.trans ⟨⟨_, _, rfl⟩, fun b j hb hj => ?_, h.ordered, fun _ => rfl, fun _ _ h => h⟩
    show ∃ j', joinDirty kept n s.store.dirtyQueue = _
    have hj : s.store.dirtyQueue = b ++ j := hj
    rw [hj, ← hb]
    unfold joinDirty
    rw [List.take_left, List.append_assoc]
    exact ⟨_, rfl⟩

theorem leaveFullLoop_leftFull (k : Nat) (hm : s.control.mode = .start) (ho : Table.Ordered s.store.stripes) :
    LeftFull kept s (leaveFullLoop kept k s) := by
  induction k generalizing s with
  | zero => exact .refl ho
  | succ k ih =>
    unfold leaveFullLoop; split
    · exact .refl ho
    · rename_i n _
      have h := leaveFullOne_leftFull (kept := kept) hm ho n
      refine h.trans (ih ?_ h.ordered)
      obtain ⟨x, q, e⟩ := h.rest
      rw [e]; exact hm

/-! ### Recovery -/

/-- A stripe's record once it is recovered and the leaves of the discarded records have died. -/
def State.restored (s : State) (n : Nat) : Stripe :=
  { restoredStripe (decide (s.store.mark.map (·.1) = some n)) (s.stripe n) with
    live := (s.stripe n).live - leavesIn ((s.intake.provisional.flatMap (·.2) ++ s.passes.output).filter (fun e => e.stripe == n)) }

/-- What recovery leaves before the FULL stripes leave FULL. -/
structure TablesRecovered (s t : State) : Prop where
  rest : ∃ stripes editions accounts notices, t = { s with
    store.stripes := stripes, store.mark := none, catalog.editions := editions, intake.provisional := [], passes.output := [],
    ledger.accounts := accounts, notices := notices }
  ordered : Table.Ordered t.store.stripes
  stripe : ∀ n, t.stripe n = s.restored n
  edition : ∀ j, t.edition j = (s.edition j).map (recoveredEdition s.now)
  editions : Table.Ordered t.catalog.editions
  account : ∀ id, t.account id = { s.account id with held := 0 }

theorem tablesRecovered (ho : Table.Ordered s.store.stripes) (ha : Table.Ordered s.ledger.accounts)
    (he : Table.Ordered s.catalog.editions) : TablesRecovered s (clearHeld (recoverOutputs (recoverCatalog (recoverStore s)))) := by
  have hstripe := recoverStore_stripe ho
  have hord := recoverStore_ordered ho
  obtain ⟨x, hrest⟩ := recoverStore_rest s
  generalize recoverStore s = s1 at *
  have he1 : Table.Ordered s1.catalog.editions := by rw [hrest]; exact he
  have hedition := recoverCatalog_edition he1
  obtain ⟨⟨y, nts, hcat⟩, heditions⟩ := recoverCatalog_editionsOnly he1
  generalize recoverCatalog s1 = s2 at *
  have hlist : s2.intake.provisional.flatMap (·.2) ++ s2.passes.output = s.intake.provisional.flatMap (·.2) ++ s.passes.output := by
    rw [hcat, hrest]
  have hord2 : Table.Ordered s2.store.stripes := by rw [hcat]; exact hord
  have hdie := extentsDie_stripe (s.intake.provisional.flatMap (·.2) ++ s.passes.output) hord2
  obtain ⟨⟨z, hz⟩, hord3⟩ := extentsDie_stripesOnly (s.intake.provisional.flatMap (·.2) ++ s.passes.output) s2
  have hout := recoverOutputs_eq s2
  rw [hlist] at hout
  generalize extentsDie (s.intake.provisional.flatMap (·.2) ++ s.passes.output) s2 = s3 at *
  rw [hout]
  refine ⟨⟨z, y, tmapD Account.formatted (fun a => { a with held := 0 }) s.ledger.accounts, nts, ?_⟩, hord3 hord2, fun n => ?_, fun j => ?_, ?_, fun id => ?_⟩
  · rw [hz, hcat, hrest]; rfl
  · refine (hdie n).trans ?_
    rw [show s2.stripe n = s1.stripe n by rw [hcat]; rfl, hstripe]
    rfl
  · have hs3 : (clearHeld { s3 with intake.provisional := [], passes.output := [] }).edition j = s2.edition j := by rw [hz]; rfl
    rw [hs3, hedition, hrest]; rfl
  · have hs3 : (clearHeld { s3 with intake.provisional := [], passes.output := [] }).catalog = s2.catalog := by rw [hz]; rfl
    rw [hs3]; exact heditions he1
  · have hs3 : s3.ledger = s.ledger := by rw [hz, hcat, hrest]
    unfold clearHeld State.account
    simp only [hs3]
    exact tgetD_tmapD ha rfl id

/-- What recovery leaves, for a part in START. -/
structure Recovered (s t : State) : Prop where
  rest : ∃ stripes dirty editions accounts notices, t = { s with
    store.stripes := stripes, store.mark := none, store.dirtyQueue := dirty, catalog.editions := editions, intake.provisional := [],
    passes.output := [], ledger.accounts := accounts, notices := notices }
  dirty : ∃ joined, t.store.dirtyQueue = s.store.dirtyQueue ++ joined
  stripe : ∀ n, { t.stripe n with state := (s.restored n).state } = s.restored n
  closed : ∀ n f, (t.stripe n).state ≠ .opened f
  edition : ∀ j, t.edition j = (s.edition j).map (recoveredEdition s.now)
  editions : Table.Ordered t.catalog.editions
  account : ∀ id, t.account id = { s.account id with held := 0 }

theorem TablesRecovered.leaveFull (h : TablesRecovered s t) (hm : s.control.mode = .start) :
    Recovered s (leaveFull s.store.dirtyQueue.length t) := by
  obtain ⟨x, y, acc, nts, hrest⟩ := h.rest
  have hleft : LeftFull s.store.dirtyQueue.length t (Machine.leaveFull s.store.dirtyQueue.length t) :=
    leaveFullLoop_leftFull _ (by rw [hrest]; exact hm) h.ordered
  have hqueue := hleft.queue s.store.dirtyQueue [] rfl (by rw [hrest, List.append_nil])
  obtain ⟨z, q, hz⟩ := hleft.rest
  have hrecords := hleft.records
  have hclosed := hleft.closed
  generalize Machine.leaveFull s.store.dirtyQueue.length t = u at *
  refine ⟨⟨z, q, y, acc, nts, by rw [hz, hrest]⟩, hqueue, fun n => ?_, fun n f hf => ?_, fun j => ?_, ?_, fun id => ?_⟩
  · rw [← h.stripe n]; exact hrecords n
  · have := hclosed n f hf
    rw [h.stripe n] at this
    exact recoveredStripe_not_opened f this
  · rw [← h.edition j, hz]; rfl
  · rw [hz]; exact h.editions
  · rw [← h.account id, hz]; rfl

theorem recover_recovered (hm : s.control.mode = .start) (ho : Table.Ordered s.store.stripes) (ha : Table.Ordered s.ledger.accounts)
    (he : Table.Ordered s.catalog.editions) : Recovered s (recover s) := (tablesRecovered ho ha he).leaveFull hm

end Sys2Proof.Machine
end

section
/-! Power loss, the reset line, and the end of start-up. -/

namespace Sys2Proof.Machine

variable {s t u : State}

/-! ### Supply -/

theorem loseVolatile_stripe (ho : Table.Ordered s.store.stripes) (n : Nat) :
    (loseVolatile s).stripe n = { s.stripe n with readers := 0 } := by
  obtain ⟨x, k, h, -⟩ := cutOperation_flash s
  unfold loseVolatile
  rw [h]
  exact tgetD_tmapD (g := fun r : Stripe => { r with readers := 0 }) ho rfl n

theorem exec_powerLoss (h : s.control.powered = true) :
    exec .powerLoss s = .next { loseVolatile s with control.powered := false } := congrArg _ (if_pos h)

theorem exec_resetLineAsserted (h : s.control.resetLine = false) :
    exec .resetLineAsserted s = .next { loseVolatile s with control.resetLine := true } :=
  congrArg _ (if_neg (by rw [h]; simp))

theorem exec_powerApplied (hp : s.control.powered = false) (hr : s.control.resetLine = false) :
    exec .powerApplied s = .next (startUp .power { s with control.powered := true }) :=
  congrArg _ ((if_neg (by rw [hp]; simp)).trans (if_neg (by simp [hr])))

theorem exec_resetLineReleased (hp : s.control.powered = true) (hr : s.control.resetLine = true) :
    exec .resetLineReleased s = .next (startUp .resetLine { s with control.resetLine := false }) :=
  congrArg _ ((if_pos hr).trans (if_pos hp))

theorem exec_startUpEnd (hr : s.running = true) (hm : s.control.mode = .start) :
    exec .startUpEnd s = .next (conclude (leaveStart (holdConditions (recoverOrFormat s)))) :=
  congrArg _ (if_pos (by rw [hr, hm]; rfl))

/-! ### The end of START -/

/-- The mode in which a part leaves START (R175 step 5). -/
def State.leavingMode (s : State) : Mode :=
  if s.control.settings.retireLimit ≤ s.retiredTotal ∧ s.control.settings.retireAction = .preserve then .preserve else .normal

theorem notifyAll_rest (n : Notice) (ps : List Port) (s : State) : ∃ nts, notifyAll n ps s = { s with notices := nts } :=
  List.foldlRecOn (motive := fun t : State => ∃ nts, t = { s with notices := nts }) _ _ ⟨s.notices, rfl⟩
    (fun _ h _ _ => by obtain ⟨x, rfl⟩ := h; exact ⟨_, rfl⟩)

/-- The end of START writes the notices and the mode with its cause alone. -/
theorem leaveStart_rest (s : State) : ∃ nts cause, leaveStart s
    = { s with notices := nts, control.mode := s.leavingMode, control.cause := cause } := by
  have hmode : (if s.retireCondition && s.control.settings.retireAction == .preserve then Mode.preserve else .normal) = s.leavingMode := by
    unfold State.retireCondition State.leavingMode
    simp
  unfold leaveStart
  simp only
  rw [hmode]
  obtain ⟨nts, h⟩ := notifyAll_rest .modeChanged allPorts { s with
    control.mode := s.leavingMode
    control.cause := if (s.retireCondition && s.control.settings.retireAction == .preserve) = true then some .retire else none }
  exact ⟨nts, _, h⟩

theorem leaveStart_eq (s : State) : ∃ nts cause, leaveStart (holdConditions s)
    = { s with notices := nts, control.mode := s.leavingMode, control.cause := cause } :=
  leaveStart_rest (holdConditions s)

theorem holdConditions_pending (s : State) (q : Port) :
    ((holdConditions s).notices.get q).pending = (s.notices.get q).pending ||| s.standing q := by
  cases q <;> rfl

theorem standing_clockLate (h : s.clock.confirmed = false) (q : Port) :
    s.standing q &&& noticeBit .clockLate = noticeBit .clockLate := by
  have hc : s.clockLate = true := by unfold State.clockLate; rw [h]; simp
  have hb : bitIf s.clockLate .clockLate &&& noticeBit .clockLate = noticeBit .clockLate := by
    rw [hc]; exact BitVec.and_self
  cases q <;> exact bits_or_right hb

/-- The kinds that the end of START leaves pending at every port (R168, R175). -/
theorem leaveStart_pending (h : s.clock.confirmed = false) (q : Port) :
    ((leaveStart (holdConditions s)).notices.get q).pending &&& noticeBit .modeChanged = noticeBit .modeChanged ∧
    ((leaveStart (holdConditions s)).notices.get q).pending &&& noticeBit .clockLate = noticeBit .clockLate := by
  have hq : q ∈ allPorts := by cases q <;> decide
  refine ⟨notifyAll_pending hq, ?_⟩
  unfold leaveStart
  simp only
  rw [notifyAll_pending_get, if_pos hq]
  refine bits_or_left ?_
  rw [show _ = _ from holdConditions_pending s q]
  exact bits_or_right (standing_clockLate h q)

/-! ### Recovery and format -/

/-- What recovery and format both leave of the tables at start-up's end. -/
structure Readied (s u : State) : Prop where
  mark : u.store.mark = none
  provisional : u.intake.provisional = []
  output : u.passes.output = []
  closed : ∀ n f, (u.stripe n).state ≠ .opened f
  readers : ∀ n, (u.stripe n).readers = 0
  editions : ∀ x ∈ u.catalog.editions, x.2.state ≠ .closing
  held : ∀ id, (u.account id).held = 0
  formatted : u.control.formatted = true
  clock : u.clock = ⟨if s.control.formatted then s.clock.day else 0, 0, false⟩
  flash : u.store.flash = s.store.flash

theorem format_dirtyQueue (s : State) : (format s).store.dirtyQueue = List.range 8192 := by
  simp only [format]

theorem format_readied (hf : s.control.formatted = false) : Readied s (format (restartClock s)) := by
  refine ⟨rfl, rfl, rfl, fun _ _ => nofun, fun _ => rfl, fun _ h => absurd h List.not_mem_nil, fun _ => rfl, rfl, ?_, rfl⟩
  rw [hf]; rfl

theorem Recovered.stripe_readers (h : Recovered s u) (n : Nat) : (u.stripe n).readers = 0 :=
  (congrArg Stripe.readers (h.stripe n) :)

theorem recover_readied (hf : s.control.formatted = true) (h : Recovered (restartClock s) u) : Readied s u := by
  obtain ⟨x, q, y, acc, nts, hrest⟩ := h.rest
  refine ⟨?_, ?_, ?_, h.closed, h.stripe_readers, fun x hx hc => ?_, fun id => ?_, ?_, ?_, ?_⟩
  · rw [hrest]
  · rw [hrest]
  · rw [hrest]
  · have hx' : u.edition x.1 = some x.2 := tget_of_mem h.editions hx
    rw [h.edition, Option.map_eq_some_iff] at hx'
    obtain ⟨e, -, he⟩ := hx'
    exact recoveredEdition_not_closing _ e (he ▸ hc)
  · rw [h.account id]
  · rw [hrest]; exact hf
  · rw [hrest, hf]; rfl
  · rw [hrest]; rfl

/-- The editions once they are recovered, by their state as recorded. -/
theorem recoveredEdition_cases (now : Stamp) (e : Edition) :
    (e.state ≠ .closing → recoveredEdition now e = e) ∧
    (e.state = .closing → e.outstanding = 0 → recoveredEdition now e = { e with
      state := .published, published := some now, release := if e.origin = .historical then some now else e.release }) ∧
    (e.state = .closing → e.outstanding ≠ 0 → recoveredEdition now e = { e with state := .opened, release := none, outstanding := 0 }) :=
  ⟨fun h => if_neg h, fun h ho => (if_pos h).trans (if_pos ho), fun h ho => (if_pos h).trans (if_neg ho)⟩

/-- Settles O60: an outage by what `loseVolatile` leaves, start-up's end by `Recovered` for a formatted part and by `format`'s own fields for
another, and the end of START by `leaveStart_eq`. -/
theorem powerResetAndStartUp : Obligations.PowerResetAndStartUp := by
  intro s ho ha he kept
  have hkept : kept (loseVolatile s) := by
    obtain ⟨x, k, h, -⟩ := cutOperation_flash s
    have hl := loseVolatile_stripe ho
    refine ⟨rfl, rfl, rfl, rfl, ?_, ?_, ?_, rfl, fun q => by cases q <;> exact ⟨rfl, rfl⟩, rfl, ?_, ?_, ?_, hl, ?_, ?_, ?_, ?_, ?_⟩
    all_goals (unfold loseVolatile; rw [h])
  refine ⟨fun h => ⟨_, exec_powerLoss h, hkept, rfl⟩, fun h => ⟨_, exec_resetLineAsserted h, hkept, rfl⟩, exec_powerApplied,
    exec_resetLineReleased, fun hr hm => ⟨_, exec_startUpEnd hr hm, ?_⟩⟩
  have hrec : s.control.formatted = true → Recovered (restartClock s) (recoverOrFormat s) := fun hf => by
    unfold recoverOrFormat
    rw [if_pos hf]
    exact recover_recovered hm ho ha he
  have hformat : s.control.formatted = false → recoverOrFormat s = format (restartClock s) := fun hf => by
    unfold recoverOrFormat
    rw [if_neg (by rw [hf]; simp)]
  have hready : Readied s (recoverOrFormat s) := by
    cases hf : s.control.formatted with
    | true => exact recover_readied hf (hrec hf)
    | false => rw [hformat hf]; exact format_readied hf
  have hpending := leaveStart_pending (s := recoverOrFormat s) (by rw [hready.clock])
  obtain ⟨nts, cause, ht⟩ := leaveStart_eq (recoverOrFormat s)
  rw [ht] at hpending ⊢
  refine ⟨hready.mark, hready.provisional, hready.output, hready.closed, hready.readers, hready.editions, hready.held, rfl,
    fun q => (hpending q).1, fun q => (hpending q).2, hready.formatted, hready.clock, hready.flash, fun hf => ?_, fun hf => ?_⟩
  · have h := hrec hf
    obtain ⟨x, q, y, acc, nts', hrest⟩ := h.rest
    generalize recoverOrFormat s = u at *
    refine ⟨?_, ?_, ?_, ?_, h.account, ?_, ?_, fun j hj => ?_, fun j e hj => ?_, ?_, h.dirty, fun n => ?_⟩
    · rw [hrest]; rfl
    · rw [hrest]; rfl
    · rw [hrest]; rfl
    · rw [hrest]; rfl
    · rw [hrest]; rfl
    · rw [hrest]; rfl
    · exact (h.edition j).trans (by rw [show (restartClock s).edition j = none from hj]; rfl)
    · have hu : u.edition j = some (recoveredEdition ⟨s.clock.day, 0⟩ e) :=
        (h.edition j).trans (by rw [show (restartClock s).edition j = some e from hj]; rfl)
      obtain ⟨hother, hpub, hopen⟩ := recoveredEdition_cases ⟨s.clock.day, 0⟩ e
      exact ⟨fun hc => hu.trans (congrArg _ (hother hc)), fun hc h0 => hu.trans (congrArg _ (hpub hc h0)),
        fun hc h0 => hu.trans (congrArg _ (hopen hc h0))⟩
    · rw [hrest]; rfl
    · have hn := h.stripe n
      refine ⟨(congrArg Stripe.eraseCount hn :), (congrArg Stripe.programDay hn :), (congrArg Stripe.retirePending hn :), ?_,
        (congrArg Stripe.live hn :)⟩
      have hw : (u.stripe n).written
          = (s.stripe n).written + if decide (s.store.mark.map (·.1) = some n) = true then 1 else 0 := (congrArg Stripe.written hn :)
      refine hw.trans ?_
      by_cases hmark : s.store.mark.map (·.1) = some n <;> simp [hmark]
  · rw [hformat hf]
    exact ⟨rfl, rfl, rfl, rfl, rfl, rfl, format_dirtyQueue _, rfl⟩

end Sys2Proof.Machine
end

section
/-! What `CatalogOk` speaks of beside its tables, as one view of the state, and the operations that leave the view as it is. -/

namespace Sys2Proof.Machine

variable {s t : State}

/-- What a pass has recorded: its object, its bound source, its new number, and the leaves of it that are written. -/
structure Progress where
  key : Key
  bound : Option Bound
  newNumber : Option Nat
  written : Nat

/-- The record of a pass without its mode, its settings and its output leaf. -/
def Pass.progress (p : Pass) : Progress := ⟨p.key, p.bound, p.newNumber, p.written⟩

/-- The object table, what the deposits and the active pass have recorded, the pass queue, and whether the part is in START. -/
structure Holdings where
  objects : Table Object
  descriptors : Table Descriptor
  provisional : Table (List Extent)
  run : Option Run
  active : Option Progress
  queue : List Pass
  output : List Extent
  inStart : Bool

/-- The holdings of a state. -/
def State.holdings (s : State) : Holdings :=
  { objects := s.catalog.objects, descriptors := s.intake.descriptors, provisional := s.intake.provisional, run := s.intake.run,
    active := s.passes.active.map (·.progress), queue := s.passes.queue, output := s.passes.output,
    inStart := s.control.mode == .start }

theorem foldl_holdings {α : Type} (g : State → α → State) (h : ∀ s a, (g s a).holdings = s.holdings) (l : List α) (s : State) :
    (l.foldl g s).holdings = s.holdings :=
  List.foldlRecOn (motive := fun t : State => t.holdings = s.holdings) l g rfl fun t ht a _ => (h t a).trans ht

/-- The active pass changes in what the view does not show. -/
theorem putActive_holdings {p q : Pass} (h : s.passes.active = some p) (hq : q.progress = p.progress) :
    ({ s with passes.active := some q } : State).holdings = s.holdings := by
  unfold State.holdings
  rw [h, Option.map_some, Option.map_some, hq]

/-! ### The store -/

@[simp] theorem extentsDie_holdings (es : List Extent) (s : State) : (extentsDie es s).holdings = s.holdings :=
  foldl_holdings (fun s (e : Extent) => liveFalls e.stripe e.count s) (fun _ _ => rfl) es s
@[simp] theorem readersRise_holdings (es : List Extent) (s : State) : (readersRise es s).holdings = s.holdings :=
  foldl_holdings (fun s n => s.mapStripe n _) (fun _ _ => rfl) _ s
@[simp] theorem readersFall_holdings (es : List Extent) (s : State) : (readersFall es s).holdings = s.holdings :=
  foldl_holdings (fun s n => s.mapStripe n _) (fun _ _ => rfl) _ s
@[simp] theorem unstall_holdings (f : Front) (s : State) : (unstall f s).holdings = s.holdings := rfl

@[simp] theorem openStripe_holdings (f : Front) (s : State) : (openStripe f s).holdings = s.holdings := by
  unfold openStripe; split <;> rfl

@[simp] theorem examineStalled_holdings (s : State) : (examineStalled s).holdings = s.holdings := by
  unfold examineStalled
  refine foldl_holdings _ (fun t f => ?_) _ s
  split
  · exact openStripe_holdings f t
  · rfl

@[simp] theorem detachFetcher_holdings (who : Fetcher) (s : State) : (detachFetcher who s).holdings = s.holdings := by
  obtain ⟨w, h, -⟩ := detachFetcher_wings who s; rw [h]; rfl

@[simp] theorem detachFeeder_holdings (f : Front) (s : State) : (detachFeeder f s).holdings = s.holdings := by
  obtain ⟨w, h, -⟩ := detachFeeder_wings f s; rw [h]; rfl

theorem takeFetch_holdings {w : Wing} {op : FetchOp} (h : takeFetch w s = some (op, t)) : t.holdings = s.holdings := by
  obtain ⟨⟨a, b, rfl⟩, -⟩ := takeFetch_idle h; rfl

/-! ### Links, notices and the money -/

@[simp] theorem notifyAll_holdings (n : Notice) (ps : List Port) (s : State) : (notifyAll n ps s).holdings = s.holdings :=
  foldl_holdings (fun s p => notify n p s) (fun _ _ => rfl) ps s
@[simp] theorem holdConditions_holdings (s : State) : (holdConditions s).holdings = s.holdings := rfl
@[simp] theorem judgeConditions_holdings (s : State) : (judgeConditions s).holdings = s.holdings := by
  unfold judgeConditions; split <;> rfl
@[simp] theorem reply_holdings (p : Port) (tag : Octet) (a : Answer) (s : State) : (reply p tag a s).holdings = s.holdings := rfl
@[simp] theorem refuse_holdings (p : Port) (tag : Octet) (st : Status) (s : State) : (refuse p tag st s).holdings = s.holdings := by
  unfold refuse; simp only; split <;> rfl
@[simp] theorem transmit_holdings (p : Port) (s : State) : (transmit p s).holdings = s.holdings := by
  obtain ⟨l, h⟩ := transmit_links p s; rw [h]; rfl
@[simp] theorem transmitAll_holdings (s : State) : (transmitAll s).holdings = s.holdings := by
  obtain ⟨l, h⟩ := transmitAll_links s; rw [h]; rfl

/-! ### Streams -/

@[simp] theorem mapActive_holdings (p : Port) (g : Stream → Stream) (s : State) : (mapActive p g s).holdings = s.holdings := by
  unfold mapActive; simp only; split <;> rfl

@[simp] theorem acceptStream_holdings (p : Port) (st : Stream) (s : State) : (acceptStream p st s).holdings = s.holdings :=
  readersRise_holdings st.snapshot s

@[simp] theorem acceptPassSource_holdings (st : Stream) (s : State) : (acceptPassSource st s).holdings = s.holdings :=
  readersRise_holdings st.snapshot s

@[simp] theorem endStream_holdings (p : Port) (st : Stream) (k : StreamKind) (final : Option Status) (s : State) :
    (endStream p st k final s).holdings = s.holdings := by
  have h : (readersFall st.snapshot (if st.fetch = .inFlight then detachFetcher (.stream p) s else s)).holdings = s.holdings := by
    rw [readersFall_holdings]; split
    · exact detachFetcher_holdings _ s
    · rfl
  unfold endStream
  cases final <;> exact h

@[simp] theorem endPassSource_holdings (s : State) : (endPassSource s).holdings = s.holdings := by
  unfold endPassSource; split
  · rfl
  · rename_i st _
    refine (readersFall_holdings st.snapshot _).trans ?_
    split
    · exact detachFetcher_holdings _ s
    · rfl

@[simp] theorem releaseOrder_holdings (p : Port) (st : Stream) (o : OrderPart) (c : ReleaseCause) (e : Bool) (s : State) :
    (releaseOrder p st o c e s).holdings = s.holdings := endStream_holdings _ _ _ _ _

@[simp] theorem cutStream_holdings (p : Port) (st : Stream) (x : Status) (c : ReleaseCause) (s : State) :
    (cutStream p st x c s).holdings = s.holdings := by
  unfold cutStream; split
  · exact releaseOrder_holdings _ _ _ _ _ s
  · exact endStream_holdings _ _ _ _ s

@[simp] theorem releaseOrders_holdings (pick : Stream → OrderPart → Bool) (c : ReleaseCause) (sts : List Stream) (s : State) :
    (releaseOrders pick c sts s).holdings = s.holdings := by
  refine foldl_holdings _ (fun s st => ?_) sts s
  split
  · split
    · exact releaseOrder_holdings _ _ _ _ _ s
    · rfl
  · rfl

@[simp] theorem resetStreams_holdings (p : Port) (s : State) : (resetStreams p s).holdings = s.holdings := by
  refine foldl_holdings _ (fun s st => ?_) _ s
  split
  · exact releaseOrder_holdings _ _ _ _ _ s
  · exact endStream_holdings _ _ _ _ s

@[simp] theorem chargeOrder_holdings (o : OrderPart) (s : State) : (chargeOrder o s).holdings = s.holdings := by
  have hc : ∀ t : State, (countPhotoOrder (photoContributor o.breakdown) t).holdings = t.holdings := fun t => by
    unfold countPhotoOrder; split <;> rfl
  exact (hc _).trans (foldl_holdings (fun s e => accrue e s) (fun _ _ => rfl) _ _)

@[simp] theorem completeStream_holdings (p : Port) (st : Stream) (s : State) : (completeStream p st s).holdings = s.holdings := by
  unfold completeStream; split
  · exact (endStream_holdings _ _ _ _ _).trans (chargeOrder_holdings _ s)
  · exact endStream_holdings _ _ _ _ _

@[simp] theorem creditFrame_holdings (p : Port) (id n : Nat) (s : State) : (creditFrame p id n s).holdings = s.holdings := by
  unfold creditFrame; simp only; split
  · split
    · exact completeStream_holdings _ _ _
    · rfl
  · rfl

/-! ### Editions and intake's notices -/

@[simp] theorem publish_holdings (h : Nat) (s : State) : (publish h s).holdings = s.holdings := by
  unfold publish; split
  · rfl
  · exact notifyAll_holdings _ _ _

@[simp] theorem returnToOpen_holdings (h : Nat) (s : State) : (returnToOpen h s).holdings = s.holdings := by
  unfold returnToOpen; split
  · rfl
  · split <;> rfl

@[simp] theorem spaceCheck_holdings (s : State) : (spaceCheck s).holdings = s.holdings := by
  unfold spaceCheck; simp only; split
  · rfl
  · exact notifyAll_holdings _ _ _

/-! ### Relocation -/

@[simp] theorem lookNext_holdings (r : Round) (s : State) : (lookNext r s).holdings = s.holdings := by
  obtain ⟨x, hx, -⟩ := lookNext_fresh r s; rw [hx]; rfl

@[simp] theorem endCopy_holdings (r : Round) (s : State) : (endCopy r s).holdings = s.holdings := lookNext_holdings _ s

@[simp] theorem copyNext_holdings (r : Round) (c : Copy) (s : State) : (copyNext r c s).holdings = s.holdings := by
  obtain ⟨x, hx⟩ := copyNext_cases r c s; rw [hx]; rfl

@[simp] theorem withdrawCopy_holdings (before s : State) : (withdrawCopy before s).holdings = s.holdings := by
  unfold withdrawCopy; split
  · rfl
  · split
    · rfl
    · split
      · exact endCopy_holdings _ s
      · rfl

@[simp] theorem mapCopy_holdings (g : Copy → Copy) (s : State) : (mapCopy g s).holdings = s.holdings := by
  obtain ⟨x, hx⟩ := mapCopy_round g s; rw [hx]; rfl

@[simp] theorem copyFailed_holdings (s : State) : (copyFailed s).holdings = s.holdings := by
  unfold copyFailed; split
  · rfl
  · split
    · rfl
    · exact copyNext_holdings _ _ s

@[simp] theorem clearBlocked_holdings (s : State) : (clearBlocked s).holdings = s.holdings := by
  unfold clearBlocked; split <;> rfl

@[simp] theorem makeChoice_holdings (s : State) : (makeChoice s).holdings = s.holdings := by
  obtain ⟨x, hx⟩ := makeChoice_cases s; rw [hx]; rfl

theorem closedFront_holdings (c : Copy) (s : State) : (closedFront c s).holdings = s.holdings := by
  unfold closedFront; split
  · split <;> rfl
  · rfl

theorem placedCopy_holdings (r : Round) (c : Copy) (s : State) : (placedCopy r c s).holdings = s.holdings := by
  unfold placedCopy; split
  · rfl
  · split
    · split <;> exact openStripe_holdings .relocate s
    · rfl

@[simp] theorem presentCopy_holdings (r : Round) (c : Copy) (s : State) : (presentCopy r c s).holdings = s.holdings := by
  rw [presentCopy_eq]; split
  · rfl
  · exact (placedCopy_holdings r c _).trans (closedFront_holdings c s)

@[simp] theorem engineOnce_holdings (s : State) : (engineOnce s).holdings = s.holdings := by
  unfold engineOnce; split
  · exact makeChoice_holdings s
  · split
    · split
      · rfl
      · exact lookNext_holdings _ s
    · split
      · exact presentCopy_holdings _ _ s
      · rfl

@[simp] theorem engine_holdings (s : State) : (engine s).holdings = s.holdings := by simp only [engine, clearBlocked_holdings, engineOnce_holdings]

@[simp] theorem abandonRound_holdings (s : State) : (abandonRound s).holdings = s.holdings :=
  (detachFeeder_holdings .relocate _).trans (detachFetcher_holdings .relocation s)

/-! ### The arbiter -/

@[simp] theorem presentStream_holdings (p : Port) (s : State) : (presentStream p s).holdings = s.holdings := mapActive_holdings _ _ s

@[simp] theorem presentSource_holdings (s : State) : (presentSource s).holdings = s.holdings := by
  unfold presentSource; split
  · split <;> rfl
  · rfl

@[simp] theorem startStreamFetch_holdings (who : Fetcher) (st : Stream) (s : State) :
    (startStreamFetch who st s).holdings = s.holdings := by
  obtain ⟨x, hx⟩ := startStreamFetch_rest who st s; rw [hx]; rfl

@[simp] theorem startFetch_holdings (c : Claim) (s : State) : (startFetch c s).holdings = s.holdings := by
  unfold startFetch; split
  · split
    · rfl
    · rename_i p _ st _
      refine (mapActive_holdings _ _ _).trans ?_
      exact startStreamFetch_holdings (.stream p) st s
  · split
    · rfl
    · exact startStreamFetch_holdings _ _ s
  · split
    · rfl
    · refine (mapCopy_holdings _ _).trans ?_
      obtain ⟨x, hx⟩ := putFetch_rest (s.wants .copyFetch) _ s
      rw [hx]; rfl
  · rfl

@[simp] theorem startProgram_holdings (f : Front) (k : Key) (v l : Nat) (d : List Octet) (s : State) :
    (startProgram f k v l d s).holdings = s.holdings := by
  unfold startProgram; split <;> rfl

@[simp] theorem startWide_holdings (c : Claim) (s : State) : (startWide c s).holdings = s.holdings := by
  unfold startWide; split
  · split
    · rfl
    · split
      · exact startProgram_holdings _ _ _ _ _ _
      · rfl
  · split <;> rfl
  · split
    · rfl
    · exact (startProgram_holdings _ _ _ _ _ _).trans (mapCopy_holdings _ s)
  · split
    · rfl
    · rename_i p hp
      refine (startProgram_holdings _ _ _ _ _ _).trans ?_
      exact putActive_holdings (q := { p with request := .inFlight }) hp rfl
  · rfl

theorem decideLoop_holdings (n : Nat) (s : State) : (decideLoop n s).holdings = s.holdings := by
  induction n generalizing s with
  | zero => rfl
  | succ n ih =>
    unfold decideLoop; split
    · rfl
    · rename_i c _
      split
      · split
        · exact startWide_holdings c s
        · rfl
      · exact (ih _).trans (startFetch_holdings c s)

@[simp] theorem arbitrate_holdings (s : State) : (arbitrate s).holdings = s.holdings := by
  unfold arbitrate; split
  · split
    · exact startWide_holdings _ _
    · exact decideLoop_holdings 2 s
  · exact decideLoop_holdings 2 _

end Sys2Proof.Machine
end

section
/-! StepKeepsCatalog: the clauses of `CatalogOk` beyond the tables, as a property of the holdings, and the changes of the holdings that keep
them. -/

namespace Sys2Proof.Machine

theorem tget_mapValues {α β : Type} (g : α → β) (l : Table α) (n : Nat) :
    tget (l.map (fun e => (e.1, g e.2))) n = (tget l n).map g := by
  induction l with
  | nil => rfl
  | cons e l ih =>
    simp only [List.map_cons, tget]
    split
    · rfl
    · exact ih

/-- The provisional record of a descriptor. -/
def Holdings.record (h : Holdings) (n : Nat) : List Extent := (tget h.provisional n).getD []

/-- A deposit's record holds the leaves that the deposit has had programmed, and none once it is DROPPED. -/
structure DepositOk (d : Descriptor) (es : List Extent) : Prop where
  length : 1 ≤ d.length
  leaves : leavesIn es = if d.state = .dropped then 0 else d.programmed

/-- The output record holds the leaves that the pass has written, fewer than its source has, and its new number is free in its object. -/
structure ProgressOk (objects : Table Object) (output : List Extent) (p : Progress) : Prop where
  recorded : leavesIn output = p.written
  unfinished : ∀ b, p.bound = some b → p.written < leavesOf b.length
  number : ∀ n, p.newNumber = some n → (1 ≤ n ∧ n ≤ 255) ∧
    ∀ o, tget objects p.key.code = some o → o.lastNumber < n ∧ o.versions.length < Config.versionsPerObject

/-- The clauses of `CatalogOk` on the holdings, with the form of the tables that they rest on. -/
structure Holdings.Ok (h : Holdings) : Prop where
  ordered : Table.Ordered h.objects
  keyed : ∀ x ∈ h.objects, x.1 = x.2.key.code
  objects : ∀ x ∈ h.objects, ObjectOk x.2
  numbered : Table.Ordered h.descriptors
  filed : Table.Ordered h.provisional
  start : h.inStart = true → h.descriptors = [] ∧ h.active = none ∧ h.queue = []
  deposits : ∀ n d, tget h.descriptors n = some d → DepositOk d (h.record n)
  records : h.inStart = false → ∀ n, tget h.descriptors n = none → leavesIn (h.record n) = 0
  run : ∀ r ∈ h.run, ∀ d, tget h.descriptors r.descriptor = some d → d.state ≠ .dropped
  output : h.inStart = false → h.active = none → h.output = []
  progress : ∀ p ∈ h.active, ProgressOk h.objects h.output p
  queued : ∀ p ∈ h.queue, p.written = 0

namespace Holdings.Ok

variable {h : Holdings}

/-- A part that holds a descriptor is not in START. -/
theorem working_of_descriptor (k : h.Ok) {n : Nat} {d : Descriptor} (hd : tget h.descriptors n = some d) : h.inStart = false := by
  cases hs : h.inStart with
  | false => rfl
  | true => rw [(k.start hs).1] at hd; cases hd

/-! ### Objects -/

/-- A table of objects whose entries are as the pass in hand needs them. -/
theorem withObjects (k : h.Ok) {objects : Table Object} (ho : Table.Ordered objects) (hk : ∀ x ∈ objects, x.1 = x.2.key.code ∧ ObjectOk x.2)
    (hp : ∀ p ∈ h.active, ∀ n, p.newNumber = some n → ∀ o, tget objects p.key.code = some o →
      o.lastNumber < n ∧ o.versions.length < Config.versionsPerObject) : ({ h with objects := objects } : Holdings).Ok where
  ordered := ho
  keyed x hx := (hk x hx).1
  objects x hx := (hk x hx).2
  numbered := k.numbered
  filed := k.filed
  start := k.start
  deposits := k.deposits
  records := k.records
  run := k.run
  output := k.output
  progress p hpa :=
    have r := k.progress p hpa
    ⟨r.recorded, r.unfinished, fun n hn => ⟨(r.number n hn).1, hp p hpa n hn⟩⟩
  queued := k.queued

theorem putObject (k : h.Ok) {o : Object} (ho : ObjectOk o) (hp : ∀ p ∈ h.active, ∀ n, p.newNumber = some n → p.key.code = o.key.code →
    o.lastNumber < n ∧ o.versions.length < Config.versionsPerObject) :
    ({ h with objects := tput h.objects o.key.code o } : Holdings).Ok := by
  refine k.withObjects (ordered_tput k.ordered _ _) (fun x hx => ?_) (fun p hpa n hn o' ho' => ?_)
  · rcases mem_tput hx with rfl | hx
    · exact ⟨rfl, ho⟩
    · exact ⟨k.keyed x hx, k.objects x hx⟩
  · by_cases hc : p.key.code = o.key.code
    · rw [hc, tget_tput_self] at ho'
      cases ho'
      exact hp p hpa n hn hc
    · rw [tget_tput_ne _ _ _ _ hc] at ho'
      exact ((k.progress p hpa).number n hn).2 o' ho'

/-- An object is replaced by one that has the same last number and no more versions. -/
theorem revise (k : h.Ok) {c : Nat} {o o' : Object} (ho : tget h.objects c = some o) (hk : o'.key = o.key) (hok : ObjectOk o')
    (hl : o'.lastNumber = o.lastNumber) (hv : o'.versions.length ≤ o.versions.length) :
    ({ h with objects := tput h.objects o'.key.code o' } : Holdings).Ok := by
  refine k.putObject hok fun p hpa n hn hc => ?_
  have hco : c = o.key.code := k.keyed _ (mem_of_tget ho)
  have hn' := ((k.progress p hpa).number n hn).2 o (by rw [hc, hk, ← hco]; exact ho)
  exact ⟨hl ▸ hn'.1, hv.trans_lt hn'.2⟩

/-- The object table loses entries, or changes in what no version shows. -/
theorem shrink (k : h.Ok) {objects : Table Object} (ho : Table.Ordered objects)
    (hm : ∀ x ∈ objects, ∃ y ∈ h.objects, x.1 = y.1 ∧ x.2.key = y.2.key ∧ x.2.lastNumber = y.2.lastNumber ∧
      x.2.versions = y.2.versions) : ({ h with objects := objects } : Holdings).Ok := by
  refine k.withObjects ho (fun x hx => ?_) (fun p hpa n hn o ho' => ?_)
  · obtain ⟨y, hy, h1, h2, h3, h4⟩ := hm x hx
    have r := k.objects y hy
    exact ⟨by rw [h1, h2]; exact k.keyed y hy, ⟨h4 ▸ r.count, h4 ▸ r.rising, by rw [h3, h4]; exact r.last, h4 ▸ r.leaves⟩⟩
  · obtain ⟨⟨c, y⟩, hy, h1, -, h3, h4⟩ := hm _ (mem_of_tget ho')
    obtain rfl : _ = c := h1
    rw [show o.lastNumber = _ from h3, show o.versions = _ from h4]
    exact ((k.progress p hpa).number n hn).2 y (tget_of_mem k.ordered hy)

/-! ### Deposits -/

/-- The descriptors and the provisional records change, with the run; each descriptor's record is in order. -/
theorem withDeposits (k : h.Ok) {ds : Table Descriptor} {es : Table (List Extent)} {run : Option Run} (hn : Table.Ordered ds)
    (he : Table.Ordered es) (hs : h.inStart = true → ds = [])
    (hd : ∀ n d, tget ds n = some d → DepositOk d ((tget es n).getD []))
    (hr : h.inStart = false → ∀ n, tget ds n = none → leavesIn ((tget es n).getD []) = 0)
    (hx : ∀ r ∈ run, ∀ d, tget ds r.descriptor = some d → d.state ≠ .dropped) :
    ({ h with descriptors := ds, provisional := es, run := run } : Holdings).Ok where
  ordered := k.ordered
  keyed := k.keyed
  objects := k.objects
  numbered := hn
  filed := he
  start m := ⟨hs m, (k.start m).2⟩
  deposits := hd
  records := hr
  run := hx
  output := k.output
  progress := k.progress
  queued := k.queued

/-- The descriptors change in what no record shows. -/
theorem mapDescriptors (k : h.Ok) (g : Descriptor → Descriptor)
    (hg : ∀ d, (g d).state = d.state ∧ (g d).length = d.length ∧ (g d).programmed = d.programmed) :
    ({ h with descriptors := h.descriptors.map (fun e => (e.1, g e.2)) } : Holdings).Ok := by
  refine k.withDeposits (ordered_mapValues k.numbered _) k.filed (fun m => ?_) (fun n d hd => ?_) (fun m n hn => ?_) (fun r hr d hd => ?_)
  · rw [(k.start m).1]; rfl
  · rw [tget_mapValues] at hd
    obtain ⟨d', hd', rfl⟩ := Option.map_eq_some_iff.1 hd
    have r := k.deposits n d' hd'
    obtain ⟨h1, h2, h3⟩ := hg d'
    exact ⟨h2 ▸ r.length, by rw [h1, h3]; exact r.leaves⟩
  · rw [tget_mapValues, Option.map_eq_none_iff] at hn
    exact k.records m n hn
  · rw [tget_mapValues] at hd
    obtain ⟨d', hd', rfl⟩ := Option.map_eq_some_iff.1 hd
    rw [(hg d').1]
    exact k.run r hr d' hd'

theorem putDescriptor (k : h.Ok) (m : h.inStart = false) {n : Nat} {d : Descriptor} (hd : DepositOk d (h.record n))
    (hr : d.state ≠ .dropped) : ({ h with descriptors := tput h.descriptors n d } : Holdings).Ok := by
  refine k.withDeposits (ordered_tput k.numbered _ _) k.filed (fun m' => by rw [m] at m'; cases m') (fun j d' hd' => ?_)
    (fun _ j hj => ?_) (fun r hrun d' hd' => ?_)
  · by_cases hj : j = n
    · subst hj; rw [tget_tput_self] at hd'; cases hd'; exact hd
    · rw [tget_tput_ne _ _ _ _ hj] at hd'; exact k.deposits j d' hd'
  · by_cases hjn : j = n
    · subst hjn; rw [tget_tput_self] at hj; cases hj
    · rw [tget_tput_ne _ _ _ _ hjn] at hj; exact k.records m j hj
  · by_cases hj : r.descriptor = n
    · rw [hj, tget_tput_self] at hd'; cases hd'; exact hr
    · rw [tget_tput_ne _ _ _ _ hj] at hd'; exact k.run r hrun d' hd'

/-- A descriptor whose record is empty is freed. -/
theorem freeDescriptor (k : h.Ok) {n : Nat} (hz : h.inStart = false → leavesIn (h.record n) = 0) :
    ({ h with descriptors := tdel h.descriptors n } : Holdings).Ok := by
  refine k.withDeposits (ordered_tdel k.numbered _) k.filed (fun m => by rw [(k.start m).1]; rfl) (fun j d hd => ?_)
    (fun m j hj => ?_) (fun r hrun d hd => ?_)
  · by_cases hj : j = n
    · subst hj; rw [tget_tdel_self k.numbered] at hd; cases hd
    · rw [tget_tdel_ne _ _ _ hj] at hd; exact k.deposits j d hd
  · by_cases hjn : j = n
    · subst hjn; exact hz m
    · rw [tget_tdel_ne _ _ _ hjn] at hj; exact k.records m j hj
  · by_cases hj : r.descriptor = n
    · rw [hj, tget_tdel_self k.numbered] at hd; cases hd
    · rw [tget_tdel_ne _ _ _ hj] at hd; exact k.run r hrun d hd

/-- A deposit's record is cleared: its descriptor is freed or DROPPED, and the run is another's. -/
theorem clearRecord (k : h.Ok) {n : Nat} {ds : Table Descriptor} {run : Option Run} (hn : Table.Ordered ds)
    (hs : h.inStart = true → ds = []) (hother : ∀ j, j ≠ n → tget ds j = tget h.descriptors j)
    (hself : ∀ d, tget ds n = some d → d.state = .dropped ∧ 1 ≤ d.length)
    (hrun : ∀ r ∈ run, r ∈ h.run ∧ (r.descriptor = n → tget ds n = none)) :
    ({ h with descriptors := ds, provisional := tdel h.provisional n, run := run } : Holdings).Ok := by
  have hempty : (tget (tdel h.provisional n) n).getD [] = [] := by rw [tget_tdel_self k.filed]; rfl
  refine k.withDeposits hn (ordered_tdel k.filed _) hs (fun j d hd => ?_) (fun m j hj => ?_) (fun r hr d hd => ?_)
  · by_cases hj : j = n
    · subst hj
      obtain ⟨h1, h2⟩ := hself d hd
      exact ⟨h2, by rw [hempty, if_pos h1]; rfl⟩
    · rw [hother j hj] at hd
      rw [tget_tdel_ne _ _ _ hj]
      exact k.deposits j d hd
  · by_cases hjn : j = n
    · subst hjn; rw [hempty]; rfl
    · rw [hother j hjn] at hj
      rw [tget_tdel_ne _ _ _ hjn]
      exact k.records m j hj
  · obtain ⟨hr, hfree⟩ := hrun r hr
    by_cases hj : r.descriptor = n
    · rw [hj, hfree hj] at hd; cases hd
    · rw [hother _ hj] at hd; exact k.run r hr d hd

/-- A deposit's record is cleared and its descriptor is freed. -/
theorem freeRecord (k : h.Ok) {n : Nat} {run : Option Run} (hrun : ∀ r ∈ run, r ∈ h.run) :
    ({ h with descriptors := tdel h.descriptors n, provisional := tdel h.provisional n, run := run } : Holdings).Ok := by
  have hfree : tget (tdel h.descriptors n) n = none := tget_tdel_self k.numbered n
  exact k.clearRecord (ordered_tdel k.numbered _) (fun m => by rw [(k.start m).1]; rfl) (fun j hj => tget_tdel_ne _ _ _ hj)
    (fun d hd => by rw [hfree] at hd; cases hd) fun r hr => ⟨hrun r hr, fun _ => hfree⟩

/-- A record takes one leaf more, and its descriptor counts it. -/
theorem takeLeaf (k : h.Ok) {n : Nat} {d d' : Descriptor} {es : List Extent} {run : Option Run} (hd : tget h.descriptors n = some d)
    (hdrop : d.state ≠ .dropped) (hstate : d'.state = d.state) (hlen : d'.length = d.length) (hprog : d'.programmed = d.programmed + 1)
    (hes : leavesIn es = leavesIn (h.record n) + 1) (hrun : ∀ r ∈ run, r.descriptor = n) :
    ({ h with descriptors := tput h.descriptors n d', provisional := tput h.provisional n es, run := run } : Holdings).Ok := by
  have m := k.working_of_descriptor hd
  refine k.withDeposits (ordered_tput k.numbered _ _) (ordered_tput k.filed _ _) (fun m' => by rw [m] at m'; cases m')
    (fun j x hx => ?_) (fun _ j hj => ?_) (fun r hr x hx => ?_)
  · by_cases hj : j = n
    · subst hj
      rw [tget_tput_self] at hx ⊢
      cases hx
      have r := k.deposits j d hd
      have hl := r.leaves
      rw [if_neg hdrop] at hl
      exact ⟨hlen ▸ r.length, by rw [hstate, if_neg hdrop, hprog, ← hl]; exact hes⟩
    · rw [tget_tput_ne _ _ _ _ hj] at hx ⊢
      exact k.deposits j x hx
  · by_cases hjn : j = n
    · subst hjn; rw [tget_tput_self] at hj; cases hj
    · rw [tget_tput_ne _ _ _ _ hjn] at hj ⊢
      exact k.records m j hj
  · rw [hrun r hr, tget_tput_self] at hx
    cases hx
    rwa [hstate]

theorem chooseRun (k : h.Ok) {run : Option Run} (hrun : ∀ r ∈ run, ∀ d, tget h.descriptors r.descriptor = some d → d.state ≠ .dropped) :
    ({ h with run := run } : Holdings).Ok := k.withDeposits k.numbered k.filed (fun m => (k.start m).1) k.deposits k.records hrun

/-- At start-up's end no record is left. -/
theorem emptyRecords (k : h.Ok) (m : h.inStart = true) : ({ h with provisional := [], output := [] } : Holdings).Ok where
  ordered := k.ordered
  keyed := k.keyed
  objects := k.objects
  numbered := k.numbered
  filed := ordered_nil
  start := k.start
  deposits n d hd := by rw [(k.start m).1] at hd; cases hd
  records _ _ _ := rfl
  run := k.run
  output _ _ := rfl
  progress p hp := by rw [(k.start m).2.1] at hp; cases hp
  queued := k.queued

/-- The mode changes from START where no record is left. -/
theorem leaveStart (k : h.Ok) (m : h.inStart = true) (hp : h.provisional = []) (ho : h.output = []) :
    ({ h with inStart := false } : Holdings).Ok where
  ordered := k.ordered
  keyed := k.keyed
  objects := k.objects
  numbered := k.numbered
  filed := k.filed
  start := nofun
  deposits := k.deposits
  records _ n _ := by
    have e : h.record n = [] := by unfold Holdings.record; rw [hp]; rfl
    exact congrArg leavesIn e
  run := k.run
  output _ _ := ho
  progress p hpa := by rw [show h.active = none from (k.start m).2.1] at hpa; cases hpa
  queued := k.queued

/-! ### Passes -/

/-- The passes change: outside START, and with no output left where none is active. -/
theorem withPasses (k : h.Ok) {active : Option Progress} {queue : List Pass} {output : List Extent}
    (hs : h.inStart = true → active = none ∧ queue = []) (ho : h.inStart = false → active = none → output = [])
    (hp : ∀ p ∈ active, ProgressOk h.objects output p) (hq : ∀ p ∈ queue, p.written = 0) :
    ({ h with active := active, queue := queue, output := output } : Holdings).Ok where
  ordered := k.ordered
  keyed := k.keyed
  objects := k.objects
  numbered := k.numbered
  filed := k.filed
  start m := ⟨(k.start m).1, hs m⟩
  deposits := k.deposits
  records := k.records
  run := k.run
  output := ho
  progress := hp
  queued := hq

/-- The active pass ends, and the output record is cleared. -/
theorem endPass (k : h.Ok) : ({ h with active := none, output := [] } : Holdings).Ok :=
  k.withPasses (fun m => ⟨rfl, (k.start m).2.2⟩) (fun _ _ => rfl) nofun k.queued

/-- Passes leave the queue. -/
theorem shortenQueue (k : h.Ok) {queue : List Pass} (hq : ∀ p ∈ queue, p ∈ h.queue) : ({ h with queue := queue } : Holdings).Ok :=
  k.withPasses (fun m => ⟨(k.start m).2.1, List.eq_nil_iff_forall_not_mem.2 fun p hp => by
    have := hq p hp; rw [(k.start m).2.2] at this; cases this⟩) k.output k.progress fun p hp => k.queued p (hq p hp)

theorem enqueue (k : h.Ok) (m : h.inStart = false) {p : Pass} (hp : p.written = 0) :
    ({ h with queue := h.queue ++ [p] } : Holdings).Ok := by
  refine k.withPasses (fun m' => by rw [m] at m'; cases m') k.output k.progress fun q hq => ?_
  rcases List.mem_append.1 hq with hq | hq
  · exact k.queued q hq
  · cases List.mem_singleton.1 hq; exact hp

/-- A pass becomes active, or goes on with its output record. -/
theorem putActive (k : h.Ok) (m : h.inStart = false) {p : Progress} {output : List Extent} (hp : ProgressOk h.objects output p) :
    ({ h with active := some p, output := output } : Holdings).Ok :=
  k.withPasses (fun m' => by rw [m] at m'; cases m') nofun (fun _ hq => by cases hq; exact hp) k.queued

end Holdings.Ok

end Sys2Proof.Machine
end

section
/-! StepKeepsCatalog: what chapter 2 and intake do to the holdings. -/

namespace Sys2Proof.Machine

variable {s t : State}

/-! ### Leaves and versions -/

theorem leavesIn_append (a b : List Extent) : leavesIn (a ++ b) = leavesIn a + leavesIn b := by simp [leavesIn]

/-- A record takes one leaf more, in its last extent or in a new one. -/
theorem leavesIn_recordLeaf (es : List Extent) (n place : Nat) : leavesIn (recordLeaf es n place) = leavesIn es + 1 := by
  unfold recordLeaf
  split
  · rename_i e he
    split
    · have hes : leavesIn es = leavesIn es.dropLast + e.count := by
        conv_lhs => rw [← List.dropLast_append_getLast? e he, leavesIn_append]
        simp [leavesIn]
      rw [leavesIn_append, hes]
      simp [leavesIn, Nat.add_assoc]
    · rw [leavesIn_append]; rfl
  · rename_i he
    rw [List.getLast?_eq_none_iff.1 he]; rfl

/-- A body has leaves exactly if it has octets. -/
theorem leavesOf_pos_iff (length : Nat) : 0 < leavesOf length ↔ 1 ≤ length := by
  unfold leavesOf Config.leafOctets
  omega

/-- A version changes in what neither its number nor its leaves show. -/
theorem ObjectOk.mapVersion {o : Object} (k : ObjectOk o) {number serial : Nat} {g : Version → Version}
    (hg : ∀ v ∈ o.versions, v.number = number → v.serial = serial →
      (g v).number = v.number ∧ (g v).length = v.length ∧ leavesIn (g v).extents = leavesIn v.extents) :
    ObjectOk (mapVersion number serial g o) := by
  have each : ∀ v ∈ o.versions, ∀ u, u = (if v.number = number ∧ v.serial = serial then g v else v) →
      u.number = v.number ∧ u.length = v.length ∧ leavesIn u.extents = leavesIn v.extents := by
    intro v hv u hu
    split at hu
    · rename_i h; subst hu; exact hg v hv h.1 h.2
    · subst hu; exact ⟨rfl, rfl, rfl⟩
  have numbers : (Machine.mapVersion number serial g o).versions.map (·.number) = o.versions.map (·.number) := by
    unfold Machine.mapVersion
    rw [List.map_map]
    exact List.map_congr_left fun v hv => (each v hv _ rfl).1
  have listed : ∀ u ∈ (Machine.mapVersion number serial g o).versions,
      ∃ v ∈ o.versions, u.number = v.number ∧ u.length = v.length ∧ leavesIn u.extents = leavesIn v.extents := by
    intro u hu
    obtain ⟨v, hv, hvu⟩ := List.mem_map.1 hu
    exact ⟨v, hv, each v hv u hvu.symm⟩
  refine ⟨?_, ?_, ⟨k.last.1, fun u hu => ?_⟩, fun u hu => ?_⟩
  · simpa [Machine.mapVersion] using k.count
  · rw [numbers]; exact k.rising
  · obtain ⟨v, hv, h, -⟩ := listed u hu
    exact h ▸ k.last.2 v hv
  · obtain ⟨v, hv, -, h1, h2⟩ := listed u hu
    exact ⟨h1 ▸ (k.leaves v hv).1, by rw [h1, h2]; exact (k.leaves v hv).2⟩

/-- Versions are left out, but not the last. -/
theorem ObjectOk.filter {o : Object} (k : ObjectOk o) {p : Version → Bool} (hp : o.versions.filter p ≠ []) :
    ObjectOk { o with versions := o.versions.filter p } := by
  have sub : ∀ v ∈ o.versions.filter p, v ∈ o.versions := fun v hv => (List.mem_filter.1 hv).1
  refine ⟨⟨List.length_pos_iff.2 hp, (List.length_filter_le _ _).trans k.count.2⟩, ?_, ⟨k.last.1, fun v hv => k.last.2 v (sub v hv)⟩,
    fun v hv => k.leaves v (sub v hv)⟩
  exact k.rising.sublist (List.filter_sublist.map _)

/-! ### Objects -/

theorem putObject_holdings (o : Object) (s : State) :
    (s.putObject o).holdings = { s.holdings with objects := tput s.catalog.objects o.key.code o } := rfl

theorem mapVersion_holdingsOk (k : s.holdings.Ok) {c : Key} {o : Object} (ho : s.object c = some o) {number serial : Nat}
    {g : Version → Version} (hg : ∀ v ∈ o.versions, v.number = number → v.serial = serial →
      (g v).number = v.number ∧ (g v).length = v.length ∧ leavesIn (g v).extents = leavesIn v.extents) :
    (s.putObject (mapVersion number serial g o)).holdings.Ok :=
  k.revise (o' := mapVersion number serial g o) ho rfl ((k.objects _ (mem_of_tget ho)).mapVersion hg) rfl
    (by simp [mapVersion])

theorem markDamaged_holdingsOk {c : Key} {number serial : Nat} (h : markDamaged c number serial s = some t) (k : s.holdings.Ok) :
    t.holdings.Ok := by
  unfold markDamaged at h
  split at h
  · rename_i o v ho _
    split at h
    · cases h
    · cases h
      rw [notifyAll_holdings]
      exact mapVersion_holdingsOk k ho fun _ _ _ _ => ⟨rfl, rfl, rfl⟩
  · cases h

theorem removeObject_holdingsOk (o : Object) (k : s.holdings.Ok) : (removeObject o s).holdings.Ok := by
  have dead : (o.versions.foldl (fun s v => extentsDie v.extents s) s).holdings = s.holdings :=
    foldl_holdings (fun s (v : Version) => extentsDie v.extents s) (fun s v => extentsDie_holdings v.extents s) _ s
  unfold removeObject
  generalize o.versions.foldl (fun s v => extentsDie v.extents s) s = u at dead
  rw [← dead] at k
  have gone : ({ u.holdings with objects := tdel u.catalog.objects o.key.code } : Holdings).Ok :=
    k.shrink (ordered_tdel k.ordered _) fun x hx => ⟨x, mem_tdel hx, rfl, rfl, rfl, rfl⟩
  simp only
  split
  · exact gone
  · have vacant := gone.shrink (ordered_mapValues gone.ordered (fun e => vacate o.key e.2)) fun x hx => by
      obtain ⟨y, hy, rfl⟩ := List.mem_map.1 hx
      exact ⟨y, hy, rfl, rfl, rfl, rfl⟩
    exact vacant.mapDescriptors (unplace o.key) fun _ => ⟨rfl, rfl, rfl⟩

theorem removeObjects_holdingsOk (h : Nat) (k : s.holdings.Ok) : (removeObjects h s).holdings.Ok :=
  List.foldlRecOn (motive := fun t : State => t.holdings.Ok) _ _ k fun _ kt o _ => removeObject_holdingsOk o kt

theorem removeVersion_holdingsOk {c : Key} {o : Object} (ho : s.object c = some o) (v : Version) (k : s.holdings.Ok) :
    (removeVersion o v s).holdings.Ok := by
  have dead : (extentsDie v.extents s).holdings = s.holdings := extentsDie_holdings _ _
  unfold removeVersion
  simp only
  split
  · exact removeObject_holdingsOk _ (by rw [dead]; exact k)
  · rename_i hne
    have hne : o.versions.filter (fun x => x.number != v.number) ≠ [] := by simpa using hne
    rw [putObject_holdings, dead, show (extentsDie v.extents s).catalog.objects = s.catalog.objects from congrArg Holdings.objects dead]
    exact k.revise (o' := { o with versions := o.versions.filter (fun x => x.number != v.number) }) ho rfl
      ((k.objects _ (mem_of_tget ho)).filter hne) rfl (List.length_filter_le _ _)

/-! ### The entry of objects -/

theorem enteredObject_ok {d : Descriptor} {es : List Extent} (hl : 1 ≤ d.length) (he : leavesIn es = leavesOf d.length) (s : State) :
    ObjectOk (enteredObject d es s) := by
  refine ⟨⟨by simp [enteredObject], by simp [enteredObject, Config.versionsPerObject]⟩, by simp [enteredObject],
    ⟨Nat.zero_le _, fun v hv => ?_⟩, fun v hv => ?_⟩
  · cases List.mem_singleton.1 hv; exact Nat.le_refl _
  · cases List.mem_singleton.1 hv; exact ⟨hl, he⟩

/-- A complete deposit's object has its leaves, its record is cleared and its descriptor is freed. -/
theorem enterObject_holdingsOk {n : Nat} {d : Descriptor} (hd : (n, d) ∈ s.intake.descriptors) (hc : d.complete = true)
    (k : s.holdings.Ok) : (enterObject n d s).holdings.Ok := by
  have hd : tget s.intake.descriptors n = some d := tget_of_mem k.numbered hd
  simp only [Descriptor.complete, Bool.and_eq_true, beq_iff_eq] at hc
  obtain ⟨⟨hstate, -⟩, hall⟩ := hc
  have r := k.deposits n d hd
  have hleaves : leavesIn (s.provisional n) = leavesOf d.length := by
    rw [show leavesIn (s.provisional n) = _ from r.leaves, hstate, if_neg (by simp)]; exact hall
  have entered : (s.putObject (enteredObject d (s.provisional n) s)).holdings.Ok := by
    refine k.putObject (enteredObject_ok r.length hleaves s) fun p hp m hm _ => ?_
    have := ((k.progress p hp).number m hm).1.1
    exact ⟨by simp only [enteredObject]; omega, by simp [enteredObject, Config.versionsPerObject]⟩
  have cleared := entered.freeRecord (n := n) (run := s.intake.run) fun _ hr => hr
  have released := cleared.mapDescriptors (fun x => { x with waits := x.waits.filter (fun k => k != d.key) }) fun _ => ⟨rfl, rfl, rfl⟩
  unfold enterObject
  simp only
  split
  · exact released
  · split
    · rw [publish_holdings]; exact released
    · exact released

theorem enterReady_holdingsOk (n : Nat) (k : s.holdings.Ok) : (enterReady n s).holdings.Ok := by
  induction n generalizing s with
  | zero => exact k
  | succ n ih =>
    unfold enterReady; split
    · exact k
    · rename_i j d hf
      have hc := List.find?_some hf
      simp only [Bool.and_eq_true] at hc
      exact ih (enterObject_holdingsOk (List.mem_of_find?_eq_some hf) hc.1 k)

/-! ### The drop of a deposit -/

/-- The run that is left is not the dropped descriptor's. -/
theorem cutRun_holdings (n : Nat) (s : State) : ∃ run, (cutRun n s).holdings = { s.holdings with run := run } ∧
    ∀ r ∈ run, r ∈ s.intake.run ∧ r.descriptor ≠ n := by
  unfold cutRun; split
  · rename_i r hr
    split
    · exact ⟨none, (unstall_holdings _ _).trans (detachFeeder_holdings _ _), nofun⟩
    · rename_i hn
      refine ⟨s.intake.run, rfl, fun x hx => ⟨hx, ?_⟩⟩
      rw [hr] at hx; cases hx; exact hn
  · rename_i hr
    exact ⟨s.intake.run, rfl, fun x hx => by rw [hr] at hx; cases hx⟩

theorem unawait_same (photo : Key) (d : Descriptor) :
    (unawait photo d).state = d.state ∧ (unawait photo d).length = d.length ∧ (unawait photo d).programmed = d.programmed := by
  unfold unawait; split <;> exact ⟨rfl, rfl, rfl⟩

/-- The descriptors once a descriptor is freed, or kept as DROPPED. -/
def droppedDescriptors (keep : Bool) (n : Nat) (d : Descriptor) (ds : Table Descriptor) : Table Descriptor :=
  if keep then tput ds n { d with state := .dropped, staged := [], waits := [], placements := [] } else tdel ds n

theorem dropCore_holdings (keep : Bool) (n : Nat) (d : Descriptor) (s : State) : ∃ run,
    (dropCore keep n d s).holdings = { s.holdings with
      provisional := tdel s.intake.provisional n, run := run
      descriptors := (droppedDescriptors keep n d s.intake.descriptors).map (fun e => (e.1, unawait d.key e.2)) } ∧
    ∀ r ∈ run, r ∈ s.intake.run ∧ r.descriptor ≠ n := by
  have dead : (extentsDie (s.provisional n) s).holdings = s.holdings := extentsDie_holdings _ _
  obtain ⟨run, hcut, hrun⟩ := cutRun_holdings n { extentsDie (s.provisional n) s with
    intake.provisional := tdel (extentsDie (s.provisional n) s).intake.provisional n }
  refine ⟨run, ?_, fun r hr => by simpa using hrun r hr⟩
  unfold dropCore
  simp only
  generalize cutRun n _ = u at hcut
  have hu : u.holdings = { s.holdings with provisional := tdel s.intake.provisional n, run := run } := by
    rw [hcut, show ∀ x, ({ extentsDie (s.provisional n) s with intake.provisional := x } : State).holdings
      = { (extentsDie (s.provisional n) s).holdings with provisional := x } from fun _ => rfl, dead, extentsDie_intake]
  have hdropped : (if keep = true then u.putDescriptor n { d with state := .dropped, staged := [], waits := [], placements := [] }
      else freeDescriptor n u).holdings = { u.holdings with descriptors := droppedDescriptors keep n d u.intake.descriptors } := by
    unfold droppedDescriptors; split <;> rfl
  generalize (if keep = true then u.putDescriptor n { d with state := .dropped, staged := [], waits := [], placements := [] }
    else freeDescriptor n u) = v at hdropped
  have hopen : (if d.state = .ended then returnToOpen d.key.handle v else v).holdings = v.holdings := by
    split
    · exact returnToOpen_holdings _ v
    · rfl
  generalize (if d.state = .ended then returnToOpen d.key.handle v else v) = w at hopen
  have hw := (hopen.trans hdropped).trans (by rw [hu, show u.intake.descriptors = s.intake.descriptors from congrArg Holdings.descriptors hu])
  calc ({ w with intake.descriptors := w.intake.descriptors.map (fun e => (e.1, unawait d.key e.2)) } : State).holdings
      = { w.holdings with descriptors := w.holdings.descriptors.map (fun e => (e.1, unawait d.key e.2)) } := rfl
    _ = _ := by rw [hw]

/-- A drop: of a descriptor that is held, where it is kept as DROPPED. -/
theorem dropCore_holdingsOk {keep : Bool} {n : Nat} {d : Descriptor} (hd : keep = true → s.descriptor n = some d) (k : s.holdings.Ok) :
    (dropCore keep n d s).holdings.Ok := by
  obtain ⟨run, h, hrun⟩ := dropCore_holdings keep n d s
  have cleared : ({ s.holdings with
      provisional := tdel s.intake.provisional n, run := run
      descriptors := droppedDescriptors keep n d s.intake.descriptors } : Holdings).Ok := by
    cases keep with
    | false => exact k.freeRecord fun r hr => (hrun r hr).1
    | true =>
      have hd : tget s.holdings.descriptors n = some d := hd rfl
      refine k.clearRecord (ordered_tput k.numbered _ _) (fun m => ?_) (fun j hj => tget_tput_ne _ _ _ _ hj) (fun d' hd' => ?_)
        fun r hr => ⟨(hrun r hr).1, fun e => absurd e (hrun r hr).2⟩
      · rw [k.working_of_descriptor hd] at m; cases m
      · unfold droppedDescriptors at hd'
        rw [if_pos rfl, tget_tput_self] at hd'
        cases hd'
        exact ⟨rfl, (k.deposits n d hd).length⟩
  rw [h]
  exact cleared.mapDescriptors (unawait d.key) (unawait_same d.key)

theorem dropDeposit_holdingsOk {keep : Bool} {n : Nat} {d : Descriptor} (hd : keep = true → s.descriptor n = some d) (k : s.holdings.Ok) :
    (dropDeposit keep n d s).holdings.Ok := by
  unfold dropDeposit
  rw [spaceCheck_holdings]
  exact enterReady_holdingsOk _ (dropCore_holdingsOk hd k)

theorem dropCore_provisional (keep : Bool) (n : Nat) (d : Descriptor) (s : State) :
    (dropCore keep n d s).intake.provisional = tdel s.intake.provisional n := by
  obtain ⟨run, h, -⟩ := dropCore_holdings keep n d s
  exact congrArg Holdings.provisional h

/-- Several deposits are dropped: those that were DROPPED already have no record. -/
theorem dropDeposits_holdingsOk {ds : List (Nat × Descriptor)} (hds : ∀ e ∈ ds, e ∈ s.intake.descriptors) (k : s.holdings.Ok) :
    (dropDeposits ds s).holdings.Ok := by
  have empty : ∀ e ∈ ds, e.2.state = .dropped → leavesIn (s.provisional e.1) = 0 := fun e he hs => by
    have := (k.deposits e.1 e.2 (tget_of_mem k.numbered (hds e he))).leaves
    rwa [if_pos hs] at this
  unfold dropDeposits
  rw [spaceCheck_holdings]
  refine enterReady_holdingsOk _ ?_
  clear hds
  induction ds generalizing s with
  | nil => exact k
  | cons e ds ih =>
    simp only [List.foldl_cons]
    split
    · rename_i hs
      exact ih (k.freeDescriptor fun _ => empty e (by simp) hs) fun x hx => empty x (by simp [hx])
    · refine ih (dropCore_holdingsOk (by simp) k) fun x hx hs => ?_
      have hz := empty x (by simp [hx]) hs
      unfold State.provisional at hz ⊢
      rw [dropCore_provisional]
      by_cases hj : x.1 = e.1
      · rw [hj, show tget (tdel s.intake.provisional e.1) e.1 = none from tget_tdel_self k.filed _]; rfl
      · rwa [tget_tdel_ne _ _ _ hj]

theorem resetDeposits_holdingsOk (p : Port) (k : s.holdings.Ok) : (resetDeposits p s).holdings.Ok :=
  dropDeposits_holdingsOk (fun _ he => (List.mem_filter.1 he).1) k

/-! ### The programmer -/

theorem chooseDescriptor_eligible {ds : List (Nat × Descriptor)} {e : Nat × Descriptor} (h : chooseDescriptor ds = some e) :
    e ∈ ds ∧ e.2.eligible = true := by
  induction ds with
  | nil => cases h
  | cons x ds ih =>
    have head : x.2.eligible = true → x = e → e ∈ x :: ds ∧ e.2.eligible = true := fun hx he => by subst he; exact ⟨by simp, hx⟩
    have tail : chooseDescriptor ds = some e → e ∈ x :: ds ∧ e.2.eligible = true := fun he => ⟨by simp [(ih he).1], (ih he).2⟩
    unfold chooseDescriptor at h
    split at h
    · split at h
      · rename_i hx; exact head hx (Option.some.inj h)
      · cases h
    · rename_i b hb
      split at h
      · rename_i hx
        simp only [Bool.and_eq_true] at hx
        exact head hx.1 (Option.some.inj h)
      · cases h; exact tail hb

theorem chosenRun_holdingsOk (k : s.holdings.Ok) : (chosenRun s).holdings.Ok := by
  unfold chosenRun; split
  · refine k.chooseRun fun r hr d hd hs => ?_
    obtain ⟨e, he, rfl⟩ := Option.map_eq_some_iff.1 (Option.mem_def.1 hr)
    obtain ⟨hm, hel⟩ := chooseDescriptor_eligible he
    rw [show tget s.holdings.descriptors e.1 = some e.2 from tget_of_mem k.numbered hm] at hd
    cases hd
    simp [Descriptor.eligible, hs] at hel
  · exact k

theorem runTurn_holdingsOk {next : State → State} (hnext : ∀ t : State, t.holdings.Ok → (next t).holdings.Ok) (k : s.holdings.Ok) :
    (runTurn next s).holdings.Ok := by
  unfold runTurn; split
  · exact k
  · split
    · exact k
    · rename_i d hd
      split
      · exact hnext _ (dropDeposit_holdingsOk (fun _ => hd) k)
      · split
        · exact k
        · split
          · rw [show ∀ u : State, ({ u with intake.request := .pending } : State).holdings = u.holdings from fun _ => rfl, openStripe_holdings]
            exact k
          · exact k

theorem programmer_holdingsOk (n : Nat) (k : s.holdings.Ok) : (programmer n s).holdings.Ok := by
  induction n generalizing s with
  | zero => exact k
  | succ n ih =>
    rw [programmer_succ]; split
    · exact k
    · exact runTurn_holdingsOk (fun _ kt => ih kt) (chosenRun_holdingsOk k)

theorem intakeWritten_holdingsOk (op : ProgramOp) (k : s.holdings.Ok) : (intakeWritten op s).holdings.Ok := by
  unfold intakeWritten; split
  · exact k
  · rename_i r hr
    split
    · exact k
    · rename_i d hd
      refine enterReady_holdingsOk _ ?_
      rw [spaceCheck_holdings]
      refine k.takeLeaf (n := r.descriptor) (d := d) hd (k.run r hr d hd) rfl rfl rfl (leavesIn_recordLeaf _ _ _) fun x hx => ?_
      split at hx
      · cases hx
      · cases hx; rfl

end Sys2Proof.Machine
end

section
/-! StepKeepsCatalog: what the passes, the modes, the copy's commit and the end of an event do to the holdings. -/

namespace Sys2Proof.Machine

variable {s t : State}

theorem holdings_inStart (m : s.control.mode ≠ .start) : s.holdings.inStart = false := beq_eq_false_iff_ne.2 m

theorem Holdings.Ok.of_eq {h h' : Holdings} (k : h.Ok) (e : h' = h) : h'.Ok := e ▸ k

/-! ### The end of a pass -/

/-- The pass ends, and its output record is cleared. -/
def Holdings.passEnded (h : Holdings) : Holdings := { h with active := none, output := [] }

theorem stopActive_holdings (created : Bool) (s : State) : (stopActive created s).holdings = s.holdings.passEnded := by
  have h : (unstall .restore (detachFeeder .restore (endPassSource s))).holdings = s.holdings :=
    (detachFeeder_holdings .restore _).trans (endPassSource_holdings s)
  unfold stopActive
  simp only
  generalize unstall .restore (detachFeeder .restore (endPassSource s)) = u at h
  cases created with
  | true => exact congrArg Holdings.passEnded h
  | false => exact congrArg Holdings.passEnded ((extentsDie_holdings u.passes.output u).trans h)

theorem endActive_holdings (p : Pass) (o : PassOutcome) (c : Option PassCause) (s : State) :
    (endActive p o c s).holdings = s.holdings.passEnded := stopActive_holdings _ s

theorem endActive_holdingsOk (p : Pass) (o : PassOutcome) (c : Option PassCause) (k : s.holdings.Ok) :
    (endActive p o c s).holdings.Ok := by
  rw [endActive_holdings]; exact k.endPass

theorem abortQueued_holdingsOk (pick : Pass → Bool) (c : PassCause) (k : s.holdings.Ok) : (abortQueued pick c s).holdings.Ok := by
  unfold abortQueued
  simp only
  rw [foldl_holdings (fun s p => recordResult p .aborted (some c) s) (fun _ _ => rfl)]
  exact k.shortenQueue fun _ hp => (List.mem_filter.1 hp).1

theorem abortPasses_holdingsOk (pick : Pass → Bool) (c : PassCause) (k : s.holdings.Ok) : (abortPasses pick c s).holdings.Ok := by
  refine abortQueued_holdingsOk pick c ?_
  split
  · split
    · exact endActive_holdingsOk _ _ _ k
    · exact k
  · exact k

theorem resetPasses_holdingsOk (k : s.holdings.Ok) : (resetPasses s).holdings.Ok := by
  have empty : ∀ u : State, u.holdings.Ok → ({ u with passes.queue := [] } : State).holdings.Ok := fun u ku => ku.shortenQueue nofun
  unfold resetPasses
  refine empty _ ?_
  split
  · rw [stopActive_holdings]; exact k.endPass
  · exact k

/-! ### The start of a pass -/

theorem kindOf_kindCode (k : Kind) : kindOf (kindCode k) = some k := by cases k <;> rfl

/-- A key's name on the line names it alone. -/
theorem keyOf_wire {k k' : Key} (h : keyOf k.wire = some k') : k' = k := by
  unfold keyOf Key.wire at h
  simp only [kindOf_kindCode] at h
  split at h
  · exact (Option.some.inj h).symm
  · cases h

theorem seeObject_keyOf {p : Port} {w : WireKey} {e : Edition} {o : Object} (h : s.seeObject p w = .ok (e, o)) :
    ∃ k, keyOf w = some k ∧ s.object k = some o := by
  unfold State.seeObject at h
  split at h
  · cases h
  · split at h
    · cases h
    · rename_i k hk
      split at h
      · cases h
      · rename_i o' ho
        split at h
        · cases h
        · cases h; exact ⟨k, hk, ho⟩

/-- A pass that passes its checks finds room in its object for a version and for its number. -/
theorem passChecks_room {k : Key} {x : Source} {o : Object} {v : Version} (h : s.passChecks k.wire x = .ok (o, v)) :
    s.object k = some o ∧ o.versions.length < Config.versionsPerObject ∧ o.lastNumber < 255 := by
  unfold State.passChecks at h
  split at h
  · cases h
  · rename_i e o' hs
    split at h
    · cases h
    · split at h
      · cases h
      · cases h
      · split at h
        · cases h
        · split at h
          · cases h
          · rename_i hroom
            cases h
            obtain ⟨k', hk', ho⟩ := seeObject_keyOf hs
            rw [keyOf_wire hk'] at ho
            exact ⟨ho, by omega, by omega⟩

/-- A pass that starts has written nothing of a body that has octets, and its new number is above its object's last. -/
theorem startPass_holdingsOk {p : Pass} (m : s.control.mode ≠ .start) (ha : s.passes.active = none) (hp : p.written = 0)
    (k : s.holdings.Ok) : (startPass p s).holdings.Ok := by
  unfold startPass
  split
  · exact k
  · rename_i o v hc
    obtain ⟨ho, hroom, hlast⟩ := passChecks_room hc
    obtain ⟨-, hv⟩ := passChecks_mem hc
    have hlen := ((k.objects _ (mem_of_tget ho)).leaves v hv).1
    have hout : s.passes.output = [] := k.output (holdings_inStart m) (congrArg (Option.map _) ha)
    have started := k.putActive (holdings_inStart m) (p := ⟨p.key, some ⟨v.number, v.serial, v.length⟩, some (o.lastNumber + 1), p.written⟩)
      (output := s.passes.output) ⟨by rw [hout, hp]; rfl, fun b hb => by cases hb; exact hp ▸ (leavesOf_pos_iff _).2 hlen, fun n hn => by
        cases hn
        refine ⟨⟨Nat.le_add_left 1 _, hlast⟩, fun o' ho' => ?_⟩
        rw [show tget s.holdings.objects p.key.code = some o from ho] at ho'
        cases ho'
        exact ⟨Nat.lt_succ_self _, hroom⟩⟩
    have accepted := acceptPassSource_holdings (newStream 0 .passSource p.key v 0 v.length) s
    simp only
    generalize acceptPassSource (newStream 0 .passSource p.key v 0 v.length) s = u at accepted
    have active : ∀ q : Pass, q.progress = ⟨p.key, some ⟨v.number, v.serial, v.length⟩, some (o.lastNumber + 1), p.written⟩ →
        ({ u with passes.active := some q } : State).holdings.Ok := fun q hq => by
      rw [show ({ u with passes.active := some q } : State).holdings = { u.holdings with active := some q.progress } from rfl, hq, accepted]
      exact started
    split <;> exact active _ rfl

theorem startPasses_holdingsOk (n : Nat) (k : s.holdings.Ok) : (startPasses n s).holdings.Ok := by
  induction n generalizing s with
  | zero => exact k
  | succ n ih =>
    unfold startPasses; split
    · rename_i p rest ha hq
      have hp : p ∈ s.holdings.queue := by rw [show s.holdings.queue = _ from hq]; simp
      have m : s.control.mode ≠ .start := fun m => by
        have := (k.start (beq_iff_eq.2 m)).2.2
        rw [this] at hp; cases hp
      refine ih (startPass_holdingsOk (s := { s with passes.queue := rest }) m ha (k.queued p hp) (k.shortenQueue fun q h => ?_))
      rw [show s.holdings.queue = _ from hq]
      simp [h]
    · exact k

/-! ### The work of a pass -/

/-- The active pass goes on with the same progress: what the view does not show changes. -/
theorem goOn_holdingsOk {p : Pass} (ha : s.passes.active = some p) (k : s.holdings.Ok)
    (ht : t.holdings = { s.holdings with active := some p.progress }) : t.holdings.Ok := by
  refine k.of_eq (ht.trans ?_)
  unfold State.holdings
  rw [ha]
  rfl

theorem surveyEnds_holdingsOk {p : Pass} (st : Stream) (ha : s.passes.active = some p) (k : s.holdings.Ok) :
    (surveyEnds p st s).holdings.Ok := by
  unfold surveyEnds
  simp only
  split
  · exact endActive_holdingsOk _ _ _ (goOn_holdingsOk ha k rfl)
  · generalize hu : ({ s with passes.histogram := _, passes.active := some { p with profile := _ } } : State) = u
    have surveyed : u.holdings = { s.holdings with active := some p.progress } := by rw [← hu]; rfl
    have moved : (readersFall st.snapshot (readersRise st.snapshot u)).holdings = u.holdings :=
      (readersFall_holdings _ _).trans (readersRise_holdings _ u)
    generalize readersFall st.snapshot (readersRise st.snapshot u) = v at moved
    refine goOn_holdingsOk ha k ?_
    calc _ = { v.holdings with active := some p.progress } := rfl
      _ = _ := by rw [moved, surveyed]

theorem passTake_holdingsOk (k : s.holdings.Ok) : (passTake s).holdings.Ok := by
  unfold passTake; split
  · rename_i p st ha _
    split
    · exact k
    · simp only
      split
      · exact k
      · split
        · exact k
        · exact surveyEnds_holdingsOk _ ha k
      · split
        · exact k
        · split
          · exact goOn_holdingsOk ha k rfl
          · rw [endPassSource_holdings]; exact goOn_holdingsOk ha k rfl
  · exact k

theorem presentOutput_holdingsOk (k : s.holdings.Ok) : (presentOutput s).holdings.Ok := by
  unfold presentOutput; split
  · exact k
  · rename_i p ha
    refine iteInduction (motive := fun t : State => t.holdings.Ok) (fun _ => k) fun _ => ?_
    split
    · exact endActive_holdingsOk _ _ _ k
    · split
      · exact goOn_holdingsOk ha k rfl
      · split
        · exact goOn_holdingsOk ha k (congrArg (fun h : Holdings => { h with active := some p.progress }) (openStripe_holdings _ s))
        · exact k

/-- A version is added at the tail of the list under a number above the last one. -/
theorem ObjectOk.addVersion {o : Object} (k : ObjectOk o) {v : Version} (hlast : o.lastNumber < v.number) (hmax : v.number ≤ 255)
    (hroom : o.versions.length < Config.versionsPerObject) (hv : 1 ≤ v.length ∧ leavesIn v.extents = leavesOf v.length) :
    ObjectOk { o with versions := o.versions ++ [v], lastNumber := v.number } := by
  have below : ∀ u ∈ o.versions, u.number < v.number := fun u hu => (k.last.2 u hu).trans_lt hlast
  refine ⟨?_, ?_, ⟨hmax, fun u hu => ?_⟩, fun u hu => ?_⟩
  · simp only [List.length_append, List.length_singleton]
    omega
  · rw [List.map_append, List.pairwise_append]
    refine ⟨k.rising, List.pairwise_singleton _ _, fun a ha b hb => ?_⟩
    obtain ⟨u, hu, rfl⟩ := List.mem_map.1 ha
    cases List.mem_singleton.1 hb
    exact below u hu
  · rcases List.mem_append.1 hu with hu | hu
    · exact (below u hu).le
    · cases List.mem_singleton.1 hu; exact Nat.le_refl _
  · rcases List.mem_append.1 hu with hu | hu
    · exact k.leaves u hu
    · cases List.mem_singleton.1 hu; exact hv

/-- The last leaf creates the version or ends the pass without it. -/
theorem createVersion_holdings (p : Pass) (s : State) : (createVersion p s).holdings = s.holdings.passEnded ∨
    ∃ b n o, p.bound = some b ∧ p.newNumber = some n ∧ s.object p.key = some o ∧ (createVersion p s).holdings
      = (s.putObject { o with versions := o.versions ++ [passVersion p b n s], lastNumber := n }).holdings.passEnded := by
  unfold createVersion; split
  · rename_i b n o e hb hn ho _
    split
    · exact .inr ⟨b, n, o, hb, hn, ho, endActive_holdings _ _ _ _⟩
    · exact .inl (endActive_holdings _ _ _ _)
  · exact .inl (endActive_holdings _ _ _ _)

/-- A leaf of a pass is written: the output record and the count take it, or the version is created with all of them. -/
theorem passWritten_holdingsOk (op : ProgramOp) (k : s.holdings.Ok) : (passWritten op s).holdings.Ok := by
  unfold passWritten; split
  · exact k
  · rename_i p ha
    have active : p.progress ∈ s.holdings.active := by unfold State.holdings; rw [ha]; rfl
    have m : s.holdings.inStart = false := by
      cases hs : s.holdings.inStart with
      | false => rfl
      | true => rw [(k.start hs).2.1] at active; cases active
    have r := k.progress _ active
    have recorded : leavesIn (recordLeaf s.passes.output op.stripe op.place) = p.written + 1 := by
      rw [leavesIn_recordLeaf]; exact congrArg (· + 1) r.recorded
    have ended := k.endPass
    simp only
    generalize hq : ({ p with written := p.written + 1, leaf := [], request := .none } : Pass) = q
    have hprog : q.progress = ⟨p.key, p.bound, p.newNumber, p.written + 1⟩ := by rw [← hq]; rfl
    have hkey : q.key = p.key := by rw [← hq]
    have hbound : q.bound = p.bound := by rw [← hq]
    have hnumber : q.newNumber = p.newNumber := by rw [← hq]
    have hwritten : q.written = p.written + 1 := by rw [← hq]
    generalize hu : ({ liveRises op.stripe 1 { s with passes.output := recordLeaf s.passes.output op.stripe op.place } with
      passes.active := some q } : State) = u
    have hholds : u.holdings
        = { s.holdings with output := recordLeaf s.passes.output op.stripe op.place, active := some q.progress } := by rw [← hu]; rfl
    have hempty : u.holdings.passEnded = s.holdings.passEnded := by rw [hholds]; rfl
    split
    · rename_i hall
      rcases createVersion_holdings q u with h | ⟨b, n, o, hb, hn, ho, h⟩
      · rw [h, hempty]; exact ended
      · rw [h]
        have ho : tget s.holdings.objects p.key.code = some o := by rw [← hkey, ← ho, ← hu]; rfl
        obtain ⟨⟨-, hmax⟩, hfree⟩ := r.number n (hnumber.symm.trans hn)
        obtain ⟨hlast, hroom⟩ := hfree o ho
        have hlt := r.unfinished b (hbound.symm.trans hb)
        simp only [Pass.allWritten, hb, decide_eq_true_eq, hwritten] at hall
        have hleaves : leavesIn u.passes.output = leavesOf b.length := by
          rw [show u.passes.output = _ from congrArg Holdings.output hholds]
          exact recorded.trans (Nat.le_antisymm hlt hall)
        have hok : ObjectOk { o with versions := o.versions ++ [passVersion q b n u], lastNumber := n } :=
          (k.objects _ (mem_of_tget ho)).addVersion (v := passVersion q b n u) hlast hmax hroom
            ⟨(leavesOf_pos_iff _).1 ((Nat.zero_le _).trans_lt hlt), hleaves⟩
        have created := ended.putObject hok nofun
        refine created.of_eq ?_
        calc _ = { u.holdings.passEnded with objects := tput u.holdings.objects o.key.code { o with
                versions := o.versions ++ [passVersion q b n u], lastNumber := n } } := rfl
          _ = _ := by rw [hempty, hholds]; rfl
    · rename_i hmore
      rw [hholds, hprog]
      refine k.putActive m ⟨recorded, fun b hb => ?_, r.number⟩
      simpa [Pass.allWritten, hbound, show p.bound = some b from hb, hwritten] using hmore

theorem passFailed_holdings (s : State) : (passFailed s).holdings = s.holdings := by
  unfold passFailed; split
  · rfl
  · rename_i p ha; exact putActive_holdings (q := { p with request := .none }) ha rfl

/-! ### The copy's commit -/

/-- An extent gives place to one with as many leaves. -/
theorem leavesIn_set {es : List Extent} {i : Nat} {a e : Extent} (h : es[i]? = some a) (he : e.count = a.count) :
    leavesIn (es.set i e) = leavesIn es := by
  induction es generalizing i with
  | nil => rfl
  | cons x es ih =>
    cases i with
    | zero => cases h; simp [leavesIn, he]
    | succ i =>
      have := ih (i := i) h
      simp only [leavesIn, List.set_cons_succ, List.map_cons, List.sum_cons] at this ⊢
      rw [this]

theorem ObjectOk.eq_of_number {o : Object} (k : ObjectOk o) {u v : Version} (hu : u ∈ o.versions) (hv : v ∈ o.versions)
    (h : u.number = v.number) : u = v :=
  List.inj_on_of_nodup_map (k.rising.imp Nat.ne_of_lt) hu hv h

theorem commit_holdingsOk {c : Copy} (d : Nat × Nat) (hc : s.copyValid c = true) (k : s.holdings.Ok) : (commit c d s).holdings.Ok := by
  unfold commit
  split
  · exact k
  · rename_i o ho
    refine mapVersion_holdingsOk k ho fun v hv hnum _ => ⟨rfl, rfl, ?_⟩
    unfold State.copyValid State.held at hc
    rw [ho] at hc
    split at hc
    · rename_i w hw
      have hf := List.find?_some hw
      simp only [Bool.and_eq_true, beq_iff_eq] at hf
      have : v = w := (k.objects _ (mem_of_tget ho)).eq_of_number hv (List.mem_of_find?_eq_some hw) (hnum.trans hf.1.symm)
      subst this
      exact leavesIn_set (beq_iff_eq.1 hc) rfl
    · cases hc

theorem copyWritten_holdingsOk (k : s.holdings.Ok) : (copyWritten s).holdings.Ok := by
  unfold copyWritten; split
  · exact k
  · split
    · exact k
    · simp only
      split
      · rw [endCopy_holdings]
        unfold commitCopy; split
        · split
          · rename_i hc; exact commit_holdingsOk _ hc k
          · exact k
        · exact k
      · rw [copyNext_holdings]; exact k

theorem feedWritten_holdingsOk (op : ProgramOp) (k : s.holdings.Ok) : (feedWritten op s).holdings.Ok := by
  unfold feedWritten; split
  · exact k
  · split
    · exact intakeWritten_holdingsOk op k
    · exact passWritten_holdingsOk op k
    · exact copyWritten_holdingsOk k

theorem feedFailed_holdings (op : ProgramOp) (s : State) : (feedFailed op s).holdings = s.holdings := by
  unfold feedFailed; split
  · rfl
  · split
    · rfl
    · exact passFailed_holdings s
    · exact copyFailed_holdings s

/-! ### Modes -/

theorem setMode_holdings {m : Mode} (h : s.control.mode ≠ .start) (hm : m ≠ .start) (c : Option PreserveCause) :
    ({ s with control.mode := m, control.cause := c } : State).holdings = s.holdings := by
  have e : (m == .start) = (s.control.mode == .start) := by rw [beq_eq_false_iff_ne.2 h, beq_eq_false_iff_ne.2 hm]
  unfold State.holdings
  simp only [e]

theorem enterPreserve_holdingsOk (c : PreserveCause) (m : s.control.mode ≠ .start) (k : s.holdings.Ok) :
    (enterPreserve c s).holdings.Ok := by
  unfold enterPreserve
  rw [notifyAll_holdings]
  show (abandonRound _).holdings.Ok
  rw [abandonRound_holdings]
  refine abortPasses_holdingsOk _ _ ?_
  rw [setMode_holdings m (by simp)]
  exact k

theorem retireAction_holdingsOk (k : s.holdings.Ok) : (retireAction s).holdings.Ok := by
  unfold retireAction; split
  · rename_i h; exact enterPreserve_holdingsOk _ (by simp [h]) k
  · exact k
  · exact k

theorem judgeRetire_holdingsOk (k : s.holdings.Ok) : (judgeRetire s).holdings.Ok := by
  unfold judgeRetire; split
  · exact retireAction_holdingsOk k
  · exact k

theorem damageAction_holdingsOk (k : s.holdings.Ok) : (damageAction s).holdings.Ok := by
  unfold damageAction; split
  · rename_i h; exact enterPreserve_holdingsOk _ (by simp [h]) k
  · exact k

theorem reportDamage_holdingsOk {c : Key} {number serial : Nat} {stop : State → State}
    (h : ∀ s : State, s.holdings.Ok → (stop s).holdings.Ok) (k : s.holdings.Ok) :
    (reportDamage c number serial stop s).holdings.Ok := by
  unfold reportDamage; split
  · rename_i t ht; exact damageAction_holdingsOk (h t (markDamaged_holdingsOk ht k))
  · exact h s k

theorem retireStripe_holdingsOk (n : Nat) (k : s.holdings.Ok) : (retireStripe n s).holdings.Ok := judgeRetire_holdingsOk k

theorem leaveFullLoop_holdingsOk (kept n : Nat) (k : s.holdings.Ok) : (leaveFullLoop kept n s).holdings.Ok := by
  induction n generalizing s with
  | zero => exact k
  | succ n ih =>
    unfold leaveFullLoop; split
    · exact k
    · rename_i j _
      refine ih ?_
      unfold leaveFullOne; split
      · exact retireStripe_holdingsOk j k
      · exact k

theorem takeHeads_holdingsOk (n : Nat) (k : s.holdings.Ok) : (takeHeads n s).holdings.Ok := by
  induction n generalizing s with
  | zero => exact k
  | succ n ih =>
    unfold takeHeads; split
    · exact k
    · split
      · exact k
      · split
        · exact k
        · split
          · exact ih (retireStripe_holdingsOk _ k)
          · exact k

theorem eraseEngine_holdingsOk (k : s.holdings.Ok) : (eraseEngine s).holdings.Ok := takeHeads_holdingsOk _ k

/-! ### The end of an event -/

theorem settleRound_holdingsOk (kept : Nat) (k : s.holdings.Ok) : (settleRound kept s).holdings.Ok := by
  unfold settleRound
  rw [engine_holdings]
  exact presentOutput_holdingsOk (passTake_holdingsOk (passTake_holdingsOk (programmer_holdingsOk _ (startPasses_holdingsOk _
    (leaveFullLoop_holdingsOk kept _ k)))))

theorem settle_holdingsOk (k : s.holdings.Ok) : (settle s).holdings.Ok := by
  unfold settle; split
  · exact k
  · rw [arbitrate_holdings, presentSource_holdings, presentStream_holdings, presentStream_holdings, presentStream_holdings]
    exact settleRound_holdingsOk _ (eraseEngine_holdingsOk (settleRound_holdingsOk _ (settleRound_holdingsOk _ (settleRound_holdingsOk _
      (eraseEngine_holdingsOk k)))))

theorem conclude_holdingsOk (k : s.holdings.Ok) : (conclude s).holdings.Ok := by
  unfold conclude
  rw [transmitAll_holdings, judgeConditions_holdings]
  exact settle_holdingsOk k

end Sys2Proof.Machine
end

section
/-! StepKeepsCatalog: what the requests do to the holdings. -/

namespace Sys2Proof.Machine

variable {s t : State}

/-! ### The requests that leave the holdings as they are -/

theorem openEdition_holdings (p : Port) (d n : Nat) (s : State) : (openEdition p d n s).1.holdings = s.holdings := by
  unfold openEdition; simp only; split_ifs <;> rfl

theorem closeEdition_holdings (p : Port) (h : Nat) (r : Stamp) (s : State) : (closeEdition p h r s).1.holdings = s.holdings := by
  unfold closeEdition; split
  · rfl
  · iterate 3
      split
      · rfl
    simp only; split
    · exact publish_holdings _ _
    · rfl

theorem reinstateEdition_holdings (p : Port) (h : Nat) (s : State) : (reinstateEdition p h s).1.holdings = s.holdings := by
  unfold reinstateEdition; split
  · rfl
  · split
    · rfl
    · exact notifyAll_holdings _ _ _

theorem readObject_holdings (p : Port) (w : WireKey) (v : Source) (a b : Nat) (s : State) :
    (readObject p w v a b s).1.holdings = s.holdings := by
  unfold readObject
  iterate 3
    split
    · rfl
  split
  · rfl
  · split
    · rfl
    · exact acceptStream_holdings _ _ s

theorem cancelStream_holdings (p : Port) (id : Nat) (s : State) : (cancelStream p id s).1.holdings = s.holdings := by
  unfold cancelStream; split
  · exact cutStream_holdings _ _ _ _ s
  · split <;> rfl

theorem openAccount_holdings (id c l : Nat) (s : State) : (openAccount id c l s).1.holdings = s.holdings := by
  unfold openAccount; split_ifs <;> rfl

theorem setAccount_holdings (id c l : Nat) (s : State) : (setAccount id c l s).1.holdings = s.holdings := by
  unfold setAccount; simp only; split_ifs <;> rfl

theorem creditAccount_holdings (id n : Nat) (s : State) : (creditAccount id n s).1.holdings = s.holdings := by
  unfold creditAccount; simp only; split_ifs <;> rfl

theorem suspendAccount_holdings (id : Nat) (s : State) : (suspendAccount id s).1.holdings = s.holdings := by
  unfold suspendAccount; simp only; split
  · rfl
  · split
    · rfl
    · rfl
    · exact releaseOrders_holdings _ _ _ _

theorem reinstateAccount_holdings (id : Nat) (s : State) : (reinstateAccount id s).1.holdings = s.holdings := by
  unfold reinstateAccount; simp only; split
  · rfl
  · split <;> rfl

theorem closeAccount_holdings (id : Nat) (s : State) : (closeAccount id s).1.holdings = s.holdings := by
  unfold closeAccount; simp only; split_ifs <;> rfl

theorem registerContributor_holdings (id : Nat) (s : State) : (registerContributor id s).1.holdings = s.holdings := by
  unfold registerContributor; simp only; split_ifs <;> rfl

theorem setContributorState_holdings (id x : Nat) (s : State) : (setContributorState id x s).1.holdings = s.holdings := by
  unfold setContributorState; simp only; split
  · rfl
  · split_ifs <;> rfl

theorem setShare_holdings (id x : Nat) (s : State) : (setShare id x s).1.holdings = s.holdings := by
  unfold setShare; simp only; split_ifs <;> rfl

theorem setTariff_holdings (k u c a b n m : Nat) (s : State) : (setTariff k u c a b n m s).1.holdings = s.holdings := by
  unfold setTariff; split
  · split <;> rfl
  · rfl

theorem setTariffGlobals_holdings (g : Globals) (s : State) : (setTariffGlobals g s).1.holdings = s.holdings := by
  unfold setTariffGlobals; split <;> rfl

theorem placeOrder_holdings (a : Nat) (q : Sale) (s : State) : (s.placeOrder a q).1.holdings = s.holdings := by
  unfold State.placeOrder; simp only; split
  · rfl
  · split
    · rfl
    · split
      · rfl
      · exact acceptStream_holdings _ _ _

theorem order_holdings (a : Nat) (w : WireKey) (u n : Nat) (s : State) : (order a w u n s).1.holdings = s.holdings := by
  unfold order; split
  · rfl
  · split
    · rfl
    · rfl
    · split
      · rfl
      · iterate 2
          split
          · rfl
        split
        · rfl
        · exact placeOrder_holdings _ _ s

theorem setPeriodLength_holdings (d : Nat) (s : State) : (setPeriodLength d s).1.holdings = s.holdings := by
  unfold setPeriodLength; split <;> rfl

theorem closeAttempt_holdings (s : State) : (closeAttempt s).holdings = s.holdings := by
  unfold closeAttempt; simp only; split <;> rfl

theorem releaseStatements_holdings (n : Nat) (s : State) : (releaseStatements n s).1.holdings = s.holdings := by
  unfold releaseStatements; simp only; split <;> rfl

theorem setClock_holdings (d m : Nat) (s : State) : (setClock d m s).1.holdings = s.holdings := by
  unfold setClock; split <;> rfl

theorem postMessage_holdings (p : Port) (b : BitVec 8) (x : List Octet) (s : State) : (postMessage p b x s).1.holdings = s.holdings := by
  unfold postMessage; simp only
  iterate 2
    split
    · rfl
  exact foldl_holdings (fun s t => deliver ⟨p, x⟩ t s) (fun _ _ => rfl) _ s

theorem takeMessage_holdings (p : Port) (s : State) : (takeMessage p s).1.holdings = s.holdings := by
  unfold takeMessage; split <;> rfl

theorem answerFrame_holdings (p : Port) (tag : Octet) (a b : Status) (s : State) : (answerFrame p tag a b s).holdings = s.holdings := by
  unfold answerFrame; split
  · rfl
  · split
    · rw [transmit_holdings, refuse_holdings]
    · rw [transmit_holdings, reply_holdings]

theorem resumeWrites_holdings (s : State) : (resumeWrites s).1.holdings = s.holdings := by
  unfold resumeWrites; split
  · rfl
  · rename_i m
    split
    · rfl
    · have m : s.control.mode = .preserve := by simpa using m
      exact (notifyAll_holdings _ _ _).trans (setMode_holdings (by simp [m]) (by simp) none)

/-! ### The editions -/

theorem abandonEdition_holdingsOk (p : Port) (h : Nat) (k : s.holdings.Ok) : (abandonEdition p h s).1.holdings.Ok := by
  unfold abandonEdition; split
  · exact k
  · split
    · exact k
    · simp only
      rw [withdrawCopy_holdings]
      exact removeObjects_holdingsOk h (dropDeposits_holdingsOk (fun _ he => (List.mem_filter.1 he).1) k)

theorem withdrawEdition_holdingsOk (p : Port) (h : Nat) (k : s.holdings.Ok) : (withdrawEdition p h s).1.holdings.Ok := by
  unfold withdrawEdition; split
  · exact k
  · split
    · exact k
    · refine abortPasses_holdingsOk _ _ ?_
      rw [releaseOrders_holdings, notifyAll_holdings]
      exact k

theorem purgeEdition_holdingsOk (p : Port) (h : Nat) (k : s.holdings.Ok) : (purgeEdition p h s).1.holdings.Ok := by
  unfold purgeEdition; split
  · exact k
  · split
    · exact k
    · simp only
      rw [withdrawCopy_holdings]
      exact removeObjects_holdingsOk h k

theorem discardVersion_holdingsOk (p : Port) (w : WireKey) (n : Nat) (k : s.holdings.Ok) : (discardVersion p w n s).1.holdings.Ok := by
  unfold discardVersion; split
  · exact k
  · rename_i e o ho
    split
    · exact k
    · split
      · exact k
      · split
        · exact k
        · obtain ⟨c, hc⟩ := seeObject_object ho
          simp only
          rw [withdrawCopy_holdings]
          exact removeVersion_holdingsOk hc _ k

/-! ### The deposits -/

/-- The descriptor that BEGIN_OBJECT takes is free. -/
theorem beginChecks_free {p : Port} {c : Nat} {ks : List Key} {n : Nat} (h : s.beginChecks p c ks = .ok n) : s.descriptor n = none := by
  unfold State.beginChecks at h
  simp only at h
  iterate 4
    split at h
    · cases h
  split at h
  · cases h
  · rename_i m hm
    split at h
    · cases h
    · cases h
      unfold State.beginChecks.firstFree lowestFree at hm
      have := List.find?_some hm
      simp only [Bool.not_eq_true', List.contains_eq_mem, decide_eq_false_iff_not] at this
      cases hd : s.descriptor n with
      | none => rfl
      | some d => exact absurd (List.mem_map.2 ⟨_, mem_of_tget hd, rfl⟩) this

theorem beginObject_holdingsOk (p : Port) (h kind number length rights contributor format : Nat) (ps : List WireKey)
    (m : s.control.mode ≠ .start) (k : s.holdings.Ok) :
    (beginObject p h kind number length rights contributor format ps s).1.holdings.Ok := by
  unfold beginObject; split
  · exact k
  · iterate 2
      split
      · exact k
    split
    · exact k
    · split
      · exact k
      · split
        · split
          · exact k
          · rename_i hargs
            simp only [Bool.not_eq_true', Bool.not_eq_false, Bool.and_eq_true, decide_eq_true_eq] at hargs
            split
            · exact k
            · rename_i n hn
              exact k.putDescriptor (holdings_inStart m)
                ⟨hargs.1.1.1, k.records (holdings_inStart m) n (beginChecks_free hn)⟩ (by simp [begunDescriptor])
        · exact k

/-- A descriptor that is not DROPPED takes a change that its record does not show. -/
theorem putHeld_holdingsOk {n : Nat} {d d' : Descriptor} (hd : s.descriptor n = some d) (hdrop : d.state ≠ .dropped)
    (hdrop' : d'.state ≠ .dropped) (hlen : d'.length = d.length) (hprog : d'.programmed = d.programmed) (k : s.holdings.Ok) :
    (s.putDescriptor n d').holdings.Ok := by
  obtain ⟨h1, h2⟩ := k.deposits n d hd
  rw [if_neg hdrop] at h2
  exact k.putDescriptor (k.working_of_descriptor hd) ⟨hlen ▸ h1, by rw [if_neg hdrop', hprog]; exact h2⟩ hdrop'

theorem tellDropped_holdingsOk {n : Nat} {d : Descriptor} (hd : s.descriptor n = some d) (hs : d.state = .dropped) (k : s.holdings.Ok) :
    (tellDropped n d s).1.holdings.Ok := by
  refine k.freeDescriptor fun _ => ?_
  rw [(k.deposits n d hd).leaves, if_pos hs]

theorem putChunk_holdingsOk (p : Port) (n offset : Nat) (data : List Octet) (k : s.holdings.Ok) :
    (putChunk p n offset data s).1.holdings.Ok := by
  unfold putChunk; split
  · exact k
  · rename_i d hd
    have hd := holding_descriptor hd
    split
    · rename_i hs; exact tellDropped_holdingsOk hd hs k
    · rename_i hs
      split
      · exact k
      · iterate 4
          split
          · exact k
        split
        · exact k
        · exact putHeld_holdingsOk hd hs (d' := takeChunk data s.intake.nextSequence d) hs rfl rfl k

theorem endObject_holdingsOk (p : Port) (n : Nat) (check : BitVec 32) (k : s.holdings.Ok) : (endObject p n check s).1.holdings.Ok := by
  unfold endObject; split
  · exact k
  · rename_i d hd
    have hd := holding_descriptor hd
    split
    · rename_i hs; exact tellDropped_holdingsOk hd hs k
    · rename_i hs
      iterate 2
        split
        · exact k
      split
      · exact dropDeposit_holdingsOk (by simp) k
      · exact enterReady_holdingsOk _ (putHeld_holdingsOk hd hs (d' := { d with state := .ended }) (by simp) rfl rfl k)

theorem dropObject_holdingsOk (p : Port) (n : Nat) (k : s.holdings.Ok) : (dropObject p n s).1.holdings.Ok := by
  unfold dropObject; split
  · exact k
  · rename_i d hd
    split
    · rename_i hs; exact tellDropped_holdingsOk (holding_descriptor hd) hs k
    · exact dropDeposit_holdingsOk (by simp) k

/-! ### The passes and the settings -/

theorem submitPass_holdingsOk (w : WireKey) (x : Source) (a b c d e f : Nat) (m : s.control.mode ≠ .start) (k : s.holdings.Ok) :
    (submitPass w x a b c d e f s).1.holdings.Ok := by
  unfold submitPass
  iterate 4
    split
    · exact k
  exact k.enqueue (holdings_inStart m) rfl

theorem cancelPass_holdingsOk (id : Nat) (k : s.holdings.Ok) : (cancelPass id s).1.holdings.Ok := by
  unfold cancelPass; split
  · exact abortPasses_holdingsOk _ _ k
  · exact k

theorem setOperating_holdingsOk (a b c d e : Nat) (k : s.holdings.Ok) : (setOperating a b c d e s).1.holdings.Ok := by
  unfold setOperating; split
  · exact k
  · exact judgeRetire_holdingsOk k

/-! ### Serving a request -/

theorem serveWith_holdingsOk {after : State → State} {ports : List Port} {inStart : Bool} {f : Frame} {rule : State → State × Answer}
    (ha : ∀ t : State, t.holdings.Ok → (after t).holdings.Ok) (hr : screen ports inStart f s = none → (rule s).1.holdings.Ok)
    (k : s.holdings.Ok) : (serveWith after ports inStart f rule s).holdings.Ok := by
  unfold serveWith; split
  · exact k
  · split
    · rw [transmit_holdings, refuse_holdings]; exact k
    · split
      · rw [transmit_holdings, reply_holdings]; exact k
      · rename_i h
        exact ha _ (by rw [reply_holdings]; exact hr h)

theorem serve_holdingsOk {ports : List Port} {f : Frame} {rule : State → State × Answer}
    (hr : s.control.mode ≠ .start → (rule s).1.holdings.Ok) (k : s.holdings.Ok) : (serve ports f rule s).holdings.Ok :=
  serveWith_holdingsOk (fun t kt => by rw [transmit_holdings]; exact kt) (fun h => hr (mode_of_screen h)) k

theorem serveSettling_holdingsOk {ports : List Port} {f : Frame} {rule : State → State × Answer}
    (hr : s.control.mode ≠ .start → (rule s).1.holdings.Ok) (k : s.holdings.Ok) : (serveSettling ports f rule s).holdings.Ok :=
  serveWith_holdingsOk (fun _ kt => conclude_holdingsOk kt) (fun h => hr (mode_of_screen h)) k

theorem serveAlways_holdings {f : Frame} {rule : State → State × Answer} (hr : (rule s).1 = s) :
    (serveAlways f rule s).holdings = s.holdings := by
  unfold serveAlways serveWith; split
  · rfl
  · split
    · rw [transmit_holdings, refuse_holdings]
    · split
      · rw [transmit_holdings, reply_holdings]
      · rw [transmit_holdings, reply_holdings, hr]

/-- A request whose rule leaves the holdings as they are. -/
theorem serve_holdings {ports : List Port} {f : Frame} {rule : State → State × Answer} (hr : (rule s).1.holdings = s.holdings)
    (k : s.holdings.Ok) : (serve ports f rule s).holdings.Ok := serve_holdingsOk (fun _ => k.of_eq hr) k

theorem serveSettling_holdings {ports : List Port} {f : Frame} {rule : State → State × Answer} (hr : (rule s).1.holdings = s.holdings)
    (k : s.holdings.Ok) : (serveSettling ports f rule s).holdings.Ok := serveSettling_holdingsOk (fun _ => k.of_eq hr) k

end Sys2Proof.Machine
end

section
/-! StepKeepsCatalog: what the events and the commands do to the holdings. -/

namespace Sys2Proof.Machine

variable {s t : State}

/-! ### The links and the clock -/

theorem resetPort_holdingsOk (p : Port) (k : s.holdings.Ok) : (resetPort p s).holdings.Ok := by
  have streams : (resetStreams p { s with links := s.links.set p { Link.reset with breakHeld := true } }).holdings.Ok :=
    k.of_eq (resetStreams_holdings p _)
  cases p with
  | desk => exact resetDeposits_holdingsOk .desk streams
  | bench => exact resetPasses_holdingsOk (resetDeposits_holdingsOk .bench streams)
  | counter => exact streams

theorem holdInStart_holdings (p : Port) (s : State) : (holdInStart p s).holdings = s.holdings := by
  unfold holdInStart; split <;> rfl

theorem stepCountdown_holdings (s : State) : (stepCountdown s).holdings = s.holdings := by
  unfold stepCountdown; split
  · rfl
  · simp only; split
    · exact closeAttempt_holdings _
    · rfl

theorem markDay_holdingsOk (k : s.holdings.Ok) : (markDay s).holdings.Ok := by
  unfold markDay; split
  · exact conclude_holdingsOk (k.of_eq (stepCountdown_holdings _))
  · exact k

theorem riseTick_holdings (s : State) : (riseTick s).holdings = s.holdings := by
  unfold riseTick; simp only; split
  · exact notifyAll_holdings _ _ _
  · rfl

theorem guardLine_holdingsOk (b : Bool) (k : s.holdings.Ok) : (guardLine b s).holdings.Ok := by
  unfold guardLine; simp only; split
  · exact conclude_holdingsOk k
  · exact k

theorem moveStatement_holdings (s : State) : (moveStatement s).holdings = s.holdings := by
  unfold moveStatement; split <;> rfl

/-! ### The store's completions -/

theorem soundFetch_holdings (op : FetchOp) (w : Wing) (body : List Octet) (s : State) : (soundFetch op w body s).holdings = s.holdings := by
  unfold soundFetch; split
  · rfl
  · exact mapActive_holdings _ _ s
  · rfl
  · exact mapCopy_holdings _ s

theorem passSourceDamaged_holdingsOk (k : s.holdings.Ok) : (passSourceDamaged s).holdings.Ok := by
  unfold passSourceDamaged; split
  · exact endActive_holdingsOk _ _ _ k
  · rw [endPassSource_holdings]; exact k

theorem damagedFetch_holdingsOk (op : FetchOp) (k : s.holdings.Ok) : (damagedFetch op s).holdings.Ok := by
  unfold damagedFetch; split
  · exact k
  · split
    · exact k
    · exact reportDamage_holdingsOk (fun s ks => ks.of_eq (cutStream_holdings _ _ _ _ s)) k
  · split
    · exact k
    · exact reportDamage_holdingsOk (fun _ ks => passSourceDamaged_holdingsOk ks) k
  · split
    · exact k
    · exact reportDamage_holdingsOk (fun _ ks => ks) k

theorem fetchDone_holdingsOk (w : Wing) (x : Option Sheet) (op : FetchOp) (k : s.holdings.Ok) : (fetchDone w x op s).holdings.Ok := by
  unfold fetchDone; simp only; split
  · rw [soundFetch_holdings]; exact k
  · exact damagedFetch_holdingsOk op k

theorem loseStripe_holdings (n : Nat) (s : State) : (loseStripe n s).holdings = s.holdings := by
  obtain ⟨x, i, h, -⟩ := loseStripe_flash n s; rw [h]; rfl

theorem eraseCompleted_holdingsOk (e : Bool) (n : Nat) (k : s.holdings.Ok) :
    (if e then eraseDone n s else eraseFailed n s).holdings.Ok := by
  split
  · exact k.of_eq (examineStalled_holdings _)
  · exact retireStripe_holdingsOk n (k.of_eq (loseStripe_holdings n s))

/-! ### The supply and start-up -/

/-- What power loss and the reset line leave of the holdings: the objects and the two records. -/
theorem loseVolatile_holdingsOk (k : s.holdings.Ok) (p q : Bool) :
    ({ loseVolatile s with control.powered := p, control.resetLine := q } : State).holdings.Ok := by
  obtain ⟨x, n, h, -⟩ := cutOperation_flash s
  unfold loseVolatile
  rw [h]
  exact
    { ordered := k.ordered, keyed := k.keyed, objects := k.objects, numbered := ordered_nil, filed := k.filed
      start := fun _ => ⟨rfl, rfl, rfl⟩
      deposits := nofun
      records := nofun
      run := nofun
      output := nofun
      progress := nofun
      queued := nofun }

theorem format_holdingsOk (s : State) : (format s).holdings.Ok where
  ordered := ordered_nil
  keyed := nofun
  objects := nofun
  numbered := ordered_nil
  filed := ordered_nil
  start _ := ⟨rfl, rfl, rfl⟩
  deposits := nofun
  records _ _ _ := rfl
  run := nofun
  output _ _ := rfl
  progress := nofun
  queued := nofun

/-- In START a stripe that leaves FULL takes no action. -/
theorem leaveFullLoop_holdings (kept n : Nat) (m : s.control.mode = .start) : (leaveFullLoop kept n s).holdings = s.holdings := by
  induction n generalizing s with
  | zero => rfl
  | succ n ih =>
    unfold leaveFullLoop; split
    · rfl
    · rename_i j _
      have one : (leaveFullOne kept j s).holdings = s.holdings := by
        unfold leaveFullOne; split
        · unfold retireStripe
          rw [judgeRetire_start (by exact m)]
          rfl
        · rfl
      have stays : (leaveFullOne kept j s).control.mode = .start := by
        have := congrArg Holdings.inStart one
        exact beq_iff_eq.1 (this.trans (beq_iff_eq.2 m))
      exact (ih stays).trans one

theorem recoverCatalog_holdings (s : State) : (recoverCatalog s).holdings = s.holdings := by
  refine foldl_holdings (fun s (e : Nat × Edition) => recoverEdition e.1 e.2 s) (fun s e => ?_) _ s
  unfold recoverEdition; split
  · split
    · exact publish_holdings _ s
    · exact returnToOpen_holdings _ s
  · rfl

/-- Recovery empties the two records. -/
theorem recover_holdings (m : s.control.mode = .start) : (recover s).holdings = { s.holdings with provisional := [], output := [] } := by
  have catalog : (recoverCatalog (recoverStore s)).holdings = s.holdings := by
    obtain ⟨x, hx⟩ := recoverStore_rest s
    rw [recoverCatalog_holdings, hx]
    rfl
  have cleared : (clearHeld (recoverOutputs (recoverCatalog (recoverStore s)))).holdings = { s.holdings with provisional := [], output := [] } := by
    rw [recoverOutputs_eq]
    generalize recoverCatalog (recoverStore s) = u at catalog
    exact congrArg (fun h : Holdings => { h with provisional := [], output := [] }) ((extentsDie_holdings _ u).trans catalog)
  have stays : (clearHeld (recoverOutputs (recoverCatalog (recoverStore s)))).control.mode = .start :=
    beq_iff_eq.1 ((congrArg Holdings.inStart cleared).trans (beq_iff_eq.2 m))
  exact (leaveFullLoop_holdings _ _ stays).trans cleared

/-- At start-up's end the holdings are in order, in START, and no record is left. -/
theorem recoverOrFormat_holdings (m : s.control.mode = .start) (k : s.holdings.Ok) : (recoverOrFormat s).holdings.Ok ∧
    (recoverOrFormat s).holdings.inStart = true ∧ (recoverOrFormat s).holdings.provisional = [] ∧
    (recoverOrFormat s).holdings.output = [] := by
  unfold recoverOrFormat; split
  · rw [recover_holdings (s := restartClock s) m]
    exact ⟨k.emptyRecords (beq_iff_eq.2 m), beq_iff_eq.2 m, rfl, rfl⟩
  · exact ⟨format_holdingsOk _, beq_iff_eq.2 m, rfl, rfl⟩

theorem leaveStart_holdings (s : State) : (leaveStart s).holdings = { s.holdings with inStart := false } := by
  obtain ⟨nts, cause, h⟩ := leaveStart_rest s
  have m : (s.leavingMode == .start) = false := by unfold State.leavingMode; split <;> rfl
  rw [h]
  show ({ s.holdings with inStart := s.leavingMode == .start } : Holdings) = _
  rw [m]

theorem startUpEnd_holdingsOk (m : s.control.mode = .start) (k : s.holdings.Ok) :
    (conclude (leaveStart (holdConditions (recoverOrFormat s)))).holdings.Ok := by
  obtain ⟨ready, starting, hp, ho⟩ := recoverOrFormat_holdings m k
  refine conclude_holdingsOk ?_
  rw [leaveStart_holdings, holdConditions_holdings]
  exact ready.leaveStart starting hp ho

/-! ### Every command -/

theorem holdingsOk_of_next {u : State} (k : u.holdings.Ok) (h : (.next u : Host.Outcome State Fault Refusal) = .next t) :
    t.holdings.Ok := by cases h; exact k

theorem startUp_holdingsOk {c : StartCause} (hr : s.control.mode = .start) (k : s.holdings.Ok) : (startUp c s).holdings.Ok := by
  refine k.of_eq ?_
  unfold State.holdings startUp
  rw [hr]

/-- Every command keeps the holdings in order. A part that has no power or is held in reset is in START. -/
theorem exec_holdingsOk {c : Instr} (halted : s.running = false → s.control.mode = .start) (k : s.holdings.Ok)
    (h : exec c s = .next t) : t.holdings.Ok := by
  cases c with
  | openEdition r d n => exact holdingsOk_of_next (serve_holdings (openEdition_holdings _ _ _ s) k) h
  | beginObject r a b c d e g i ps => exact holdingsOk_of_next (serve_holdingsOk (fun m => beginObject_holdingsOk _ _ _ _ _ _ _ _ _ m k) k) h
  | putChunk r n o d => exact holdingsOk_of_next (serveSettling_holdingsOk (fun _ => putChunk_holdingsOk _ _ _ _ k) k) h
  | endObject r n x => exact holdingsOk_of_next (serveSettling_holdingsOk (fun _ => endObject_holdingsOk _ _ _ k) k) h
  | dropObject r n => exact holdingsOk_of_next (serveSettling_holdingsOk (fun _ => dropObject_holdingsOk _ _ k) k) h
  | closeEdition r n x => exact holdingsOk_of_next (serveSettling_holdings (closeEdition_holdings _ _ _ s) k) h
  | abandonEdition r n => exact holdingsOk_of_next (serveSettling_holdingsOk (fun _ => abandonEdition_holdingsOk _ _ k) k) h
  | read r w v o l => exact holdingsOk_of_next (serveSettling_holdings (readObject_holdings _ _ _ _ _ s) k) h
  | withdrawEdition r n => exact holdingsOk_of_next (serveSettling_holdingsOk (fun _ => withdrawEdition_holdingsOk _ _ k) k) h
  | reinstateEdition r n => exact holdingsOk_of_next (serve_holdings (reinstateEdition_holdings _ _ s) k) h
  | purgeEdition r n => exact holdingsOk_of_next (serveSettling_holdingsOk (fun _ => purgeEdition_holdingsOk _ _ k) k) h
  | registerContributor r n => exact holdingsOk_of_next (serve_holdings (registerContributor_holdings _ s) k) h
  | setContributorState r n x => exact holdingsOk_of_next (serve_holdings (setContributorState_holdings _ _ s) k) h
  | setClock r d x => exact holdingsOk_of_next (serveSettling_holdings (setClock_holdings _ _ s) k) h
  | setOperating r a b c d e => exact holdingsOk_of_next (serveSettling_holdingsOk (fun _ => setOperating_holdingsOk _ _ _ _ _ k) k) h
  | resumeWrites r => exact holdingsOk_of_next (serveSettling_holdings (resumeWrites_holdings s) k) h
  | submitPass r w x m d l i n p => exact holdingsOk_of_next (serveSettling_holdingsOk (fun m => submitPass_holdingsOk _ _ _ _ _ _ _ _ m k) k) h
  | cancelPass r n => exact holdingsOk_of_next (serveSettling_holdingsOk (fun _ => cancelPass_holdingsOk _ k) k) h
  | passResult r => exact holdingsOk_of_next (serve_holdings rfl k) h
  | takeSurvey r => exact holdingsOk_of_next (serve_holdings rfl k) h
  | discardVersion r w n => exact holdingsOk_of_next (serveSettling_holdingsOk (fun _ => discardVersion_holdingsOk _ _ _ k) k) h
  | openAccount r a b c => exact holdingsOk_of_next (serve_holdings (openAccount_holdings _ _ _ s) k) h
  | setAccount r a b c => exact holdingsOk_of_next (serve_holdings (setAccount_holdings _ _ _ s) k) h
  | creditAccount r a b => exact holdingsOk_of_next (serve_holdings (creditAccount_holdings _ _ s) k) h
  | suspendAccount r a => exact holdingsOk_of_next (serveSettling_holdings (suspendAccount_holdings _ s) k) h
  | reinstateAccount r a => exact holdingsOk_of_next (serve_holdings (reinstateAccount_holdings _ s) k) h
  | closeAccount r a => exact holdingsOk_of_next (serve_holdings (closeAccount_holdings _ s) k) h
  | findAccount r a => exact holdingsOk_of_next (serve_holdings (congrArg _ (findAccount_state a s)) k) h
  | setShare r a b => exact holdingsOk_of_next (serve_holdings (setShare_holdings _ _ s) k) h
  | setTariff r x u c a b n m => exact holdingsOk_of_next (serve_holdings (setTariff_holdings _ _ _ _ _ _ _ s) k) h
  | setTariffGlobals r a b c d x p => exact holdingsOk_of_next (serve_holdings (setTariffGlobals_holdings _ s) k) h
  | setPeriodLength r d => exact holdingsOk_of_next (serve_holdings (setPeriodLength_holdings _ s) k) h
  | quote r a w u n => exact holdingsOk_of_next (serve_holdings (congrArg _ (quote_state a w u n s)) k) h
  | order r a w u n => exact holdingsOk_of_next (serveSettling_holdings (order_holdings _ _ _ _ s) k) h
  | closePeriod r => exact holdingsOk_of_next (serve_holdings (closeAttempt_holdings s) k) h
  | takeStatements r => exact holdingsOk_of_next (serve_holdings (congrArg _ (takeStatements_state s)) k) h
  | releaseStatements r n => exact holdingsOk_of_next (serve_holdings (releaseStatements_holdings _ s) k) h
  | findEdition r n => exact holdingsOk_of_next (serve_holdings (congrArg _ (findEdition_state _ n s)) k) h
  | findObject r w => exact holdingsOk_of_next (serve_holdings (congrArg _ (findObject_state _ w s)) k) h
  | cancelStream r n => exact holdingsOk_of_next (serveSettling_holdings (cancelStream_holdings _ _ s) k) h
  | status r => exact holdingsOk_of_next (k.of_eq (serveAlways_holdings rfl)) h
  | identify r => exact holdingsOk_of_next (k.of_eq (serveAlways_holdings rfl)) h
  | takeNotices r => exact holdingsOk_of_next (serve_holdings rfl k) h
  | setNoticeMask r x => exact holdingsOk_of_next (serve_holdings rfl k) h
  | postMessage r b x => exact holdingsOk_of_next (serve_holdings (postMessage_holdings _ _ _ s) k) h
  | takeMessage r => exact holdingsOk_of_next (serve_holdings (takeMessage_holdings _ s) k) h
  | unknownRequest p x c =>
    refine holdingsOk_of_next ?_ h
    split
    · exact k
    · exact k.of_eq (answerFrame_holdings _ _ _ _ s)
  | badFrame p x => exact holdingsOk_of_next (k.of_eq (answerFrame_holdings _ _ _ _ s)) h
  | busy p x m =>
    refine holdingsOk_of_next ?_ h
    split
    · exact k.of_eq (answerFrame_holdings _ _ _ _ s)
    · exact k
  | replySent p =>
    refine holdingsOk_of_next ?_ h
    split
    · exact k.of_eq (transmit_holdings _ _)
    · exact k
  | dataFrameSent p =>
    refine holdingsOk_of_next ?_ h
    split
    · exact conclude_holdingsOk (k.of_eq (creditFrame_holdings _ _ _ _))
    · exact k
  | endFrameSent p =>
    refine holdingsOk_of_next ?_ h
    split
    · exact conclude_holdingsOk k
    · exact k
  | sheetFetchComplete w d =>
    refine holdingsOk_of_next ?_ h
    split
    · exact k
    · rename_i op u hu
      exact conclude_holdingsOk (fetchDone_holdingsOk w d op (k.of_eq (takeFetch_holdings hu)))
  | leafProgramWritten =>
    refine holdingsOk_of_next ?_ h
    split
    · exact k
    · rename_i op u hu
      obtain ⟨-, rfl⟩ := takeProgram_some hu
      refine conclude_holdingsOk (feedWritten_holdingsOk op ?_)
      exact k
  | leafProgramFailed =>
    refine holdingsOk_of_next ?_ h
    split
    · exact k
    · rename_i op u hu
      obtain ⟨-, rfl⟩ := takeProgram_some hu
      exact conclude_holdingsOk (k.of_eq (feedFailed_holdings op _))
  | stripeEraseComplete e =>
    refine holdingsOk_of_next ?_ h
    split
    · exact k
    · rename_i n u hu
      obtain ⟨-, rfl⟩ := takeErase_some hu
      refine conclude_holdingsOk (eraseCompleted_holdingsOk e n ?_)
      exact k
  | dayMark => exact holdingsOk_of_next (markDay_holdingsOk k) h
  | tick =>
    refine holdingsOk_of_next ?_ h
    split
    · exact k.of_eq (riseTick_holdings s)
    · exact k
  | clockSaturated =>
    refine holdingsOk_of_next ?_ h
    split
    · exact k.of_eq (riseTick_holdings s)
    · exact k
  | countdownExpiry =>
    refine holdingsOk_of_next ?_ h
    split
    · exact markDay_holdingsOk k
    · exact k
  | storeGuardAsserted => exact holdingsOk_of_next (guardLine_holdingsOk true k) h
  | storeGuardReleased => exact holdingsOk_of_next (guardLine_holdingsOk false k) h
  | linkReset p =>
    refine holdingsOk_of_next ?_ h
    split
    · exact conclude_holdingsOk ((resetPort_holdingsOk p k).of_eq (holdInStart_holdings p _))
    · exact k
  | breakEnd p =>
    refine holdingsOk_of_next ?_ h
    split
    · exact k.of_eq (transmit_holdings _ _)
    · exact k
  | powerLoss =>
    refine holdingsOk_of_next ?_ h
    split
    · exact loseVolatile_holdingsOk k false _
    · exact k
  | resetLineAsserted =>
    refine holdingsOk_of_next ?_ h
    split
    · exact k
    · exact loseVolatile_holdingsOk k _ true
  | powerApplied =>
    refine holdingsOk_of_next ?_ h
    split
    · exact k
    · rename_i hp
      have m : s.control.mode = .start := halted (by simp [State.running, hp])
      simp only
      split
      · exact k
      · exact startUp_holdingsOk m k
  | resetLineReleased =>
    refine holdingsOk_of_next ?_ h
    split
    · rename_i hp
      have m : s.control.mode = .start := halted (by simp [State.running, hp])
      simp only
      split
      · exact startUp_holdingsOk m k
      · exact k
    · exact k
  | startUpEnd =>
    refine holdingsOk_of_next ?_ h
    split
    · rename_i hb
      simp only [Bool.and_eq_true, beq_iff_eq] at hb
      exact startUpEnd_holdingsOk hb.2 k
    · exact k
  | statementMove =>
    refine holdingsOk_of_next ?_ h
    split
    · exact k.of_eq (moveStatement_holdings s)
    · exact k

/-! ### The part at rest -/

/-- A part that has no power or is held in reset is in START. -/
theorem Event.halts (h : Event True s t) (k : s.running = false → s.control.mode = .start) :
    t.running = false → t.control.mode = .start := by
  cases h with
  | work h =>
    have e := Works.steady (.one h)
    rw [steady_running e, steady_mode e]
    exact k
  | fetches w op => obtain ⟨x, hx⟩ := putFetch_rest w op s; rw [hx]; exact k
  | fetched w op h => obtain ⟨⟨a, b, rfl⟩, -⟩ := takeFetch_idle h; exact k
  | buffers w op body h =>
    obtain ⟨⟨a, b, rfl⟩, -⟩ := takeFetch_idle h
    obtain ⟨x, hx⟩ := copyFetched_round w body { s with store.wings := .split a b }
    rw [hx]
    exact k
  | spoils w op h => obtain ⟨⟨a, b, rfl⟩, -⟩ := takeFetch_idle h; exact k
  | commits op r c d o =>
    unfold commit; split <;> exact k
  | cuts p q => exact fun _ => rfl
  | supplies p q m hr hm => exact fun _ => hm.elim (fun e => e.trans (k hr)) id
  | recovers m => obtain ⟨x, hx⟩ := recoverStore_rest s; rw [hx]; exact k
  | begins m h hm hr => exact fun e => absurd (e.symm.trans hr) (by simp)
  | _ => exact k

/-! ### The statement -/

/-- The catalog's clauses: the tables, the part at rest, and the holdings. -/
theorem catalogOk_iff : CatalogOk s ↔ TablesOk s ∧ (s.running = false → s.control.mode = .start) ∧ s.holdings.Ok := by
  have modes : s.holdings.inStart = true ↔ s.control.mode = .start := beq_iff_eq
  have works : s.holdings.inStart = false ↔ s.control.mode ≠ .start := beq_eq_false_iff_ne
  constructor
  · intro c
    refine ⟨c.tables, c.idle, ?_⟩
    exact
      { ordered := c.tables.objects, keyed := fun x hx => (c.tables.objectKeys x hx).1, objects := c.objects
        numbered := c.tables.descriptors, filed := c.tables.provisional
        start := fun m => by
          obtain ⟨hd, ha, hq⟩ := c.start (modes.1 m)
          exact ⟨hd, congrArg (Option.map _) ha, hq⟩
        deposits := fun n d hd => by
          obtain ⟨hl, hr⟩ := c.deposits (n, d) (mem_of_tget hd)
          exact ⟨hl, hr⟩
        records := fun m => c.records (works.1 m)
        run := c.run
        output := fun m ha => (c.output (works.1 m)).1 (Option.map_eq_none_iff.1 ha)
        progress := fun p hp => by
          obtain ⟨q, hq, rfl⟩ := Option.map_eq_some_iff.1 (Option.mem_def.1 hp)
          have m : s.control.mode ≠ .start := fun m => by rw [(c.start m).2.1] at hq; cases hq
          exact ⟨(c.output m).2 q hq, c.written q hq, c.number q hq⟩
        queued := c.queued }
  · rintro ⟨tables, idle, k⟩
    have progress : ∀ p, s.passes.active = some p → ProgressOk s.catalog.objects s.passes.output p.progress := fun p hp =>
      k.progress p.progress (by unfold State.holdings; rw [hp]; rfl)
    exact
      { tables := tables, idle := idle, objects := k.objects
        start := fun m => by
          obtain ⟨hd, ha, hq⟩ := k.start (modes.2 m)
          exact ⟨hd, Option.map_eq_none_iff.1 ha, hq⟩
        deposits := fun x hx => by
          obtain ⟨hl, hr⟩ := k.deposits x.1 x.2 (tget_of_mem k.numbered hx)
          exact ⟨hl, hr⟩
        records := fun m => k.records (works.2 m)
        run := k.run
        output := fun m => ⟨fun ha => k.output (works.2 m) (congrArg (Option.map _) ha), fun p hp => (progress p hp).recorded⟩
        written := fun p hp => (progress p hp).unfinished
        queued := k.queued
        number := fun p hp => (progress p hp).number }

/-- Settles O17: the tables are kept by `stepKeepsTables`, the part at rest by each change of an event (`Event.halts`), and every command
keeps the holdings in order (`exec_holdingsOk`). -/
theorem stepKeepsCatalog : Obligations.StepKeepsCatalog := by
  intro s t c h
  obtain ⟨tables, idle, k⟩ := catalogOk_iff.1 c
  refine catalogOk_iff.2 ⟨stepKeepsTables s t tables h, ?_, ?_⟩
  · exact step_keeps (fun _ => Sane.of_true s) (fun _ _ e => e.halts) idle h
  · unfold step at h
    split at h
    · cases h; exact k
    · rename_i c rest _
      exact exec_holdingsOk (s := { s with pending := rest }) idle k h

end Sys2Proof.Machine
end

section
/-! Chapter 2's requests as they are answered: what a port sees, the best version, what is hidden, the inquiries and OPEN_EDITION. -/

namespace Sys2Proof.Machine

variable {s t : State} {f : Frame} {ports : List Port} {rule : State → State × Answer} {a : Answer}

/-! ### Rules as they are answered -/

theorem serve_of_rule (h : Admitted ports f s) (hr : rule s = (t, a)) : serve ports f rule s = answered f a t := by
  rw [serve_of_admitted h, hr]

theorem serveSettling_of_rule (h : Admitted ports f s) (hr : rule s = (t, a)) : serveSettling ports f rule s = concluded f a t := by
  rw [serveSettling_of_admitted h, hr]

/-! ### What a port sees -/

theorem see_of_visible {p : Port} {h : Nat} {e : Edition} (he : s.edition h = some e) (hv : hidden e p = none) : s.see p h = .ok e := by
  unfold State.see
  rw [he]
  simp only [hv]

theorem see_of_hidden {p : Port} {h : Nat} {e : Edition} {st : Status} (he : s.edition h = some e) (hv : hidden e p = some st) :
    s.see p h = .error st := by
  unfold State.see
  rw [he]
  simp only [hv]

/-- The owner sees its OPEN edition. -/
theorem see_own {p : Port} {h : Nat} {e : Edition} (he : s.edition h = some e) (ho : e.owner = p) (hs : e.state = .opened) :
    s.see p h = .ok e := see_of_visible he (by simp [hidden, hs, ho])

/-- The desk and bench ports see an edition that has been published. -/
theorem see_published {p : Port} {h : Nat} {e : Edition} (he : s.edition h = some e) (hp : p ≠ .counter)
    (hs : e.state = .published ∨ e.state = .withdrawn) : s.see p h = .ok e :=
  see_of_visible he (by rcases hs with hs | hs <;> simp [hidden, hs, hp])

theorem seeObject_of_visible {p : Port} {w : WireKey} {k : Key} {e : Edition} {o : Object} (he : s.see p w.handle = .ok e)
    (hk : keyOf w = some k) (ho : s.object k = some o) (hs : e.state ≠ .purged) : s.seeObject p w = .ok (e, o) := by
  unfold State.seeObject
  rw [he]
  simp only [hk, ho, if_neg hs]

theorem seeObject_of_error {p : Port} {w : WireKey} {st : Status} (h : s.see p w.handle = .error st) :
    s.seeObject p w = .error st := by
  unfold State.seeObject
  rw [h]

theorem port_of_deskOnly (h : f.port ∈ deskOnly) : f.port = .desk := by simpa [deskOnly] using h

theorem port_of_benchOnly (h : f.port ∈ benchOnly) : f.port = .bench := by simpa [benchOnly] using h

/-! ### The best version (R41) -/

theorem best_none_iff (o : Object) : o.best = none ↔ ∀ v ∈ o.versions, v.damaged = true := by
  simp [Object.best]

theorem best_of_last_good {o : Object} {a b : List Version} {v : Version} (ho : o.versions = a ++ v :: b) (hv : v.damaged = false)
    (hb : ∀ x ∈ b, x.damaged = true) : o.best = some v := by
  have none_good : b.filter (fun x => !x.damaged) = [] := List.filter_eq_nil_iff.2 fun x hx => by simp [hb x hx]
  unfold Object.best
  rw [ho, List.filter_append, List.filter_cons_of_pos (by simp [hv]), none_good, List.getLast?_concat]

theorem version_of_first {o : Object} {a b : List Version} {v : Version} (ho : o.versions = a ++ v :: b)
    (ha : ∀ x ∈ a, x.number ≠ v.number) : o.version v.number = some v := by
  unfold Object.version
  rw [ho, List.find?_append, List.find?_eq_none.2 (by simpa using ha)]
  simp

/-- Settles O25: a number chooses the version at which it stands first in the list. -/
theorem bestVersionIsTheLastGoodOne : Obligations.BestVersionIsTheLastGoodOne := by
  intro o
  refine ⟨best_none_iff o, fun a v b ho hv hb => ?_, fun h => ?_, fun a v b ho ha => ?_, fun n hn => ?_⟩
  · have best := best_of_last_good ho hv hb
    exact ⟨best, by simp only [Object.choose, best]⟩
  · simp only [Object.choose, h]
  · simp only [Object.choose, version_of_first ho ha]
  · have absent : o.version n = none := List.find?_eq_none.2 (by simpa using hn)
    simp only [Object.choose, absent]

/-! ### Editions that are hidden (R28) -/

theorem hidden_of_unpublished {e : Edition} {p : Port} (hs : e.state = .opened ∨ e.state = .closing) (hp : p ≠ e.owner) :
    hidden e p = some .notFound := by
  rcases hs with hs | hs <;> simp [hidden, hs, hp]

section Hidden

variable {p : Port} {h : Nat} {st : Status} (hv : s.see p h = .error st)

include hv

theorem findEdition_of_hidden : findEdition p (.handle h) s = (s, plain st) := by simp only [findEdition, State.handleOf, hv, deny]

theorem beginObject_of_hidden (k n len r c fm : Nat) (ps : List WireKey) : beginObject p h k n len r c fm ps s = (s, plain st) := by
  simp only [beginObject, hv, deny]

theorem closeEdition_of_hidden (release : Stamp) : closeEdition p h release s = (s, plain st) := by simp only [closeEdition, hv, deny]

theorem abandonEdition_of_hidden : abandonEdition p h s = (s, plain st) := by simp only [abandonEdition, hv, deny]

theorem withdrawEdition_of_hidden : withdrawEdition p h s = (s, plain st) := by simp only [withdrawEdition, hv, deny]

theorem reinstateEdition_of_hidden : reinstateEdition p h s = (s, plain st) := by simp only [reinstateEdition, hv, deny]

theorem purgeEdition_of_hidden : purgeEdition p h s = (s, plain st) := by simp only [purgeEdition, hv, deny]

end Hidden

section HiddenObject

variable {p : Port} {w : WireKey} {st : Status} (hv : s.seeObject p w = .error st)

include hv

theorem findObject_of_hidden : findObject p w s = (s, plain st) := by simp only [findObject, hv, deny]

theorem readObject_of_hidden (v : Source) (o n : Nat) : readObject p w v o n s = (s, plain st) := by simp only [readObject, hv, deny]

theorem discardVersion_of_hidden (n : Nat) : discardVersion p w n s = (s, plain st) := by simp only [discardVersion, hv, deny]

end HiddenObject

/-- Settles O24: the port sees no edition, and each rule then answers NOT_FOUND before it reads another operand. -/
theorem unpublishedEditionsAreHidden : Obligations.UnpublishedEditionsAreHidden := by
  intro f h e s hl hm hf he hs ho
  have unseen : s.see f.port h = .error .notFound := see_of_hidden he (hidden_of_unpublished hs ho)
  have unseenObject : ∀ w : WireKey, w.handle = h → s.seeObject f.port w = .error .notFound :=
    fun w hw => seeObject_of_error (hw ▸ unseen)
  have admitted : ∀ {ports : List Port}, f.port ∈ ports → Admitted ports f s := fun hp => ⟨hl, hp, hm, hf⟩
  have everyPort : f.port ∈ allPorts := by cases f.port <;> decide
  refine ⟨?_, fun w hw => ?_, fun hp => ⟨fun k n len r c fm ps => ?_, fun release => ?_, ?_, fun w v o n hw => ?_⟩,
    fun hp => ⟨?_, ?_, ?_⟩, fun hp w n hw => ?_⟩
  · exact congrArg _ (serve_of_rule (admitted everyPort) (findEdition_of_hidden unseen))
  · exact congrArg _ (serve_of_rule (admitted everyPort) (findObject_of_hidden (unseenObject w hw)))
  · exact congrArg _ (serve_of_rule (admitted hp) (beginObject_of_hidden unseen k n len r c fm ps))
  · exact congrArg _ (serveSettling_of_rule (admitted hp) (closeEdition_of_hidden unseen release))
  · exact congrArg _ (serveSettling_of_rule (admitted hp) (abandonEdition_of_hidden unseen))
  · exact congrArg _ (serveSettling_of_rule (admitted hp) (readObject_of_hidden (unseenObject w hw) v o n))
  · exact congrArg _ (serveSettling_of_rule (admitted (by rw [hp]; decide)) (withdrawEdition_of_hidden unseen))
  · exact congrArg _ (serve_of_rule (admitted (by rw [hp]; decide)) (reinstateEdition_of_hidden unseen))
  · exact congrArg _ (serveSettling_of_rule (admitted (by rw [hp]; decide)) (purgeEdition_of_hidden unseen))
  · exact congrArg _ (serveSettling_of_rule (admitted (by rw [hp]; decide)) (discardVersion_of_hidden (unseenObject w hw) n))

/-! ### The inquiries (R44, R45, R112, R113, R121, R185, R186) -/

theorem handleOf_key {h date number : Nat} {e : Edition} (he : s.edition h = some e) (hd : e.date = date) (hn : e.number = number)
    (unique : ∀ x ∈ s.catalog.editions, x.2.date = date → x.2.number = number → x.1 = h) :
    s.handleOf (.key date number) = some h := by
  have found : (s.catalog.editions.find? (fun x => x.2.date == date && x.2.number == number)).isSome = true :=
    List.find?_isSome.2 ⟨(h, e), mem_of_tget he, by simp [hd, hn]⟩
  obtain ⟨x, hx⟩ := Option.isSome_iff_exists.1 found
  have hk := List.find?_some hx
  simp only [Bool.and_eq_true, beq_iff_eq] at hk
  simp only [State.handleOf, hx, Option.map_some, unique x (List.mem_of_find?_eq_some hx) hk.1 hk.2]

theorem findEdition_of_seen {p : Port} {name : EditionName} {h : Nat} {e : Edition} (hh : s.handleOf name = some h)
    (he : s.see p h = .ok e) : findEdition p name s = (s, ⟨.ok, s.editionOctets h e⟩) := by
  simp only [findEdition, hh, he]

theorem findObject_of_seen {p : Port} {w : WireKey} {e : Edition} {o : Object} (h : s.seeObject p w = .ok (e, o)) :
    findObject p w s = (s, ⟨.ok, s.objectOctets e o⟩) := by
  simp only [findObject, h]

theorem findAccount_of_id {id : Nat} (h1 : 1 ≤ id) (h2 : id ≤ 255) : findAccount id s = (s, ⟨.ok, s.accountOctets id⟩) := by
  simp [findAccount, accountId, h1, h2, Nat.ne_of_gt h1]

theorem findAccount_of_above {id : Nat} (h : 255 < id) : findAccount id s = (s, plain .badArgument) := by
  simp [findAccount, accountId, Nat.not_le.2 h, Nat.ne_of_gt (Nat.zero_lt_of_lt h), deny]

/-- Settles O51: the rules of the inquiries leave the state as it is, and STATUS and IDENTIFY are served in START too. -/
theorem inquiriesAnswerAndChangeNothing : Obligations.InquiriesAnswerAndChangeNothing := by
  intro f s hl hf
  refine ⟨⟨congrArg _ (serveAlways_of_listening hl hf), congrArg _ (serveAlways_of_listening hl hf)⟩, fun hm => ?_⟩
  have admitted : ∀ {ports : List Port}, f.port ∈ ports → Admitted ports f s := fun hp => ⟨hl, hp, hm, hf⟩
  have everyPort : f.port ∈ allPorts := by cases f.port <;> decide
  refine ⟨fun h e he hv => ⟨?_, fun unique => ?_⟩, fun w e o ho => ?_, fun hp => ⟨?_, ?_⟩, fun hp => ?_⟩
  · exact congrArg _ (serve_of_rule (admitted everyPort) (findEdition_of_seen rfl (see_of_visible he hv)))
  · exact congrArg _ (serve_of_rule (admitted everyPort) (findEdition_of_seen (handleOf_key he rfl rfl unique) (see_of_visible he hv)))
  · exact congrArg _ (serve_of_rule (admitted everyPort) (findObject_of_seen ho))
  · exact congrArg _ (serve_of_rule (admitted (by rw [hp]; decide)) rfl)
  · exact congrArg _ (serve_of_rule (admitted (by rw [hp]; decide)) rfl)
  · have counter : Admitted counterOnly f s := admitted (by rw [hp]; decide)
    exact ⟨congrArg _ (serve_of_rule counter rfl), fun id h1 h2 => congrArg _ (serve_of_rule counter (findAccount_of_id h1 h2)),
      fun id h => congrArg _ (serve_of_rule counter (findAccount_of_above h))⟩

/-! ### OPEN_EDITION (R26, R27) -/

/-- The first gap from `k` on of a table whose keys are `k` or more is the lowest number from `k` on that the table lacks. -/
theorem firstGap_eq {α : Type} {l : Table α} (hl : Table.Ordered l) {k h : Nat} (hk : ∀ e ∈ l, k ≤ e.1) (hkh : k ≤ h)
    (hfree : tget l h = none) (hfull : ∀ i, k ≤ i → i < h → (tget l i).isSome = true) : firstGap k l = h := by
  induction l generalizing k with
  | nil =>
    rcases Nat.eq_or_lt_of_le hkh with rfl | hlt
    · rfl
    · have := hfull k (Nat.le_refl k) hlt
      cases this
  | cons e l ih =>
    obtain ⟨j, v⟩ := e
    obtain ⟨hhead, htail⟩ := ordered_cons.1 hl
    have after : ∀ x ∈ l, j < x.1 := hhead
    unfold firstGap
    split
    · rename_i hj
      subst hj
      have hne : h ≠ j := by rintro rfl; simp [tget] at hfree
      refine ih htail (fun x hx => after x hx) (by omega) (by simpa [tget, hne.symm] using hfree) fun i h1 h2 => ?_
      have := hfull i (by omega) h2
      rwa [tget, if_neg (by omega)] at this
    · rename_i hj
      rcases Nat.eq_or_lt_of_le hkh with rfl | hlt
      · rfl
      · have absent : tget ((j, v) :: l) k = none := by
          have hjk : k ≤ j := hk (j, v) (by simp)
          refine tget_none_of_lt fun x hx => ?_
          rcases List.mem_cons.1 hx with rfl | hx
          · show k < j; omega
          · have := after x hx; omega
        have := hfull k (Nat.le_refl k) hlt
        rw [absent] at this
        cases this

/-- The desk port's window is yesterday, today and tomorrow; the bench port's lies before yesterday. -/
theorem dateOpens_iff {p : Port} {today date : Nat} (hp : p ∈ deskAndBench) : dateOpens p today date = true ↔
    (p = .desk → date ≤ 65535 ∧ today ≤ date + 1 ∧ date ≤ today + 1) ∧ (p = .bench → date + 2 ≤ today) := by
  cases p with
  | desk =>
    simp only [dateOpens, Config.maxDay, Bool.and_eq_true, Bool.or_eq_true, beq_iff_eq, decide_eq_true_eq, forall_const, reduceCtorEq,
      false_implies, and_true]
    omega
  | bench => simp [dateOpens]
  | counter => simp [deskAndBench] at hp

theorem keyInUse_iff {date number : Nat} : s.keyInUse date number = true ↔
    ∃ e ∈ s.catalog.editions, e.2.date = date ∧ e.2.number = number := by
  simp [State.keyInUse]

section Opening

variable {p : Port} {date number : Nat}

theorem openEdition_of_closed (h : ¬(number ≤ 7 ∧ dateOpens p s.today date = true)) :
    openEdition p date number s = (s, plain .badArgument) := by
  have refused : (decide (number ≤ 7) && dateOpens p s.today date) = false := Bool.eq_false_iff.2 fun k => h (by simpa using k)
  simp only [openEdition, refused, Bool.not_false, if_true, deny]

theorem openEdition_of_window (h : number ≤ 7 ∧ dateOpens p s.today date = true) : openEdition p date number s =
    if s.keyInUse date number then deny .alreadyExists s
    else if Config.editions ≤ firstGap 0 s.catalog.editions then deny .full s
    else (s.putEdition (firstGap 0 s.catalog.editions) (openedEdition p date number s.now), ⟨.ok, be 2 (firstGap 0 s.catalog.editions)⟩) := by
  simp [openEdition, h.1, h.2]

end Opening

/-- Settles O20: the window is the model's (`dateOpens_iff`), and the first gap of the directory is its lowest free handle
(`firstGap_eq`). -/
theorem openEditionTakesTheLowestHandle : Obligations.OpenEditionTakesTheLowestHandle := by
  intro f date number s hadm today window taken record
  have inWindow : window ↔ number ≤ 7 ∧ dateOpens f.port s.today date = true := and_congr_right fun _ => (dateOpens_iff hadm.2.1).symm
  refine ⟨fun hw => ?_, fun hw ht => ?_, fun h hw ht hord hlt hfree hfull => ?_⟩
  · exact congrArg _ (serve_of_rule hadm (openEdition_of_closed fun h => hw (inWindow.2 h)))
  · refine congrArg _ (serve_of_rule hadm ?_)
    rw [openEdition_of_window (inWindow.1 hw), if_pos (keyInUse_iff.2 ht)]
    rfl
  · have gap : firstGap 0 s.catalog.editions = h :=
      firstGap_eq hord (fun _ _ => Nat.zero_le _) (Nat.zero_le _) hfree fun i _ hi => hfull i hi
    have room : ¬Config.editions ≤ h := Nat.not_le.2 hlt
    refine congrArg _ (serve_of_rule hadm ?_)
    rw [openEdition_of_window (inWindow.1 hw), if_neg (fun h => ht (keyInUse_iff.1 h)), gap, if_neg room]
    rfl

end Sys2Proof.Machine
end

section
/-! The removal of objects and versions, and DISCARD_VERSION. -/

namespace Sys2Proof.Machine

variable {s t : State} {f : Frame}

/-! ### Removals -/

theorem tget_ne_of_mem_tdel {α : Type} {l : Table α} (hl : Table.Ordered l) {k : Nat} {x : Nat × α} (h : x ∈ tdel l k) : x.1 ≠ k := by
  rintro rfl
  have := tget_of_mem (ordered_tdel hl x.1) h
  rw [tget_tdel_self hl] at this
  cases this

/-- A removed object leaves the table; the entries that stay, and the descriptors, change in no key and no state. -/
theorem removeObject_rest (o : Object) (s : State) : ∃ (x : Table Stripe) (g : Object → Object) (u : Descriptor → Descriptor),
    (∀ y, (g y).key = y.key) ∧ (∀ d, (u d).key = d.key ∧ (u d).state = d.state) ∧
    removeObject o s = { s with
      store.stripes := x
      catalog.objects := (tdel s.catalog.objects o.key.code).map (fun e => (e.1, g e.2))
      intake.descriptors := s.intake.descriptors.map (fun e => (e.1, u e.2)) } := by
  have dead : StripesOnly s (o.versions.foldl (fun s v => extentsDie v.extents s) s) :=
    List.foldlRecOn (motive := StripesOnly s) _ _ .refl fun _ ht v _ => ht.trans (extentsDie_stripesOnly v.extents _)
  obtain ⟨x, hx⟩ := dead.rest
  unfold removeObject
  simp only [hx]
  split
  · exact ⟨x, id, id, fun _ => rfl, fun _ => ⟨rfl, rfl⟩, by simp⟩
  · exact ⟨x, vacate o.key, unplace o.key, fun _ => rfl, fun _ => ⟨rfl, rfl⟩, rfl⟩

theorem removeObject_object {o : Object} (hs : Table.Ordered s.catalog.objects) : (removeObject o s).object o.key = none := by
  obtain ⟨x, g, u, -, -, h⟩ := removeObject_rest o s
  rw [h]
  show tget ((tdel s.catalog.objects o.key.code).map (fun e => (e.1, g e.2))) o.key.code = none
  rw [tget_mapValues, tget_tdel_self hs]
  rfl

/-- Removed objects leave the table; the entries that stay, and the descriptors, change in no key and no state. -/
theorem removeAll_rest (os : List Object) (hs : Table.Ordered s.catalog.objects) :
    ∃ (x : Table Stripe) (objects : Table Object) (u : Descriptor → Descriptor),
      (∀ d, (u d).key = d.key ∧ (u d).state = d.state) ∧
      (∀ y ∈ objects, (∀ o ∈ os, y.1 ≠ o.key.code) ∧ ∃ z ∈ s.catalog.objects, z.1 = y.1 ∧ z.2.key = y.2.key) ∧
      os.foldl (fun s o => removeObject o s) s = { s with
        store.stripes := x
        catalog.objects := objects
        intake.descriptors := s.intake.descriptors.map (fun e => (e.1, u e.2)) } := by
  induction os generalizing s with
  | nil => exact ⟨s.store.stripes, s.catalog.objects, id, fun _ => ⟨rfl, rfl⟩, fun y hy => ⟨nofun, y, hy, rfl, rfl⟩, by simp⟩
  | cons o os ih =>
    obtain ⟨x, g, u, hg, hu, h⟩ := removeObject_rest o s
    have ordered : Table.Ordered (removeObject o s).catalog.objects := by
      rw [h]; exact ordered_mapValues (ordered_tdel hs _) (fun e => g e.2)
    obtain ⟨x', objects, u', hu', hobjects, h'⟩ := ih ordered
    rw [h] at h' hobjects
    refine ⟨x', objects, u' ∘ u, fun d => ?_, fun y hy => ?_, ?_⟩
    · exact ⟨(hu' (u d)).1.trans (hu d).1, (hu' (u d)).2.trans (hu d).2⟩
    · obtain ⟨hne, z, hz, hzy, hzk⟩ := hobjects y hy
      obtain ⟨w, hw, rfl⟩ := List.mem_map.1 hz
      refine ⟨fun o' ho' => ?_, w, mem_tdel hw, hzy, (hg w.2).symm.trans hzk⟩
      rcases List.mem_cons.1 ho' with rfl | ho'
      · rw [← hzy]; exact tget_ne_of_mem_tdel (x := w) hs hw
      · exact hne o' ho'
    · rw [List.foldl_cons, h, h', List.map_map]
      rfl

/-- The removal of an edition's objects leaves none of them. -/
theorem removeObjects_rest (h : Nat) (hs : Table.Ordered s.catalog.objects) (hk : ∀ x ∈ s.catalog.objects, x.1 = x.2.key.code) :
    ∃ (x : Table Stripe) (objects : Table Object) (u : Descriptor → Descriptor),
      (∀ d, (u d).key = d.key ∧ (u d).state = d.state) ∧ (∀ y ∈ objects, y.2.key.handle ≠ h) ∧
      removeObjects h s = { s with
        store.stripes := x
        catalog.objects := objects
        intake.descriptors := s.intake.descriptors.map (fun e => (e.1, u e.2)) } := by
  obtain ⟨x, objects, u, hu, hobjects, he⟩ := removeAll_rest (s.objectsOf h) hs
  refine ⟨x, objects, u, hu, fun y hy hh => ?_, he⟩
  obtain ⟨hne, z, hz, hzy, hzk⟩ := hobjects y hy
  refine hne z.2 (List.mem_filter.2 ⟨List.mem_map.2 ⟨z, hz, rfl⟩, by simp [hzk, hh]⟩) ?_
  rw [← hzy]
  exact hk z hz

theorem objectsOf_eq_nil {h : Nat} (ho : ∀ y ∈ s.catalog.objects, y.2.key.handle ≠ h) : s.objectsOf h = [] := by
  refine List.filter_eq_nil_iff.2 fun o hmem => ?_
  obtain ⟨y, hy, rfl⟩ := List.mem_map.1 hmem
  simpa using ho y hy

/-- A withdrawn request of the copy in hand changes the round alone. -/
theorem withdrawCopy_rest (before s : State) : ∃ x, withdrawCopy before s = s.putRound x := by
  rcases withdrawCopy_cases before s with h | ⟨r, c, x, -, -, -, h⟩
  · exact ⟨s.relocation.round, h⟩
  · exact ⟨x, h⟩

/-! ### DISCARD_VERSION (R43) -/

theorem removeVersion_of_rest {o : Object} {v : Version} (h : o.versions.filter (fun x => x.number != v.number) ≠ []) (s : State) :
    removeVersion o v s
      = (extentsDie v.extents s).putObject { o with versions := o.versions.filter (fun x => x.number != v.number) } := by
  unfold removeVersion
  simp only [if_neg (mt List.isEmpty_iff.1 h)]

theorem removeVersion_of_last {o : Object} {v : Version} (h : o.versions.filter (fun x => x.number != v.number) = []) (s : State) :
    removeVersion o v s = removeObject { o with versions := [] } (extentsDie v.extents s) := by
  unfold removeVersion
  rw [h]
  rfl

section Discarding

variable {p : Port} {w : WireKey} {n : Nat} {e : Edition} {o : Object} {v : Version} (ho : s.seeObject p w = .ok (e, o))
  (hs : e.state = .published ∨ e.state = .withdrawn) (hv : o.version n = some v)

include ho hs hv

theorem discardVersion_of_deposit (hg : v.damaged = false) (hd : v.origin = .deposit) :
    discardVersion p w n s = (s, plain .wrongState) := by
  have told : ¬(e.state ≠ .published ∧ e.state ≠ .withdrawn) := fun h => hs.elim h.1 h.2
  simp only [discardVersion, ho, if_neg told, hv, hg, hd, deny, beq_self_eq_true, Bool.not_false, Bool.and_self, if_true]

theorem discardVersion_of_removable (hr : v.damaged = true ∨ v.origin = .pass) : discardVersion p w n s
    = (withdrawCopy s (removeVersion o v s), ⟨.ok, Machine.optional
        (({ o with versions := o.versions.filter (fun x => x.number != v.number) } : Object).best.map (fun b => be 1 b.number))⟩) := by
  have told : ¬(e.state ≠ .published ∧ e.state ≠ .withdrawn) := fun h => hs.elim h.1 h.2
  have removable : ¬(!v.damaged && v.origin == .deposit) = true := by rcases hr with hr | hr <;> simp [hr]
  simp only [discardVersion, ho, if_neg told, hv, if_neg removable]

end Discarding

/-- Settles O23: the bench port sees the object, and its rule removes the version or, with the last one, the object. -/
theorem discardVersionRemovesTheVersion : Obligations.DiscardVersionRemovesTheVersion := by
  intro f w k n e o v s hadm hk he hs ho hok hord hv rest answer
  have bench : f.port = .bench := port_of_benchOnly hadm.2.1
  have unpurged : e.state ≠ .purged := by rcases hs with h | h <;> simp [h]
  have seen : s.seeObject f.port w = .ok (e, o) :=
    seeObject_of_visible (see_published he (by simp [bench]) hs) hk ho unpurged
  have number : v.number = n := by simpa using List.find?_some hv
  have removed : v.damaged = true ∨ v.origin = .pass →
      exec (.discardVersion f w n) s = .next (concluded f answer (withdrawCopy s (removeVersion o v s))) := fun hr => by
    refine congrArg _ (serveSettling_of_rule hadm ?_)
    rw [discardVersion_of_removable seen hs hv hr, number]
  refine ⟨fun hg hd => ?_, fun hr hrest => ?_, fun hr hrest => ?_⟩
  · exact congrArg _ (serveSettling_of_rule hadm (discardVersion_of_deposit seen hs hv hg hd))
  · rw [removed hr, removeVersion_of_rest (by rw [number]; exact hrest), number]
  · refine ⟨_, removed hr, ?_, ?_⟩
    all_goals
      obtain ⟨x, hx⟩ := withdrawCopy_rest s (removeVersion o v s)
      obtain ⟨⟨y, hy⟩, -⟩ := extentsDie_stripesOnly v.extents s
      rw [hx, removeVersion_of_last (by rw [number]; exact hrest), hy]
    · exact hok ▸ removeObject_object (o := { o with versions := [] }) hord
    · exact removeObject_editions _ _

end Sys2Proof.Machine
end

section
/-! WITHDRAW_EDITION, REINSTATE_EDITION and PURGE_EDITION: what the release of orders and the end of passes change, and the editions. -/

namespace Sys2Proof.Machine

variable {s t : State} {f : Frame}

/-! ### Notices that stay -/

/-- No notice that is pending is taken. -/
def NoticesRise (s t : State) : Prop :=
  ∀ (p : Port) (n : Notice), (s.notices.get p).pending &&& noticeBit n = noticeBit n → (t.notices.get p).pending &&& noticeBit n = noticeBit n

theorem NoticesRise.of_eq (h : t.notices = s.notices) : NoticesRise s t := fun p n hn => by rw [h]; exact hn

theorem NoticesRise.trans {u : State} (h : NoticesRise s t) (k : NoticesRise t u) : NoticesRise s u := fun p n hn => k p n (h p n hn)

theorem noticesRise_notify (n : Notice) (p : Port) (s : State) : NoticesRise s (notify n p s) := fun q m hm => by
  rw [notify_pending_get]
  split
  · exact bits_or_left hm
  · exact hm

theorem noticesRise_foldl {α : Type} {g : State → α → State} (h : ∀ s a, NoticesRise s (g s a)) (l : List α) (s : State) :
    NoticesRise s (l.foldl g s) :=
  List.foldlRecOn (motive := NoticesRise s) _ _ (.of_eq rfl) fun _ ht a _ => ht.trans (h _ a)

/-! ### The release of orders (R144, R147) -/

/-- An order that is released leaves the counter port's queue; of the rest the store and the ledger alone change. -/
theorem releaseOrder_rest (st : Stream) (o : OrderPart) (c : ReleaseCause) (s : State) : ∃ (x : Store) (l : Ledger) (ended : List Stream),
    releaseOrder .counter st o c true s = ({ s with store := x, ledger := l } : State).putPortStreams .counter
      { queue := (s.portStreams .counter).queue.filter (fun y => y.id != st.id), ended := ended } := by
  obtain ⟨x, hx⟩ := endStream_some .counter st (.order { o with cause := some c }) .released (heldFalls o.account o.breakdown.fee s)
  exact ⟨x, _, _, hx⟩

theorem putPortStreams_self (p : Port) (s : State) : s.putPortStreams p (s.portStreams p) = s := by cases p <;> rfl

/-- What the release of orders leaves: streams of the counter port's queue, none with the id of an order picked. -/
structure OrdersReleased (pick : Stream → OrderPart → Bool) (sts : List Stream) (s t : State) : Prop where
  rest : ∃ (x : Store) (l : Ledger) (ps : PortStreams), t = ({ s with store := x, ledger := l } : State).putPortStreams .counter ps
  kept : ∀ y ∈ (t.portStreams .counter).queue, y ∈ (s.portStreams .counter).queue
  released : ∀ y ∈ (t.portStreams .counter).queue, ∀ st ∈ sts, ∀ o, st.kind = .order o → pick st o = true → y.id ≠ st.id

theorem ordersReleased_none {pick : Stream → OrderPart → Bool} {st : Stream} (h : ∀ o, st.kind = .order o → pick st o = false) :
    OrdersReleased pick [st] s s where
  rest := ⟨s.store, s.ledger, s.portStreams .counter, (putPortStreams_self .counter s).symm⟩
  kept _ hy := hy
  released _ _ st' hst' o hk hp := by
    cases List.mem_singleton.1 hst'
    rw [h o hk] at hp
    cases hp

theorem ordersReleased_one (pick : Stream → OrderPart → Bool) (c : ReleaseCause) (st : Stream) (s : State) :
    OrdersReleased pick [st] s (releaseOrders pick c [st] s) := by
  unfold releaseOrders
  simp only [List.foldl_cons, List.foldl_nil]
  split
  · rename_i o hk
    split
    · obtain ⟨x, l, ended, he⟩ := releaseOrder_rest st o c s
      refine ⟨⟨x, l, _, he⟩, fun y hy => ?_, fun y hy st' hst' _ _ _ => ?_⟩ <;>
        (rw [he, portStreams_putPortStreams_self] at hy; obtain ⟨hmem, hid⟩ := List.mem_filter.1 hy)
      · exact hmem
      · cases List.mem_singleton.1 hst'
        simpa using hid
    · rename_i hp
      exact ordersReleased_none fun o' hk' => by rw [hk] at hk'; cases hk'; simpa using hp
  · rename_i hk
    exact ordersReleased_none fun o' hk' => absurd hk' (hk o')

/-- The orders picked leave the counter port's queue; of the rest the store and the ledger alone change. -/
theorem ordersReleased (pick : Stream → OrderPart → Bool) (c : ReleaseCause) (sts : List Stream) (s : State) :
    OrdersReleased pick sts s (releaseOrders pick c sts s) := by
  induction sts generalizing s with
  | nil =>
    show OrdersReleased pick [] s s
    exact ⟨⟨s.store, s.ledger, s.portStreams .counter, (putPortStreams_self .counter s).symm⟩, fun _ hy => hy,
      fun _ _ _ hst => absurd hst List.not_mem_nil⟩
  | cons st sts ih =>
    obtain ⟨⟨x, l, ps, he⟩, kept, released⟩ := ordersReleased_one pick c st s
    obtain ⟨⟨x', l', ps', he'⟩, kept', released'⟩ := ih (releaseOrders pick c [st] s)
    show OrdersReleased pick (st :: sts) s (releaseOrders pick c sts (releaseOrders pick c [st] s))
    refine ⟨⟨x', l', ps', ?_⟩, fun y hy => kept y (kept' y hy), fun y hy st' hst' => ?_⟩
    · exact he'.trans (by rw [he]; rfl)
    · rcases List.mem_cons.1 hst' with rfl | hst'
      · exact released y (kept' y hy) st' (by simp)
      · exact released' y hy st' hst'

/-! ### The end of passes (R108, R109) -/

theorem endPassSource_rest (s : State) : ∃ x : Store, endPassSource s = { s with store := x, streams.passSource := none } := by
  unfold endPassSource
  split
  · rename_i h
    exact ⟨s.store, by rw [show ({ s.streams with passSource := none } : Streams) = s.streams by rw [← h]]⟩
  · rename_i st _
    have fetch : ∃ y : Store, (if st.fetch = .inFlight then detachFetcher .passSource s else s) = { s with store := y } := by
      split
      · obtain ⟨w, hw, -⟩ := detachFetcher_wings .passSource s
        exact ⟨_, hw⟩
      · exact ⟨s.store, rfl⟩
    obtain ⟨y, hy⟩ := fetch
    obtain ⟨x, hx⟩ := readersFall_store st.snapshot { s with store := y }
    exact ⟨x, by simp only [hy, hx]⟩

/-- The active pass ends: the store, its source, its output and the histogram change with it. -/
theorem stopActive_rest (created : Bool) (s : State) : ∃ (x : Store) (h : Histogram), stopActive created s = { s with
    store := x, streams.passSource := none, passes.active := none, passes.output := [], passes.histogram := h } := by
  have detached : ∃ x : Store, unstall .restore (detachFeeder .restore (endPassSource s)) = { s with store := x, streams.passSource := none } := by
    obtain ⟨x, hx⟩ := endPassSource_rest s
    obtain ⟨w, hw, -⟩ := detachFeeder_wings .restore (endPassSource s)
    rw [hw, hx]
    exact ⟨_, rfl⟩
  unfold stopActive
  simp only
  obtain ⟨x, hx⟩ := detached
  rw [hx]
  have dead : ∃ y : Store, (if created = true then { s with store := x, streams.passSource := none } else extentsDie s.passes.output
      { s with store := x, streams.passSource := none }) = { s with store := y, streams.passSource := none } := by
    split
    · exact ⟨x, rfl⟩
    · obtain ⟨⟨y, hy⟩, -⟩ := extentsDie_stripesOnly s.passes.output { s with store := x, streams.passSource := none }
      exact ⟨_, hy⟩
  obtain ⟨y, hy⟩ := dead
  rw [hy]
  exact ⟨_, _, rfl⟩

/-- What the end of passes leaves: passes of before, none of them picked, and every notice that was pending. -/
structure PassesAborted (pick : Pass → Bool) (s t : State) : Prop where
  rest : ∃ (x : Store) (st : Option Stream) (ps : Passes) (ns : PerPort NoticeBoard),
    t = { s with store := x, streams.passSource := st, passes := ps, notices := ns }
  queue : ∀ q ∈ t.passes.queue, pick q = false
  active : ∀ q ∈ t.passes.active, pick q = false
  notices : NoticesRise s t

theorem noticesRise_recordResult (p : Pass) (o : PassOutcome) (c : Option PassCause) (s : State) :
    NoticesRise s (recordResult p o c s) :=
  noticesRise_notify .passEnded .bench { s with passes.result := resultOf p o c s.passes.histogram }

/-- The queued passes picked leave the queue; of the rest the result and the notices alone change. -/
theorem abortQueued_rest (pick : Pass → Bool) (c : PassCause) (s : State) : (∃ (r : PassResult) (ns : PerPort NoticeBoard),
    abortQueued pick c s
      = { s with passes.queue := s.passes.queue.filter (fun p => !pick p), passes.result := r, notices := ns }) ∧
    NoticesRise s (abortQueued pick c s) := by
  have queued : NoticesRise s { s with passes.queue := s.passes.queue.filter (fun p => !pick p) } := .of_eq rfl
  refine ⟨?_, queued.trans (noticesRise_foldl (fun s p => noticesRise_recordResult p .aborted (some c) s) _ _)⟩
  unfold abortQueued
  refine List.foldlRecOn (motive := fun t : State => ∃ (r : PassResult) (ns : PerPort NoticeBoard),
    t = { s with passes.queue := s.passes.queue.filter (fun p => !pick p), passes.result := r, notices := ns }) _ _
    ⟨s.passes.result, s.notices, rfl⟩ fun t ht p _ => ?_
  obtain ⟨r, ns, rfl⟩ := ht
  exact ⟨_, _, rfl⟩

/-- The active pass that is picked ends. -/
theorem abortActive_rest (pick : Pass → Bool) (c : PassCause) (s : State) :
    ∃ u, abortPasses pick c s = abortQueued pick c u ∧ (∃ (x : Store) (st : Option Stream) (ps : Passes) (ns : PerPort NoticeBoard),
      u = { s with store := x, streams.passSource := st, passes := ps, notices := ns }) ∧
      (∀ q ∈ u.passes.active, pick q = false) ∧ NoticesRise s u := by
  have stays : ∃ (x : Store) (st : Option Stream) (ps : Passes) (ns : PerPort NoticeBoard),
      s = { s with store := x, streams.passSource := st, passes := ps, notices := ns } := ⟨_, _, _, _, rfl⟩
  unfold abortPasses
  split
  · rename_i p hp
    split
    · obtain ⟨x, h, hx⟩ := stopActive_rest (PassOutcome.aborted == .created) s
      refine ⟨_, rfl, ?_, ?_, ?_⟩ <;> rw [endActive, hx]
      · exact ⟨_, _, _, _, rfl⟩
      · exact nofun
      · exact noticesRise_notify .passEnded .bench { s with
          store := x, streams.passSource := none
          passes := { s.passes with active := none, output := [], histogram := h, result := _ } }
    · rename_i hpick
      exact ⟨s, rfl, stays, fun q hq => by rw [hp] at hq; cases hq; simpa using hpick, .of_eq rfl⟩
  · rename_i hp
    exact ⟨s, rfl, stays, fun q hq => (by rw [hp] at hq; cases hq), .of_eq rfl⟩

theorem passesAborted (pick : Pass → Bool) (c : PassCause) (s : State) : PassesAborted pick s (abortPasses pick c s) := by
  obtain ⟨u, hu, ⟨x, st, ps, ns, rest⟩, hactive, hnotices⟩ := abortActive_rest pick c s
  obtain ⟨⟨r, ns', hq⟩, hnotices'⟩ := abortQueued_rest pick c u
  rw [hu]
  refine ⟨?_, fun q hmem => ?_, ?_, hnotices.trans hnotices'⟩
  · rw [hq, rest]
    exact ⟨_, _, _, _, rfl⟩
  · rw [hq] at hmem
    simpa using (List.mem_filter.1 hmem).2
  · rw [hq]
    exact hactive

/-! ### The rules (R33, R34, R35) -/

section Rules

variable {p : Port} {h : Nat} {e : Edition} (he : s.see p h = .ok e)

include he

theorem withdrawEdition_of_published (hs : e.state = .published) : withdrawEdition p h s
    = (abortPasses (fun q => q.key.handle == h) .withdrawn (releaseOrders (fun st _ => st.key.handle == h) .withdrawn
        (s.portStreams .counter).queue (notifyAll .editionWithdrawn allPorts (s.putEdition h { e with state := .withdrawn }))),
       plain .ok) := by
  have queue : (notifyAll .editionWithdrawn allPorts (s.putEdition h { e with state := .withdrawn })).portStreams .counter
      = s.portStreams .counter := by
    unfold State.portStreams
    rw [notifyAll_streams]
    rfl
  simp only [withdrawEdition, he, hs, ne_eq, not_true_eq_false, if_false, queue]

theorem reinstateEdition_of_withdrawn (hs : e.state = .withdrawn) : reinstateEdition p h s
    = (notifyAll .editionPublished allPorts (s.putEdition h { e with state := .published }), plain .ok) := by
  simp only [reinstateEdition, he, hs, ne_eq, not_true_eq_false, if_false]

theorem purgeEdition_of_withdrawn (hs : e.state = .withdrawn) : purgeEdition p h s
    = (withdrawCopy s ((removeObjects h s).putEdition h { e with state := .purged }), plain .ok) := by
  simp only [purgeEdition, he, hs, ne_eq, not_true_eq_false, if_false]

end Rules

theorem isOrder_iff {st : Stream} : st.isOrder = true ↔ ∃ o, st.kind = .order o := by
  unfold Stream.isOrder
  split
  · rename_i o ho; simp [ho]
  · rename_i ho; simp only [Bool.false_eq_true, false_iff]; exact fun ⟨o, hk⟩ => ho o hk

/-- Settles O22: the orders released and the passes ended are those of the edition (`ordersReleased`, `passesAborted`), and the removal of
its objects leaves none (`removeObjects_rest`). -/
theorem editionsAreWithdrawnReinstatedAndPurged : Obligations.EditionsAreWithdrawnReinstatedAndPurged := by
  refine ⟨fun f h e s hadm he hs => ?_, fun f h e s hadm he hs => ?_⟩
  · have desk : f.port ≠ .counter := by simp [port_of_deskOnly hadm.2.1]
    have seen := see_published he desk (.inl hs)
    refine ⟨_, congrArg _ (serveSettling_of_rule hadm (withdrawEdition_of_published seen hs)), ?_⟩
    generalize hu : s.putEdition h { e with state := .withdrawn } = u
    obtain ⟨ns, hn⟩ := notifyAll_rest .editionWithdrawn allPorts u
    have told : ∀ q, ((notifyAll .editionWithdrawn allPorts u).notices.get q).pending &&& noticeBit .editionWithdrawn
        = noticeBit .editionWithdrawn := fun q => notifyAll_pending (by cases q <;> decide)
    generalize notifyAll .editionWithdrawn allPorts u = v at hn told
    have queue : v.portStreams .counter = s.portStreams .counter := by rw [hn, ← hu]; rfl
    obtain ⟨⟨x, l, ps, hw⟩, kept, released⟩ := ordersReleased (fun st _ => st.key.handle == h) .withdrawn
      (s.portStreams .counter).queue v
    generalize releaseOrders (fun st _ => st.key.handle == h) .withdrawn (s.portStreams .counter).queue v = w at hw kept released
    obtain ⟨⟨x', st', ps', ns', ht⟩, hq, ha, hrise⟩ := passesAborted (fun q => q.key.handle == h) .withdrawn w
    generalize abortPasses (fun q => q.key.handle == h) .withdrawn w = t at ht hq ha hrise
    have catalog : t.catalog = u.catalog := by rw [ht, hw, hn]; rfl
    have ports : t.streams.ports = w.streams.ports := by rw [ht]
    refine ⟨?_, ?_, fun p => ?_, fun y hy horder hh => ?_, fun q hmem => ?_, fun q hmem => ?_, ?_, ?_⟩
    · rw [State.edition, catalog, ← hu]
      exact edition_putEdition_self s h _
    · rw [catalog, ← hu]; rfl
    · refine hrise p .editionWithdrawn ?_
      rw [hw]
      exact told p
    · obtain ⟨o, ho⟩ := isOrder_iff.1 horder
      rw [ports] at hy
      have before := kept y hy
      rw [queue] at before
      exact released y hy y before o ho (by simpa using hh) rfl
    · simpa using hq q hmem
    · simpa using ha q hmem
    · rw [ports, hw, hn, ← hu]; rfl
    · rw [ports, hw, hn, ← hu]; rfl
  · have desk : f.port ≠ .counter := by simp [port_of_deskOnly hadm.2.1]
    have seen := see_published he desk (.inr hs)
    refine ⟨congrArg _ (serve_of_rule hadm (reinstateEdition_of_withdrawn seen hs)), fun tables hk => ?_⟩
    refine ⟨_, congrArg _ (serveSettling_of_rule hadm (purgeEdition_of_withdrawn seen hs)), ?_⟩
    obtain ⟨x, objects, u, -, hgone, hr⟩ := removeObjects_rest h tables.objects hk
    obtain ⟨y, hy⟩ := withdrawCopy_rest s ((removeObjects h s).putEdition h { e with state := .purged })
    rw [hy, hr]
    refine ⟨edition_putEdition_self _ h _, objectsOf_eq_nil hgone, fun j hj => ?_, rfl, rfl⟩
    exact edition_putEdition_ne s h j _ hj

end Sys2Proof.Machine
end

section
/-! CLOSE_EDITION and ABANDON_EDITION: what the drop of an edition's deposits leaves. -/

namespace Sys2Proof.Machine

variable {loose : Prop} {s t : State} {f : Frame}

/-! ### CLOSE_EDITION (R29, R30) -/

theorem tput_tput {α : Type} (l : Table α) (k : Nat) (v w : α) : tput (tput l k v) k w = tput l k w := by
  induction l with
  | nil => simp [tput]
  | cons e l ih =>
    obtain ⟨j, x⟩ := e
    by_cases h1 : k < j
    · simp [tput, h1]
    · by_cases h2 : j = k
      · simp [tput, h2]
      · simp [tput, h1, h2, ih]

theorem putEdition_putEdition (h : Nat) (e e' : Edition) (s : State) : (s.putEdition h e).putEdition h e' = s.putEdition h e' := by
  unfold State.putEdition
  simp only [tput_tput]

/-- The publication event of an edition in use. -/
theorem publish_of_edition {h : Nat} {e : Edition} (he : s.edition h = some e) : publish h s
    = notifyAll .editionPublished allPorts (s.putEdition h { e with
        state := .published, published := some s.now
        release := if e.origin = .historical then some s.now else e.release }) := by
  unfold publish
  rw [he]
  cases ho : e.origin <;> simp only [ho] <;> rfl

/-- An edition that closes, with its ENDED descriptors outstanding. -/
def closingEdition (h : Nat) (release : Stamp) (e : Edition) (s : State) : Edition :=
  { e with state := .closing, release := closingRelease e.origin release s.now, outstanding := s.depositsOf h .ended }

theorem closeEdition_of_open {p : Port} {h : Nat} {release : Stamp} {e : Edition} (he : s.see p h = .ok e) (hs : e.state = .opened)
    (ht : release.tick ≤ Config.maxTick) (hfill : s.depositsOf h .filling = 0) : closeEdition p h release s
    = (let u := if s.depositsOf h .ended = 0 then publish h (s.putEdition h (closingEdition h release e s))
        else s.putEdition h (closingEdition h release e s)
       (u, closeAnswer h u)) := by
  simp only [closeEdition, he, hs, if_neg (Nat.not_lt.2 ht), hfill, ne_eq, not_true_eq_false, if_false, closingEdition]

theorem closeAnswer_of_edition {h : Nat} {e : Edition} (he : s.edition h = some e) :
    closeAnswer h s = ⟨.ok, be 1 (editionStateCode e.state) ++ Machine.optional (e.release.map stampOctets)⟩ := by
  simp only [closeAnswer, he]

theorem edition_notifyAll (n : Notice) (ps : List Port) (h : Nat) (s : State) : (notifyAll n ps s).edition h = s.edition h := by
  unfold State.edition
  rw [notifyAll_catalog]

section Closing

variable {h : Nat} {release : Stamp} {e : Edition} (hadm : Admitted deskAndBench f s) (he : s.see f.port h = .ok e)
  (hs : e.state = .opened) (ht : release.tick ≤ Config.maxTick) (hfill : s.depositsOf h .filling = 0)

include hadm he hs ht hfill

theorem exec_closeEdition_closing (hn : s.depositsOf h .ended ≠ 0) : exec (.closeEdition f h release) s
    = .next (concluded f ⟨.ok, be 1 2 ++ Machine.optional ((closingRelease e.origin release s.now).map stampOctets)⟩
        (s.putEdition h (closingEdition h release e s))) := by
  refine congrArg _ (serveSettling_of_rule hadm ?_)
  rw [closeEdition_of_open he hs ht hfill]
  simp only [if_neg hn, closeAnswer_of_edition (edition_putEdition_self s h _)]
  rfl

/-- With no descriptor outstanding the edition is published at once. -/
theorem exec_closeEdition_published (hn : s.depositsOf h .ended = 0) {r : Stamp}
    (hr : (if e.origin = .historical then some s.now else closingRelease e.origin release s.now) = some r) :
    exec (.closeEdition f h release) s
    = .next (concluded f ⟨.ok, be 1 3 ++ Machine.optional (some (stampOctets r))⟩
        (notifyAll .editionPublished allPorts
          (s.putEdition h { e with state := .published, release := some r, published := some s.now, outstanding := 0 }))) := by
  have published : publish h (s.putEdition h (closingEdition h release e s)) = notifyAll .editionPublished allPorts
      (s.putEdition h { e with state := .published, release := some r, published := some s.now, outstanding := 0 }) := by
    rw [publish_of_edition (edition_putEdition_self s h _), putEdition_putEdition]
    simp only [closingEdition, hn]
    rw [← hr]
    rfl
  refine congrArg _ (serveSettling_of_rule hadm ?_)
  rw [closeEdition_of_open he hs ht hfill]
  simp only [if_pos hn, published]
  rw [closeAnswer_of_edition ((edition_notifyAll _ _ h _).trans (edition_putEdition_self s h _))]
  rfl

end Closing

/-! ### The drop of deposits (R32, R56) -/

theorem publish_streams (h : Nat) (s : State) : (publish h s).streams = s.streams := by
  unfold publish; split
  · rfl
  · exact notifyAll_streams _ _ _

theorem returnToOpen_streams (h : Nat) (s : State) : (returnToOpen h s).streams = s.streams := by
  unfold returnToOpen; split
  · rfl
  · split <;> rfl

theorem spaceCheck_streams (s : State) : (spaceCheck s).streams = s.streams := by
  unfold spaceCheck; simp only; split
  · rfl
  · exact notifyAll_streams _ _ _

theorem enterObject_streams (n : Nat) (d : Descriptor) (s : State) : (enterObject n d s).streams = s.streams := by
  unfold enterObject; simp only; split
  · rfl
  · split
    · exact publish_streams _ _
    · rfl

theorem enterReady_streams (n : Nat) (s : State) : (enterReady n s).streams = s.streams := by
  induction n generalizing s with
  | zero => rfl
  | succ n ih =>
    unfold enterReady; split
    · rfl
    · exact (ih _).trans (enterObject_streams _ _ s)

theorem cutRun_streams (n : Nat) (s : State) : (cutRun n s).streams = s.streams := by
  unfold cutRun; split
  · split
    · rw [unstall_streams]
      obtain ⟨w, hw, -⟩ := detachFeeder_wings .intake { s with intake.run := none, intake.request := .none }
      rw [hw]
    · rfl
  · rfl

theorem dropCore_streams (keep : Bool) (n : Nat) (d : Descriptor) (s : State) : (dropCore keep n d s).streams = s.streams := by
  have cut : (cutRun n { extentsDie (s.provisional n) s with
      intake.provisional := tdel (extentsDie (s.provisional n) s).intake.provisional n }).streams = s.streams := by
    obtain ⟨⟨x, hx⟩, -⟩ := extentsDie_stripesOnly (s.provisional n) s
    rw [cutRun_streams, hx]
  unfold dropCore
  simp only
  generalize cutRun n _ = u at cut
  have dropped : (if keep = true then u.putDescriptor n { d with state := .dropped, staged := [], waits := [], placements := [] }
      else freeDescriptor n u).streams = u.streams := by split <;> rfl
  split
  · exact (returnToOpen_streams _ _).trans (dropped.trans cut)
  · exact dropped.trans cut

/-- One deposit of several that are dropped in one event. -/
def dropOne (s : State) (e : Nat × Descriptor) : State :=
  match e.2.state with
  | .dropped => freeDescriptor e.1 s
  | _ => dropCore false e.1 e.2 s

theorem dropDeposits_eq (ds : List (Nat × Descriptor)) (s : State) :
    dropDeposits ds s = spaceCheck (enterReady Config.descriptors (ds.foldl dropOne s)) := rfl

theorem dropDeposits_streams (ds : List (Nat × Descriptor)) (s : State) : (dropDeposits ds s).streams = s.streams := by
  rw [dropDeposits_eq, spaceCheck_streams, enterReady_streams]
  refine List.foldlRecOn (motive := fun t : State => t.streams = s.streams) _ _ rfl fun t ht e _ => ?_
  unfold dropOne; split
  · exact ht
  · exact (dropCore_streams _ _ _ t).trans ht

/-- Every descriptor of `t` is one of `s`, with its key and its state. -/
def DescriptorsFrom (s t : State) : Prop :=
  ∀ y ∈ t.intake.descriptors, ∃ x ∈ s.intake.descriptors, x.1 = y.1 ∧ x.2.key = y.2.key ∧ x.2.state = y.2.state

theorem DescriptorsFrom.refl : DescriptorsFrom s s := fun y hy => ⟨y, hy, rfl, rfl, rfl⟩

theorem DescriptorsFrom.trans {u : State} (h : DescriptorsFrom s t) (k : DescriptorsFrom t u) : DescriptorsFrom s u := fun z hz => by
  obtain ⟨y, hy, h1, h2, h3⟩ := k z hz
  obtain ⟨x, hx, k1, k2, k3⟩ := h y hy
  exact ⟨x, hx, k1.trans h1, k2.trans h2, k3.trans h3⟩

theorem DescriptorsFrom.of_eq (h : t.intake.descriptors = s.intake.descriptors) : DescriptorsFrom s t := fun y hy => by
  rw [h] at hy
  exact ⟨y, hy, rfl, rfl, rfl⟩

/-- A descriptor is freed and the others change in no key and no state. -/
theorem descriptorsFrom_freed {n : Nat} {g : Descriptor → Descriptor} (hg : ∀ d, (g d).key = d.key ∧ (g d).state = d.state)
    (h : t.intake.descriptors = (tdel s.intake.descriptors n).map (fun e => (e.1, g e.2))) : DescriptorsFrom s t := fun y hy => by
  rw [h] at hy
  obtain ⟨x, hx, rfl⟩ := List.mem_map.1 hy
  exact ⟨x, mem_tdel hx, rfl, (hg x.2).1.symm, (hg x.2).2.symm⟩

/-- A descriptor that no longer waits on a photo which has been entered. -/
def released (photo : Key) (d : Descriptor) : Descriptor := { d with waits := d.waits.filter (fun k => k != photo) }

theorem enterObject_descriptors (n : Nat) (d : Descriptor) (s : State) : (enterObject n d s).intake.descriptors
    = (tdel s.intake.descriptors n).map (fun e => (e.1, released d.key e.2)) := by
  unfold enterObject; simp only; split
  · rfl
  · split
    · exact congrArg Holdings.descriptors (publish_holdings _ _)
    · rfl

theorem enterReady_descriptorsFrom (n : Nat) (s : State) : DescriptorsFrom s (enterReady n s) := by
  induction n generalizing s with
  | zero => exact .refl
  | succ n ih =>
    unfold enterReady; split
    · exact .refl
    · rename_i m d _
      exact (descriptorsFrom_freed (g := released d.key) (fun _ => ⟨rfl, rfl⟩) (enterObject_descriptors m d s)).trans (ih _)

theorem dropOne_descriptors (e : Nat × Descriptor) (s : State) : ∃ g : Descriptor → Descriptor,
    (∀ d, (g d).key = d.key ∧ (g d).state = d.state) ∧
    (dropOne s e).intake.descriptors = (tdel s.intake.descriptors e.1).map (fun x => (x.1, g x.2)) := by
  unfold dropOne; split
  · exact ⟨id, fun _ => ⟨rfl, rfl⟩, by simp [freeDescriptor]⟩
  · obtain ⟨run, h, -⟩ := dropCore_holdings false e.1 e.2 s
    refine ⟨unawait e.2.key, fun d => ⟨?_, (unawait_same e.2.key d).1⟩, congrArg Holdings.descriptors h⟩
    unfold unawait; split <;> rfl

/-- The deposits that are dropped are gone. -/
theorem dropAll_descriptors (ds : List (Nat × Descriptor)) (hs : Table.Ordered s.intake.descriptors) :
    DescriptorsFrom s (ds.foldl dropOne s) ∧ ∀ y ∈ (ds.foldl dropOne s).intake.descriptors, ∀ e ∈ ds, y.1 ≠ e.1 := by
  induction ds generalizing s with
  | nil => exact ⟨.refl, fun _ _ _ he => absurd he List.not_mem_nil⟩
  | cons e ds ih =>
    obtain ⟨g, hg, h⟩ := dropOne_descriptors e s
    obtain ⟨hfrom, hgone⟩ := ih (s := dropOne s e) (by rw [h]; exact ordered_mapValues (ordered_tdel hs _) (fun x => g x.2))
    refine ⟨(descriptorsFrom_freed hg h).trans hfrom, fun y hy e' he' => ?_⟩
    rcases List.mem_cons.1 he' with rfl | he'
    · obtain ⟨z, hz, hzy, -⟩ := hfrom y hy
      rw [h] at hz
      obtain ⟨x, hx, rfl⟩ := List.mem_map.1 hz
      rw [← hzy]
      exact tget_ne_of_mem_tdel (x := x) hs hx
    · exact hgone y hy e' he'

/-- The drop of an edition's FILLING and ENDED descriptors leaves DROPPED ones of it alone. -/
theorem dropDeposits_openDeposits (h : Nat) (hs : Table.Ordered s.intake.descriptors) :
    ∀ y ∈ (dropDeposits (s.openDeposits h) s).intake.descriptors, y.2.key.handle = h → y.2.state = .dropped := by
  intro y hy hh
  by_contra hstate
  obtain ⟨hfrom, hgone⟩ := dropAll_descriptors (s.openDeposits h) hs
  obtain ⟨x, hx⟩ := spaceCheck_intake (enterReady Config.descriptors ((s.openDeposits h).foldl dropOne s))
  rw [dropDeposits_eq, hx] at hy
  obtain ⟨z, hz, hzy, hzk, hzs⟩ := enterReady_descriptorsFrom _ _ y hy
  obtain ⟨w, hw, hwz, hwk, hws⟩ := hfrom z hz
  refine hgone z hz w (List.mem_filter.2 ⟨hw, ?_⟩) hwz.symm
  simp only [hwk, hzk, hh, hws, hzs, beq_self_eq_true, Bool.true_and, bne_iff_ne, ne_eq]
  exact hstate

/-! ### The statement -/

theorem Works.filesOk (h : Works loose s t) (k : FilesOk s) : FilesOk t := by
  induction h with
  | refl => exact k
  | tail _ e ih => exact e.filesOk ih

/-- What ABANDON_EDITION leaves of its edition (R32). -/
structure Abandoned (h : Nat) (s t : State) : Prop where
  edition : t.edition h = none
  objects : t.objectsOf h = []
  deposits : t.openDeposits h = []
  ledger : t.ledger = s.ledger
  streams : t.streams = s.streams

theorem abandoned_of_dropped (h : Nat) (tables : TablesOk s) : Abandoned h s (withdrawCopy s
    { removeObjects h (dropDeposits (s.openDeposits h) s) with
      catalog.editions := tdel (removeObjects h (dropDeposits (s.openDeposits h) s)).catalog.editions h }) := by
  have files : FilesOk (dropDeposits (s.openDeposits h) s) :=
    (dropDeposits_works (loose := True) _ s).filesOk (tablesOk_iff.1 tables).2.1
  have dropped := dropDeposits_openDeposits h tables.descriptors
  have streams := dropDeposits_streams (s.openDeposits h) s
  have ledger : (dropDeposits (s.openDeposits h) s).ledger = s.ledger := congrArg QuietView.ledger (dropDeposits_quiet _ s)
  generalize dropDeposits (s.openDeposits h) s = u at files dropped streams ledger
  obtain ⟨x, objects, g, hg, hgone, hr⟩ := removeObjects_rest h files.objects fun y hy => (files.objectKeys y hy).1
  rw [hr]
  obtain ⟨y, hy⟩ := withdrawCopy_rest s { u with
    store.stripes := x
    catalog := { editions := tdel u.catalog.editions h, objects := objects, serial := u.catalog.serial }
    intake.descriptors := u.intake.descriptors.map (fun e => (e.1, g e.2)) }
  rw [hy]
  refine ⟨tget_tdel_self files.editions h, objectsOf_eq_nil hgone, List.filter_eq_nil_iff.2 fun d hd => ?_, ledger, streams⟩
  obtain ⟨z, hz, rfl⟩ := List.mem_map.1 hd
  simp only [(hg z.2).1, (hg z.2).2, Bool.and_eq_true, beq_iff_eq, bne_iff_ne, ne_eq, not_and, not_not]
  exact dropped z hz

theorem abandonEdition_of_open {p : Port} {h : Nat} {e : Edition} (he : s.see p h = .ok e) (hs : e.state = .opened) :
    abandonEdition p h s = (withdrawCopy s
      { removeObjects h (dropDeposits (s.openDeposits h) s) with
        catalog.editions := tdel (removeObjects h (dropDeposits (s.openDeposits h) s)).catalog.editions h }, plain .ok) := by
  simp only [abandonEdition, he, hs, ne_eq, not_true_eq_false, if_false]

/-- Settles O21: CLOSE_EDITION's two outcomes are `exec_closeEdition_closing` and `exec_closeEdition_published`, and what
ABANDON_EDITION leaves is `abandoned_of_dropped`. -/
theorem openEditionsAreClosedOrAbandoned : Obligations.OpenEditionsAreClosedOrAbandoned := by
  constructor
  · intro f h release e s hadm he ho hs ht hfill now later
    have seen := see_own he ho hs
    refine ⟨fun hn r hr => ?_, fun hn r hr => ?_⟩
    · have stamp : closingRelease e.origin release s.now = r := by rw [hr]; cases e.origin <;> rfl
      rw [exec_closeEdition_closing hadm seen hs ht hfill hn, closingEdition, stamp]
    · refine exec_closeEdition_published hadm seen hs ht hfill hn ?_
      rw [hr]
      cases e.origin <;> rfl
  · intro f h e s hadm tables _ he ho hs
    have left := abandoned_of_dropped h tables
    exact ⟨_, congrArg _ (serveSettling_of_rule hadm (abandonEdition_of_open (see_own he ho hs) hs)),
      left.edition, left.objects, left.deposits, left.ledger, left.streams⟩

end Sys2Proof.Machine
end

section
/-! The last leaf of a deposit and of a pass. -/

namespace Sys2Proof.Machine

variable {s t u : State}

/-! ### The entry of an object (R36, R61) -/

theorem spaceCheck_rest (s : State) : ∃ space ns, spaceCheck s = { s with intake.space := space, notices := ns } := by
  unfold spaceCheck; simp only; split
  · exact ⟨s.intake.space, s.notices, rfl⟩
  · obtain ⟨ns, h⟩ := notifyAll_rest .stagingSpace (allPorts.filter (fun p => s.intake.space.get p))
      { s with intake.space := ⟨false, false, false⟩ }
    exact ⟨_, ns, h⟩

/-- The state once an object has been entered, before its edition counts it. -/
def entered (n : Nat) (d : Descriptor) (s : State) : State :=
  { takeSerial (s.putObject (enteredObject d (s.provisional n) s)) with
    intake.provisional := tdel s.intake.provisional n
    intake.descriptors := (tdel s.intake.descriptors n).map (fun e => (e.1, released d.key e.2)) }

theorem enterObject_of_edition {d : Descriptor} {e : Edition} (n : Nat) (he : s.edition d.key.handle = some e) : enterObject n d s
    = if e.state = .closing ∧ (countEntry d.key.kind e).outstanding = 0
      then publish d.key.handle ((entered n d s).putEdition d.key.handle (countEntry d.key.kind e))
      else (entered n d s).putEdition d.key.handle (countEntry d.key.kind e) := by
  unfold enterObject
  simp only
  split
  · rename_i hn
    exact absurd (he.symm.trans hn) (by simp)
  · rename_i e' he'
    obtain rfl : e = e' := Option.some.inj (he.symm.trans he')
    rfl

/-- The edition's count and its publication change the directory and the notices alone. -/
theorem enterObject_rest {d : Descriptor} {e : Edition} (n : Nat) (he : s.edition d.key.handle = some e) :
    ∃ eds ns, enterObject n d s = { entered n d s with catalog.editions := eds, notices := ns } := by
  rw [enterObject_of_edition n he]
  split
  · rw [publish_of_edition (edition_putEdition_self _ _ _)]
    obtain ⟨ns, h⟩ := notifyAll_rest .editionPublished allPorts
      (((entered n d s).putEdition d.key.handle (countEntry d.key.kind e)).putEdition d.key.handle
        { countEntry d.key.kind e with
          state := .published, published := some s.now
          release := if (countEntry d.key.kind e).origin = .historical then some s.now else (countEntry d.key.kind e).release })
    exact ⟨_, ns, h⟩
  · exact ⟨_, (entered n d s).notices, rfl⟩

/-- The one complete descriptor that waits on nothing is entered. -/
theorem enterReady_of_one {k n : Nat} {d : Descriptor} (hs : Table.Ordered s.intake.descriptors) (hd : s.descriptor n = some d)
    (hc : d.complete = true) (hw : d.waits = []) (hother : ∀ x ∈ s.intake.descriptors, x.1 ≠ n → x.2.complete = false) :
    enterReady (k + 1) s = enterObject n d s := by
  have found : s.intake.descriptors.find? (fun e => e.2.complete && e.2.waits.isEmpty) = some (n, d) := by
    have some_found : (s.intake.descriptors.find? (fun e => e.2.complete && e.2.waits.isEmpty)).isSome = true :=
      List.find?_isSome.2 ⟨(n, d), mem_of_tget hd, by simp [hc, hw]⟩
    obtain ⟨x, hx⟩ := Option.isSome_iff_exists.1 some_found
    have hmem := List.mem_of_find?_eq_some hx
    have hcx := List.find?_some hx
    simp only [Bool.and_eq_true] at hcx
    have hn : x.1 = n := by
      by_contra hne
      rw [hother x hmem hne] at hcx
      cases hcx.1
    have hxd : s.descriptor x.1 = some x.2 := tget_of_mem hs hmem
    rw [hn, hd] at hxd
    rw [hx, ← hn, Option.some.inj hxd]
  unfold enterReady
  rw [found]
  refine enterReady_of_none fun y hy => ?_
  rw [enterObject_descriptors] at hy
  obtain ⟨x, hx, rfl⟩ := List.mem_map.1 hy
  exact hother x (mem_tdel hx) (tget_ne_of_mem_tdel hs hx)

/-- The edition's record with the entered object counted. -/
def counted (k : Kind) (e : Edition) : Edition :=
  { e with pages := e.pages + (if k = .page then 1 else 0), photos := e.photos + (if k = .photo then 1 else 0) }

theorem countEntry_of_open {k : Kind} {e : Edition} (hs : e.state = .opened) : countEntry k e = counted k e := by
  cases k <;> simp [countEntry, counted, hs]

theorem countEntry_of_closing {k : Kind} {e : Edition} (hs : e.state = .closing) :
    countEntry k e = { counted k e with outstanding := e.outstanding - 1 } := by
  cases k <;> simp [countEntry, counted, hs]

/-- What the entry of an object leaves (R36): the object, its serial, its descriptor free and its record cleared. -/
structure Entered (n : Nat) (d : Descriptor) (s t : State) : Prop where
  object : t.object d.key = some (enteredObject d (s.provisional n) s)
  serial : t.catalog.serial = (s.catalog.serial + 1) % 2 ^ 32
  descriptor : t.descriptor n = none
  provisional : t.provisional n = []
  store : t.store = s.store

theorem entered_of_enterObject {n : Nat} {d : Descriptor} {e : Edition} (he : s.edition d.key.handle = some e)
    (hd : Table.Ordered s.intake.descriptors) (hp : Table.Ordered s.intake.provisional) : Entered n d s (enterObject n d s) := by
  obtain ⟨eds, ns, h⟩ := enterObject_rest n he
  rw [h]
  refine ⟨tget_tput_self _ _ _, rfl, ?_, ?_, rfl⟩
  · show tget ((tdel s.intake.descriptors n).map (fun e => (e.1, released d.key e.2))) n = none
    rw [tget_mapValues, tget_tdel_self hd]
    rfl
  · show (tget (tdel s.intake.provisional n) n).getD [] = []
    rw [tget_tdel_self hp]
    rfl

section Counting

variable {n : Nat} {d : Descriptor} {e : Edition} (he : s.edition d.key.handle = some e)

include he

theorem enterObject_edition_open (hs : e.state = .opened) :
    (enterObject n d s).edition d.key.handle = some (counted d.key.kind e) := by
  rw [enterObject_of_edition n he, if_neg (by simp [hs]), countEntry_of_open hs]
  exact edition_putEdition_self _ _ _

theorem enterObject_edition_closing (hs : e.state = .closing) (h1 : e.outstanding ≠ 1) (h0 : e.outstanding ≠ 0) :
    (enterObject n d s).edition d.key.handle = some { counted d.key.kind e with outstanding := e.outstanding - 1 } := by
  have more : (countEntry d.key.kind e).outstanding ≠ 0 := by
    rw [countEntry_of_closing hs]; show e.outstanding - 1 ≠ 0; omega
  rw [enterObject_of_edition n he, if_neg (fun h => more h.2), countEntry_of_closing hs]
  exact edition_putEdition_self _ _ _

theorem enterObject_edition_last (hs : e.state = .closing) (h1 : e.outstanding = 1) :
    (enterObject n d s).edition d.key.handle = some { counted d.key.kind e with
      outstanding := 0, state := .published, published := some s.now
      release := if e.origin = .historical then some s.now else e.release } ∧
    ∀ q, ((enterObject n d s).notices.get q).pending &&& noticeBit .editionPublished = noticeBit .editionPublished := by
  have last : (countEntry d.key.kind e).outstanding = 0 := by
    rw [countEntry_of_closing hs]; show e.outstanding - 1 = 0; omega
  rw [enterObject_of_edition n he, if_pos ⟨hs, last⟩, publish_of_edition (edition_putEdition_self _ _ _), countEntry_of_closing hs, h1]
  refine ⟨?_, fun q => notifyAll_pending (by cases q <;> decide)⟩
  rw [edition_notifyAll, edition_putEdition_self]
  rfl

end Counting

/-! ### The last leaf of a deposit -/

/-- The descriptor of a deposit after its last leaf. -/
def lastTaken (op : ProgramOp) (d : Descriptor) : Descriptor :=
  { d with staged := d.staged.filter (fun l => l.leaf != op.leaf), programmed := d.programmed + 1 }

theorem lastTaken_complete {op : ProgramOp} {d : Descriptor} (hs : d.state = .ended) (hl : ∀ l ∈ d.staged, l.leaf = op.leaf)
    (hp : d.programmed + 1 = leavesOf d.length) : (lastTaken op d).complete = true := by
  have unstaged : d.staged.filter (fun l => l.leaf != op.leaf) = [] := List.filter_eq_nil_iff.2 fun l h => by simp [hl l h]
  simp [Descriptor.complete, lastTaken, hs, unstaged, hp]

/-- Intake's last leaf enters its object from a state that has the leaf recorded. -/
theorem intakeWritten_enters {op : ProgramOp} {run : Run} {d : Descriptor} (hds : Table.Ordered s.intake.descriptors)
    (hr : s.intake.run = some run) (hd : s.descriptor run.descriptor = some d) (hs : d.state = .ended) (hw : d.waits = [])
    (hl : ∀ l ∈ d.staged, l.leaf = op.leaf) (hp : d.programmed + 1 = leavesOf d.length)
    (hother : ∀ x ∈ s.intake.descriptors, x.1 ≠ run.descriptor → x.2.complete = false) :
    ∃ u, intakeWritten op s = enterObject run.descriptor (lastTaken op d) u ∧ u.catalog = s.catalog ∧ u.clock = s.clock ∧
      u.store = (liveRises op.stripe 1 s).store ∧ u.intake.descriptors = tput s.intake.descriptors run.descriptor (lastTaken op d) ∧
      u.intake.provisional
        = tput s.intake.provisional run.descriptor (recordLeaf (s.provisional run.descriptor) op.stripe op.place) := by
  have taken : ∃ v : State, intakeWritten op s = enterReady Config.descriptors (spaceCheck v) ∧ v.catalog = s.catalog ∧
      v.clock = s.clock ∧ v.store = (liveRises op.stripe 1 s).store ∧
      v.intake.descriptors = tput s.intake.descriptors run.descriptor (lastTaken op d) ∧ v.intake.provisional
        = tput s.intake.provisional run.descriptor (recordLeaf (s.provisional run.descriptor) op.stripe op.place) := by
    unfold intakeWritten
    rw [hr]
    simp only [hd]
    exact ⟨_, rfl, rfl, rfl, rfl, rfl, rfl⟩
  obtain ⟨v, hv, h1, h2, h3, h4, h5⟩ := taken
  obtain ⟨space, ns, hc⟩ := spaceCheck_rest v
  refine ⟨spaceCheck v, hv.trans ?_, by rw [hc]; exact h1, by rw [hc]; exact h2, by rw [hc]; exact h3, by rw [hc]; exact h4,
    by rw [hc]; exact h5⟩
  have descriptors : (spaceCheck v).intake.descriptors = tput s.intake.descriptors run.descriptor (lastTaken op d) := by
    rw [hc]; exact h4
  refine enterReady_of_one (by rw [descriptors]; exact ordered_tput hds _ _) ?_ (lastTaken_complete hs hl hp) hw fun x hx hne => ?_
  · unfold State.descriptor
    rw [descriptors]
    exact tget_tput_self _ _ _
  · rw [descriptors] at hx
    rcases mem_tput hx with rfl | hx
    · exact absurd rfl hne
    · exact hother x hx hne

/-! ### The last leaf of a pass -/

/-- No live count changes, and the stripe table stays in key order. -/
structure LiveKept (s t : State) : Prop where
  ordered : Table.Ordered t.store.stripes
  live : ∀ n, (t.stripe n).live = (s.stripe n).live

theorem LiveKept.of_stripes (ho : Table.Ordered s.store.stripes) (h : t.store.stripes = s.store.stripes) : LiveKept s t :=
  ⟨h ▸ ho, fun n => by unfold State.stripe; rw [h]⟩

theorem LiveKept.trans (h : LiveKept s t) (k : LiveKept t u) : LiveKept s u := ⟨k.ordered, fun n => (k.live n).trans (h.live n)⟩

theorem readersFall_live (es : List Extent) (ho : Table.Ordered s.store.stripes) : LiveKept s (readersFall es s) := by
  refine List.foldlRecOn (motive := LiveKept s) _ _ (.of_stripes ho rfl) fun t ht n _ => ht.trans ⟨ordered_tset _ ht.ordered _ _, fun m => ?_⟩
  rw [stripe_mapStripe ht.ordered, Function.update_apply]
  split
  · rename_i h; rw [h]
  · rfl

theorem endPassSource_live (ho : Table.Ordered s.store.stripes) : LiveKept s (endPassSource s) := by
  unfold endPassSource; split
  · exact .of_stripes ho rfl
  · rename_i st _
    have fetch : LiveKept s (if st.fetch = .inFlight then detachFetcher .passSource s else s) := by
      split
      · obtain ⟨w, hw, -⟩ := detachFetcher_wings .passSource s
        exact .of_stripes ho (by rw [hw])
      · exact .of_stripes ho rfl
    have fallen := fetch.trans (readersFall_live st.snapshot fetch.ordered)
    exact fallen.trans (.of_stripes fallen.ordered rfl)

/-- A pass that ends CREATED leaves every live count as it is: its leaves have become a version's. -/
theorem endActive_created_live (p : Pass) (ho : Table.Ordered s.store.stripes) : LiveKept s (endActive p .created none s) := by
  have source := endPassSource_live ho
  obtain ⟨w, hw, -⟩ := detachFeeder_wings .restore (endPassSource s)
  refine source.trans (.of_stripes source.ordered ?_)
  show (unstall .restore (detachFeeder .restore (endPassSource s))).store.stripes = _
  rw [hw]
  rfl

/-- What a pass leaves that ends with its version (R107, R108). -/
structure PassCreated (p : Pass) (s t : State) : Prop where
  catalog : t.catalog = s.catalog
  active : t.passes.active = none
  output : t.passes.output = []
  outcome : t.passes.result.outcome = .created
  newNumber : t.passes.result.newNumber = p.newNumber
  pass : t.passes.result.pass = some p.id
  notice : t.notices.bench.pending &&& noticeBit .passEnded = noticeBit .passEnded

theorem passCreated (p : Pass) (s : State) : PassCreated p s (endActive p .created none s) := by
  obtain ⟨x, h, hx⟩ := stopActive_rest (PassOutcome.created == .created) s
  unfold endActive
  rw [hx]
  exact ⟨rfl, rfl, rfl, rfl, rfl, rfl, bits_or_right BitVec.and_self⟩

/-- A pass whose output leaf has been written. -/
def leafTaken (p : Pass) : Pass := { p with written := p.written + 1, leaf := [], request := .none }

/-- The state in which a pass's leaf has been recorded. -/
def outputTaken (op : ProgramOp) (p : Pass) (s : State) : State :=
  { liveRises op.stripe 1 s with
    passes.output := recordLeaf s.passes.output op.stripe op.place
    passes.active := some (leafTaken p) }

theorem passWritten_of_active {op : ProgramOp} {p : Pass} (hp : s.passes.active = some p) : passWritten op s
    = if (leafTaken p).allWritten then createVersion (leafTaken p) (outputTaken op p s) else outputTaken op p s := by
  unfold passWritten
  rw [hp]
  rfl

theorem leafTaken_allWritten_iff {p : Pass} {b : Bound} (hb : p.bound = some b) :
    (leafTaken p).allWritten = true ↔ leavesOf b.length ≤ p.written + 1 := by
  simp [Pass.allWritten, leafTaken, hb]

theorem createVersion_of_published {p : Pass} {b : Bound} {n : Nat} {o : Object} {e : Edition} (hb : p.bound = some b)
    (hn : p.newNumber = some n) (ho : s.object p.key = some o) (he : s.edition p.key.handle = some e) (hs : e.state = .published) :
    createVersion p s = endActive p .created none (takeSerial (s.putObject
      { o with versions := o.versions ++ [passVersion p b n s], lastNumber := n })) := by
  simp only [createVersion, hb, hn, ho, he, hs, if_true]

/-! ### The statement -/

/-- The state in which a program WRITTEN reaches its feeder. -/
def programRecorded (op : ProgramOp) (s : State) : State :=
  (writeLeaf op { s with store.wings := .split none none, store.mark := none }).mapStripe op.stripe writtenStripe

theorem exec_programWritten {op : ProgramOp} (hw : s.store.wings = .both (.program op)) :
    exec .leafProgramWritten s = .next (conclude (feedWritten op (programRecorded op s))) := exec_leafProgramWritten hw

theorem feedWritten_of_intake {op : ProgramOp} (hc : op.ceased = false) (hf : op.front = .intake) :
    feedWritten op s = intakeWritten op s := by
  unfold feedWritten
  rw [hc, hf]
  rfl

theorem feedWritten_of_restore {op : ProgramOp} (hc : op.ceased = false) (hf : op.front = .restore) :
    feedWritten op s = passWritten op s := by
  unfold feedWritten
  rw [hc, hf]
  rfl

/-- A leaf becomes live in the stripe of its program. -/
theorem programRecorded_live {op : ProgramOp} (ho : Table.Ordered s.store.stripes) :
    Table.Ordered (liveRises op.stripe 1 (programRecorded op s)).store.stripes ∧
    ((liveRises op.stripe 1 (programRecorded op s)).stripe op.stripe).live = (s.stripe op.stripe).live + 1 := by
  have ordered : Table.Ordered (programRecorded op s).store.stripes := ordered_tset _ ho _ _
  have written : (programRecorded op s).stripe op.stripe = writtenStripe (s.stripe op.stripe) :=
    stripe_completed (s := s) (u := writeLeaf op { s with store.wings := .split none none, store.mark := none }) ho rfl
  refine ⟨ordered_tset _ ordered _ _, ?_⟩
  rw [liveRises, stripe_mapStripe ordered, Function.update_self, written]
  rfl

/-- What the last leaf of a deposit leaves (R36, R61), with its edition as it was in `s`. -/
structure DepositEntered (op : ProgramOp) (n : Nat) (d : Descriptor) (e : Edition) (s t : State) : Prop where
  object : t.object d.key = some (enteredObject d (recordLeaf (s.provisional n) op.stripe op.place) s)
  serial : t.catalog.serial = (s.catalog.serial + 1) % 2 ^ 32
  descriptor : t.descriptor n = none
  provisional : t.provisional n = []
  live : (t.stripe op.stripe).live = (s.stripe op.stripe).live + 1
  opened : e.state = .opened → t.edition d.key.handle = some (counted d.key.kind e)
  closing : e.state = .closing → e.outstanding ≠ 1 → e.outstanding ≠ 0 →
    t.edition d.key.handle = some { counted d.key.kind e with outstanding := e.outstanding - 1 }
  last : e.state = .closing → e.outstanding = 1 →
    t.edition d.key.handle = some { counted d.key.kind e with
      outstanding := 0, state := .published, published := some s.now
      release := if e.origin = .historical then some s.now else e.release } ∧
    ∀ q, (t.notices.get q).pending &&& noticeBit .editionPublished = noticeBit .editionPublished

theorem depositEntered {op : ProgramOp} {run : Run} {d : Descriptor} {e : Edition} (ho : Table.Ordered s.store.stripes)
    (hds : Table.Ordered s.intake.descriptors) (hes : Table.Ordered s.intake.provisional) (hr : s.intake.run = some run)
    (hd : s.descriptor run.descriptor = some d) (hs : d.state = .ended) (hw : d.waits = []) (hl : ∀ l ∈ d.staged, l.leaf = op.leaf)
    (hp : d.programmed + 1 = leavesOf d.length)
    (hother : ∀ x ∈ s.intake.descriptors, x.1 ≠ run.descriptor → x.2.complete = false) (he : s.edition d.key.handle = some e) :
    DepositEntered op run.descriptor d e s (intakeWritten op (programRecorded op s)) := by
  obtain ⟨u, hu, hcat, hclock, hstore, hu1, hu2⟩ := intakeWritten_enters (s := programRecorded op s) hds hr hd hs hw hl hp hother
  have edition : u.edition d.key.handle = some e := by unfold State.edition; rw [hcat]; exact he
  have now : u.now = s.now := by unfold State.now; rw [hclock]; rfl
  have record : u.provisional run.descriptor = recordLeaf (s.provisional run.descriptor) op.stripe op.place := by
    unfold State.provisional; rw [hu2, tget_tput_self]; rfl
  have entry := entered_of_enterObject (n := run.descriptor) (d := lastTaken op d) (e := e) edition
    (by rw [hu1]; exact ordered_tput hds _ _) (by rw [hu2]; exact ordered_tput hes _ _)
  rw [hu]
  refine ⟨?_, ?_, entry.descriptor, entry.provisional, ?_, fun h => enterObject_edition_open (d := lastTaken op d) edition h,
    fun h h1 h0 => enterObject_edition_closing (d := lastTaken op d) edition h h1 h0,
    fun h h1 => now ▸ enterObject_edition_last (d := lastTaken op d) edition h h1⟩
  · refine entry.object.trans (congrArg some ?_)
    rw [record]
    unfold enteredObject State.today
    rw [hcat, hclock]
    rfl
  · rw [entry.serial, hcat]; rfl
  · unfold State.stripe
    rw [entry.store, hstore]
    exact (programRecorded_live ho).2

/-- What the last leaf of a pass leaves (R106, R107). -/
structure VersionEntered (op : ProgramOp) (p : Pass) (b : Bound) (n : Nat) (o : Object) (s t : State) : Prop where
  object : t.object p.key = some { o with
    lastNumber := n
    versions := o.versions ++ [{ number := n, origin := .pass, damaged := false, length := b.length, check := crc32Check p.register,
                                 profile := p.profile, created := s.today, serial := s.catalog.serial,
                                 extents := recordLeaf s.passes.output op.stripe op.place }] }
  serial : t.catalog.serial = (s.catalog.serial + 1) % 2 ^ 32
  active : t.passes.active = none
  output : t.passes.output = []
  outcome : t.passes.result.outcome = .created
  newNumber : t.passes.result.newNumber = some n
  pass : t.passes.result.pass = some p.id
  notice : t.notices.bench.pending &&& noticeBit .passEnded = noticeBit .passEnded
  live : (t.stripe op.stripe).live = (s.stripe op.stripe).live + 1

theorem versionEntered {op : ProgramOp} {p : Pass} {b : Bound} {n : Nat} {o : Object} {e : Edition}
    (ho : Table.Ordered s.store.stripes) (hp : s.passes.active = some p) (hb : p.bound = some b)
    (hall : p.written + 1 = leavesOf b.length) (hn : p.newNumber = some n) (hobj : s.object p.key = some o) (hk : o.key = p.key)
    (he : s.edition p.key.handle = some e) (hs : e.state = .published) :
    VersionEntered op p b n o s (passWritten op (programRecorded op s)) := by
  rw [passWritten_of_active (s := programRecorded op s) hp, if_pos ((leafTaken_allWritten_iff hb).2 hall.ge)]
  generalize hu : outputTaken op p (programRecorded op s) = u
  have object : u.object p.key = some o := by rw [← hu]; exact hobj
  have edition : u.edition p.key.handle = some e := by rw [← hu]; exact he
  have ordered : Table.Ordered u.store.stripes := by rw [← hu]; exact (programRecorded_live ho).1
  rw [createVersion_of_published (p := leafTaken p) hb hn object edition hs]
  generalize hv : takeSerial (u.putObject { o with versions := o.versions ++ [passVersion (leafTaken p) b n u], lastNumber := n }) = v
  have created := passCreated (leafTaken p) v
  have kept := endActive_created_live (leafTaken p) (s := v) (by rw [← hv]; exact ordered)
  refine ⟨?_, ?_, created.active, created.output, created.outcome, created.newNumber.trans hn, created.pass, created.notice, ?_⟩
  · unfold State.object
    rw [created.catalog, ← hv, ← hk]
    refine (tget_tput_self _ _ _).trans ?_
    rw [← hu]
    rfl
  · rw [created.catalog, ← hv, ← hu]; rfl
  · refine (kept.live op.stripe).trans ?_
    rw [← hv, ← hu]
    exact (programRecorded_live ho).2

/-- Settles O54: the last leaf of a deposit is `depositEntered`, that of a pass is `versionEntered`, and another leaf of a pass goes to
its output record (`passWritten_of_active`). -/
theorem lastLeavesEnterVersions : Obligations.LastLeavesEnterVersions := by
  intro s op hw hc ho
  constructor
  · intro run d e hf hds hes hr hd hs hwaits hl hp hother he counted
    have entry := depositEntered (op := op) ho hds hes hr hd hs hwaits hl hp hother he
    rw [← feedWritten_of_intake hc hf] at entry
    exact ⟨_, exec_programWritten hw, entry.object, entry.serial, entry.descriptor, entry.provisional, entry.live, entry.opened,
      entry.closing, entry.last⟩
  · intro p b hf hp hb output
    refine ⟨fun hmore => ?_, fun n o e hall hn hobj hk he hs => ?_⟩
    · refine ⟨_, exec_programWritten hw, ?_⟩
      rw [feedWritten_of_restore hc hf, passWritten_of_active (s := programRecorded op s) hp,
        if_neg (mt (leafTaken_allWritten_iff hb).1 (Nat.not_le.2 hmore))]
      exact ⟨rfl, rfl, rfl, (programRecorded_live ho).2⟩
    · have entry := versionEntered (op := op) ho hp hb hall hn hobj hk he hs
      rw [← feedWritten_of_restore hc hf] at entry
      exact ⟨_, exec_programWritten hw, entry.object, entry.serial, entry.active, entry.output, entry.outcome, entry.newNumber,
        entry.pass, entry.notice, entry.live⟩

end Sys2Proof.Machine
end

section
/-! The requests of chapter 3 as they are answered: BEGIN_OBJECT, PUT_CHUNK, END_OBJECT and DROP_OBJECT. -/

namespace Sys2Proof.Machine

variable {s : State}

/-! ### BEGIN_OBJECT (R48 to R51) -/

theorem lowestFree_eq {bound n : Nat} {used : List Nat} (hn : n < bound) (hfree : n ∉ used) (hbelow : ∀ m < n, m ∈ used) :
    lowestFree bound used = some n := by
  unfold lowestFree
  rw [List.find?_range_eq_some]
  exact ⟨by simpa using hfree, List.mem_range.2 hn, fun m hm => by simpa using hbelow m hm⟩

/-- The checks of R49 that follow the arguments pass, and name the lowest free descriptor. -/
theorem beginChecks_of_passed {p : Port} {c n : Nat} {ks : List Key} (hm : s.control.mode = .normal)
    (photos : ∀ q ∈ ks, s.photoEntered p q = true ∨ s.endedHolds p q = true)
    (hc : c = 0 ∨ (s.contributor c).state ≠ .unused)
    (few : (s.intake.descriptors.filter (fun x => x.2.holder == p)).length < 3)
    (room : s.catalog.objects.length + (s.intake.descriptors.filter (fun x => x.2.state != .dropped)).length < 1048576)
    (hn : n < 4) (hfree : n ∉ s.intake.descriptors.map (·.1)) (hbelow : ∀ m < n, m ∈ s.intake.descriptors.map (·.1)) :
    s.beginChecks p c ks = .ok n := by
  have exist : ks.all (s.photoExists p) = true := List.all_eq_true.2 fun q hq => by
    simpa [State.photoExists] using photos q hq
  have known : ¬(c ≠ 0 ∧ (s.contributor c).state = .unused) := fun h => hc.elim h.1 fun h' => h' h.2
  unfold State.beginChecks
  simp only [exist, Bool.not_true, Bool.false_eq_true, if_false, if_neg known, hm, reduceCtorEq, if_neg (Nat.not_le.2 few),
    State.beginChecks.firstFree, lowestFree_eq hn hfree hbelow, if_neg (Nat.not_le.2 room)]

theorem placementsAllowed_of {k : Key} {ks : List Key} (photo : k.kind = .photo → ks = []) (hl : ks.length ≤ 32) (hd : ks.Nodup) :
    placementsAllowed k.kind ks = true := by
  cases hk : k.kind with
  | page => simp [placementsAllowed, hl, hd]
  | photo => simp [placementsAllowed, photo hk]

theorem keyStaged_of_dropped {k : Key} (h : ∀ x ∈ s.intake.descriptors, x.2.key = k → x.2.state = .dropped) :
    s.keyStaged k = false := by
  simp only [State.keyStaged, List.any_eq_false, Bool.and_eq_true, bne_iff_ne, beq_iff_eq]
  exact fun x hx hk => hk.1 (h x hx hk.2)

/-- Settles O26: the edition is seen by its owner, and the checks name the lowest free descriptor (`beginChecks_of_passed`). -/
theorem beginObjectOpensADescriptor : Obligations.BeginObjectOpensADescriptor := by
  intro f h kind number length rights contributor format n placements e k rs fm ks s hadm hm he ho hs hk hobj staged hr hf hks
    photo hl hd hlen hmax hcon photos hc few room hn hfree hbelow
  refine congrArg _ (serve_of_rule hadm ?_)
  have arguments : (decide (1 ≤ length) && decide (length ≤ Config.maxBody) && decide (contributor ≤ 1023)
      && placementsAllowed k.kind ks) = true := by simp [hlen, hmax, hcon, placementsAllowed_of photo hl hd]
  simp only [beginObject, see_own he ho hs, ho, hs, ne_eq, not_true_eq_false, if_false, hk, hobj, Option.isSome_none, Bool.false_or,
    keyStaged_of_dropped staged, Bool.false_eq_true, hr, hf, hks, arguments, Bool.not_true,
    beginChecks_of_passed hm photos hc few room hn hfree hbelow]
  rfl

/-! ### PUT_CHUNK (R52, R53) -/

theorem holding_of {p : Port} {n : Nat} {d : Descriptor} (hd : s.descriptor n = some d) (hp : d.holder = p) :
    s.holding p n = some d := by
  simp only [State.holding, hd, hp, if_true]

theorem nextLeafStart_of_aligned {o : Nat} (h : o % 32768 = 0) : nextLeafStart o = o := by
  unfold nextLeafStart Config.leafOctets
  omega

theorem nextLeafStart_of_within {o : Nat} (h : o % 32768 ≠ 0) : nextLeafStart o = (o / 32768 + 1) * 32768 := by
  unfold nextLeafStart Config.leafOctets
  omega

theorem appendTo_nil (leaf : Nat) : appendTo leaf [] = id := by
  funext l
  unfold appendTo
  split <;> simp

section Chunk

variable {d : Descriptor} {data : List Octet}

/-- Inside a leaf the octets up to its end fill the leaf in hand. -/
theorem takeChunk_of_fitting (sequence : Nat) (h : d.next % 32768 ≠ 0) (hfit : data.length ≤ 32768 - d.next % 32768) :
    takeChunk data sequence d = { d with
      staged := d.staged.map (appendTo (d.next / 32768) data)
      next := d.next + data.length
      register := crc32Update d.register data } := by
  have room : nextLeafStart d.next - d.next = 32768 - d.next % 32768 := by rw [nextLeafStart_of_within h]; omega
  simp [takeChunk, room, List.take_of_length_le hfit, List.drop_eq_nil_of_le hfit]

/-- A chunk that runs past the leaf in hand begins the next. -/
theorem takeChunk_of_crossing (sequence : Nat) (h : d.next % 32768 ≠ 0) (hcross : 32768 - d.next % 32768 < data.length) :
    takeChunk data sequence d = { d with
      staged := d.staged.map (appendTo (d.next / 32768) (data.take (32768 - d.next % 32768)))
        ++ [⟨d.next / 32768 + 1, sequence, data.drop (32768 - d.next % 32768)⟩]
      next := d.next + data.length
      register := crc32Update d.register data } := by
  have room : nextLeafStart d.next - d.next = 32768 - d.next % 32768 := by rw [nextLeafStart_of_within h]; omega
  have leaf : nextLeafStart d.next / 32768 = d.next / 32768 + 1 := by rw [nextLeafStart_of_within h]; omega
  have more : data.drop (32768 - d.next % 32768) ≠ [] := by simpa using hcross
  simp [takeChunk, room, leaf, more]

/-- At a leaf's start the whole chunk begins a staging leaf. -/
theorem takeChunk_of_aligned (sequence : Nat) (h : d.next % 32768 = 0) (hdata : 1 ≤ data.length) :
    takeChunk data sequence d = { d with
      staged := d.staged ++ [⟨d.next / 32768, sequence, data⟩]
      next := d.next + data.length
      register := crc32Update d.register data } := by
  have more : data ≠ [] := List.ne_nil_of_length_pos hdata
  simp [takeChunk, nextLeafStart_of_aligned h, appendTo_nil, more]

theorem needsLeaf_of_aligned (h : d.next % 32768 = 0) (hdata : 1 ≤ data.length) : needsLeaf d.next data.length = true := by
  simp only [needsLeaf, nextLeafStart_of_aligned h, decide_eq_true_eq]
  omega

/-- Inside a leaf a chunk needs a new staging leaf exactly if it runs past the leaf's end. -/
theorem needsLeaf_iff_of_within (h : d.next % 32768 ≠ 0) :
    needsLeaf d.next data.length = true ↔ 32768 - d.next % 32768 < data.length := by
  simp only [needsLeaf, nextLeafStart_of_within h, decide_eq_true_eq]
  omega

variable {p : Port} {n : Nat} (hm : s.control.mode = .normal) (hd : s.descriptor n = some d) (hp : d.holder = p)
  (hs : d.state = .filling) (hdata : 1 ≤ data.length) (hmax : data.length ≤ 4096) (hlen : d.next + data.length ≤ d.length)

include hm hd hp hs hdata hmax hlen

/-- A chunk at the next expected offset meets no check but the one for a staging leaf. -/
theorem putChunk_of_next : putChunk p n d.next data s =
    if needsLeaf d.next data.length && decide (Config.stagingLeaves ≤ s.occupancy) then
      ({ s with intake.space := s.intake.space.set p true }, plain .stagingFull)
    else ({ s.putDescriptor n (takeChunk data s.intake.nextSequence d) with
      intake.nextSequence := s.intake.nextSequence + if needsLeaf d.next data.length then 1 else 0 },
      ⟨.ok, be 4 (d.next + data.length)⟩) := by
  have sized : (data.isEmpty || decide (Config.maxChunk < data.length)) = false := by
    simp [List.ne_nil_of_length_pos hdata, hmax]
  simp only [putChunk, holding_of hd hp, hs, hm, reduceCtorEq, ne_eq, not_true_eq_false, if_false, sized, Bool.false_eq_true,
    if_neg (Nat.not_lt.2 hlen)]
  rfl

theorem putChunk_of_fitting (h : d.next % 32768 ≠ 0) (hfit : data.length ≤ 32768 - d.next % 32768) :
    putChunk p n d.next data s = (s.putDescriptor n { d with
      staged := d.staged.map (appendTo (d.next / 32768) data)
      next := d.next + data.length
      register := crc32Update d.register data }, ⟨.ok, be 4 (d.next + data.length)⟩) := by
  have fits : needsLeaf d.next data.length = false := Bool.eq_false_iff.2 fun k => absurd ((needsLeaf_iff_of_within h).1 k) (by omega)
  rw [putChunk_of_next hm hd hp hs hdata hmax hlen, fits, takeChunk_of_fitting _ h hfit]
  rfl

/-- A chunk that needs a staging leaf takes a free one with the next allocation sequence number. -/
theorem putChunk_of_free (need : needsLeaf d.next data.length = true) (free : s.occupancy < 80) :
    putChunk p n d.next data s = ({ s.putDescriptor n (takeChunk data s.intake.nextSequence d) with
      intake.nextSequence := s.intake.nextSequence + 1 }, ⟨.ok, be 4 (d.next + data.length)⟩) := by
  rw [putChunk_of_next hm hd hp hs hdata hmax hlen, need]
  simp only [Bool.true_and, decide_eq_true_eq, if_neg (Nat.not_le.2 free), if_true]

theorem putChunk_of_full (need : needsLeaf d.next data.length = true) (full : 80 ≤ s.occupancy) :
    putChunk p n d.next data s = ({ s with intake.space := s.intake.space.set p true }, plain .stagingFull) := by
  rw [putChunk_of_next hm hd hp hs hdata hmax hlen, need]
  simp only [Bool.true_and, decide_eq_true_eq, if_pos full]

end Chunk

/-- Settles O27: a chunk meets the check for a staging leaf alone (`putChunk_of_next`), and the leaf's end divides its octets
(`takeChunk_of_fitting`, `takeChunk_of_crossing`, `takeChunk_of_aligned`). -/
theorem putChunkAppendsItsOctets : Obligations.PutChunkAppendsItsOctets := by
  intro f n data d s hadm hm hd hp hs hdata hmax hlen leaf room answer taking filled
  have served : ∀ {t : State} {a : Answer}, putChunk f.port n d.next data s = (t, a) →
      exec (.putChunk f n d.next data) s = .next (concluded f a t) := fun h => congrArg _ (serveSettling_of_rule hadm h)
  refine ⟨fun h hfit => ?_, fun h free _ => ?_, fun h hcross free => ?_, fun h full => ?_⟩
  · exact served (putChunk_of_fitting hm hd hp hs hdata hmax hlen h hfit)
  · rw [served (putChunk_of_free hm hd hp hs hdata hmax hlen (needsLeaf_of_aligned h hdata) free), takeChunk_of_aligned _ h hdata]
  · rw [served (putChunk_of_free hm hd hp hs hdata hmax hlen ((needsLeaf_iff_of_within h).2 hcross) free),
      takeChunk_of_crossing _ h hcross]
    rfl
  · refine served (putChunk_of_full hm hd hp hs hdata hmax hlen ?_ full)
    by_cases within : d.next % 32768 = 0
    · exact needsLeaf_of_aligned within hdata
    · exact (needsLeaf_iff_of_within within).2 (h.resolve_left within)

end Sys2Proof.Machine
end

section
/-! The end and the drop of a deposit: what the entry of the objects that it held up leaves, END_OBJECT and DROP_OBJECT. -/

namespace Sys2Proof.Machine

variable {s : State}

/-! ### The entry of objects (R61) -/

/-- Complete descriptors that wait are not entered. -/
theorem enterReady_of_waiting {k : Nat} (h : ∀ x ∈ s.intake.descriptors, x.2.complete = true → x.2.waits ≠ []) : enterReady k s = s := by
  have none_ready : s.intake.descriptors.find? (fun e => e.2.complete && e.2.waits.isEmpty) = none :=
    List.find?_eq_none.2 fun x hx => by simpa using h x hx
  cases k with
  | zero => rfl
  | succ k => simp only [enterReady, none_ready]

theorem enterObject_provisional (n : Nat) (d : Descriptor) (s : State) :
    (enterObject n d s).intake.provisional = tdel s.intake.provisional n := by
  unfold enterObject; simp only; split
  · rfl
  · split
    · exact congrArg Holdings.provisional (publish_holdings _ _)
    · rfl

theorem enterObject_run (n : Nat) (d : Descriptor) (s : State) : (enterObject n d s).intake.run = s.intake.run := by
  unfold enterObject; simp only; split
  · rfl
  · split
    · exact congrArg Holdings.run (publish_holdings _ _)
    · rfl

/-- The entry of objects takes provisional records away and leaves the run. -/
theorem enterReady_records (k : Nat) (s : State) : (∀ x ∈ (enterReady k s).intake.provisional, x ∈ s.intake.provisional) ∧
    (enterReady k s).intake.run = s.intake.run := by
  induction k generalizing s with
  | zero => exact ⟨fun _ hx => hx, rfl⟩
  | succ k ih =>
    unfold enterReady; split
    · exact ⟨fun _ hx => hx, rfl⟩
    · rename_i n d _
      obtain ⟨records, run⟩ := ih (enterObject n d s)
      refine ⟨fun x hx => ?_, run.trans (enterObject_run n d s)⟩
      have hx := records x hx
      rw [enterObject_provisional] at hx
      exact mem_tdel hx

/-! ### The drop of one deposit (R56) -/

/-- The drop of one deposit is a drop of several. -/
theorem dropDeposits_single {n : Nat} {d : Descriptor} (hs : d.state ≠ .dropped) : dropDeposits [(n, d)] s = dropDeposit false n d s := by
  rw [dropDeposits_eq]
  cases h : d.state with
  | dropped => exact absurd h hs
  | filling => simp only [dropDeposit, List.foldl_cons, List.foldl_nil, dropOne, h]
  | ended => simp only [dropDeposit, List.foldl_cons, List.foldl_nil, dropOne, h]

/-- What a drop leaves of a deposit: nothing of its own, and the money, the streams and the flash as they were. -/
structure Dropped (n : Nat) (s t : State) : Prop where
  descriptor : t.descriptor n = none
  provisional : t.provisional n = []
  run : ∀ r, t.intake.run = some r → r.descriptor ≠ n
  ledger : t.ledger = s.ledger
  streams : t.streams = s.streams
  flash : t.store.flash = s.store.flash

/-- Dropped deposits are none of the descriptors that are left. -/
theorem dropDeposits_ne {ds : List (Nat × Descriptor)} (ho : Table.Ordered s.intake.descriptors) {e y : Nat × Descriptor} (he : e ∈ ds)
    (hy : y ∈ (dropDeposits ds s).intake.descriptors) : y.1 ≠ e.1 := by
  obtain ⟨x, hx⟩ := spaceCheck_intake (enterReady Config.descriptors (ds.foldl dropOne s))
  rw [dropDeposits_eq, hx] at hy
  obtain ⟨z, hz, hzy, -⟩ := enterReady_descriptorsFrom _ _ y hy
  exact hzy ▸ (dropAll_descriptors ds ho).2 z hz e he

theorem dropDeposit_descriptor {n : Nat} {d : Descriptor} (hs : d.state ≠ .dropped) (ho : Table.Ordered s.intake.descriptors) :
    (dropDeposit false n d s).descriptor n = none := by
  rw [← dropDeposits_single hs]
  exact tget_none_of_unlisted fun y hy => dropDeposits_ne ho (List.mem_singleton_self _) hy

theorem dropDeposit_streams (keep : Bool) (n : Nat) (d : Descriptor) (s : State) : (dropDeposit keep n d s).streams = s.streams := by
  unfold dropDeposit
  rw [spaceCheck_streams, enterReady_streams, dropCore_streams]

theorem dropDeposit_dropped {n : Nat} {d : Descriptor} (hs : d.state ≠ .dropped) (ho : Table.Ordered s.intake.descriptors)
    (hr : Table.Ordered s.intake.provisional) : Dropped n s (dropDeposit false n d s) := by
  obtain ⟨space, hspace⟩ := spaceCheck_intake (enterReady Config.descriptors (dropCore false n d s))
  obtain ⟨records, run⟩ := enterReady_records Config.descriptors (dropCore false n d s)
  obtain ⟨left, hcore, hleft⟩ := dropCore_holdings false n d s
  have quiet := dropDeposit_quiet false n d s
  refine ⟨dropDeposit_descriptor hs ho, ?_, fun r h => ?_, congrArg QuietView.ledger quiet, dropDeposit_streams _ _ _ s,
    congrArg QuietView.flash quiet⟩
  · have absent : tget (dropDeposit false n d s).intake.provisional n = none := tget_none_of_unlisted fun x hx => by
      unfold dropDeposit at hx
      rw [hspace] at hx
      have hx := records x hx
      rw [dropCore_provisional] at hx
      exact tget_ne_of_mem_tdel hr hx
    unfold State.provisional
    rw [absent]
    rfl
  · unfold dropDeposit at h
    rw [hspace] at h
    have core : (dropCore false n d s).intake.run = left := congrArg Holdings.run hcore
    exact (hleft r (core.symm.trans (run.symm.trans h))).2

/-! ### END_OBJECT and DROP_OBJECT (R54, R56, R57) -/

section Held

variable {p : Port} {n : Nat} {d : Descriptor} (hd : s.descriptor n = some d) (hp : d.holder = p)

include hd hp

theorem endObject_of_match {check : BitVec 32} (hs : d.state = .filling) (hall : d.next = d.length) (hc : check = ~~~d.register) :
    endObject p n check s = (enterReady Config.descriptors (s.putDescriptor n { d with state := .ended }), plain .ok) := by
  simp only [endObject, holding_of hd hp, hs, reduceCtorEq, ne_eq, not_true_eq_false, if_false, hall, hc, crc32Check]

theorem endObject_of_mismatch {check : BitVec 32} (hs : d.state = .filling) (hall : d.next = d.length) (hc : check ≠ ~~~d.register) :
    endObject p n check s = (dropDeposit false n d s, plain .checkMismatch) := by
  simp only [endObject, holding_of hd hp, hs, reduceCtorEq, ne_eq, not_true_eq_false, if_false, hall, crc32Check, hc, not_false_eq_true,
    if_true]

theorem dropObject_of_held (hs : d.state ≠ .dropped) : dropObject p n s = (dropDeposit false n d s, plain .ok) := by
  simp only [dropObject, holding_of hd hp, if_neg hs]

theorem dropObject_of_dropped (hs : d.state = .dropped) : dropObject p n s = tellDropped n d s := by
  simp only [dropObject, holding_of hd hp, hs, if_true]

end Held

/-- A descriptor that ends with leaves in staging is not complete, and no other is entered. -/
theorem enterReady_ended {k n : Nat} {d : Descriptor} (hst : d.staged ≠ [])
    (h : ∀ x ∈ s.intake.descriptors, x.2.complete = true → x.2.waits ≠ []) :
    enterReady k (s.putDescriptor n { d with state := .ended }) = s.putDescriptor n { d with state := .ended } := by
  refine enterReady_of_waiting fun x hx hc => ?_
  rcases mem_tput hx with rfl | hx
  · simp [Descriptor.complete, hst] at hc
  · exact h x hx hc

/-- Settles O28: what a drop leaves is `dropDeposit_dropped`; END_OBJECT drops on a mismatch alone. -/
theorem depositsEndAndAreDropped : Obligations.DepositsEndAndAreDropped := by
  constructor
  · intro f n check d s hadm ho hd hp hs hall
    refine ⟨fun hc hst waiting => ?_, fun hc => ?_⟩
    · refine congrArg _ (serveSettling_of_rule hadm ?_)
      rw [endObject_of_match hd hp hs hall hc, enterReady_ended hst waiting]
      rfl
    · exact ⟨_, congrArg _ (serveSettling_of_rule hadm (endObject_of_mismatch hd hp hs hall hc)),
        dropDeposit_descriptor (by simp [hs]) ho, congrArg QuietView.ledger (dropDeposit_quiet _ _ _ s), dropDeposit_streams _ _ _ s⟩
  · intro f n d s hadm ho hr hd hp
    refine ⟨fun hs => ?_, fun hs => ?_⟩
    · have left := dropDeposit_dropped (n := n) hs ho hr
      exact ⟨_, congrArg _ (serveSettling_of_rule hadm (dropObject_of_held hd hp hs)), left.descriptor, left.provisional, left.run,
        left.ledger, left.streams, left.flash⟩
    · exact congrArg _ (serveSettling_of_rule hadm (dropObject_of_dropped hd hp hs))

end Sys2Proof.Machine
end

section
/-! StepKeepsQueues: what staging, a port's streams and the pass queue hold, and the changes of them that stay within their bounds. -/

namespace Sys2Proof.Machine

variable {s t u : State}

/-! ### Staging (R47, R48) -/

/-- What the descriptors take of staging: its leaves, and the descriptors of each port. -/
inductive Charge where
  | leaves
  | descriptorsOf (p : Port)

/-- What one descriptor takes. -/
def Charge.of : Charge → Descriptor → Nat
  | .leaves, d => d.staged.length
  | .descriptorsOf p, d => if d.holder = p then 1 else 0

/-- What there is to take. -/
def Charge.limit : Charge → Nat
  | .leaves => Config.stagingLeaves
  | .descriptorsOf _ => Config.descriptorsPerPort

/-- What the descriptors of a table take together. -/
def Charge.total (c : Charge) (ds : Table Descriptor) : Nat := (ds.map (fun e => c.of e.2)).sum

namespace Charge

variable (c : Charge) {ds : Table Descriptor} {n : Nat} {d d' : Descriptor}

theorem total_leaves (s : State) : leaves.total s.intake.descriptors = s.occupancy := rfl

theorem total_descriptorsOf (p : Port) (ds : Table Descriptor) :
    (descriptorsOf p).total ds = (ds.filter (fun e => e.2.holder == p)).length := by
  induction ds with
  | nil => rfl
  | cons e ds ih =>
    have head : (descriptorsOf p).total (e :: ds) = (if e.2.holder = p then 1 else 0) + (descriptorsOf p).total ds := by
      simp [total, of]
    rw [head, ih]
    by_cases h : e.2.holder = p <;> simp [h, Nat.add_comm]

theorem total_cons (e : Nat × Descriptor) (ds : Table Descriptor) : c.total (e :: ds) = c.of e.2 + c.total ds := by simp [total]

theorem total_tdel_le (ds : Table Descriptor) (n : Nat) : c.total (tdel ds n) ≤ c.total ds := by
  induction ds with
  | nil => exact Nat.le_refl _
  | cons e ds ih =>
    unfold tdel
    split
    · rw [total_cons]; exact Nat.le_add_left _ _
    · simp only [total_cons]; exact Nat.add_le_add_left ih _

theorem total_mapValues (g : Descriptor → Descriptor) (hg : ∀ d, c.of (g d) = c.of d) (ds : Table Descriptor) :
    c.total (ds.map (fun e => (e.1, g e.2))) = c.total ds := by
  simp [total, List.map_map, Function.comp_def, hg]

/-- A descriptor that is taken counts beside the others. -/
theorem total_tput_of_free (h : tget ds n = none) : c.total (tput ds n d) = c.of d + c.total ds := by
  induction ds with
  | nil => exact total_cons c _ _
  | cons e ds ih =>
    obtain ⟨j, w⟩ := e
    simp only [tget] at h
    split at h
    · cases h
    · rename_i hj
      simp only [tput, if_neg hj]
      split
      · rw [total_cons]
      · rw [total_cons, total_cons, ih h, Nat.add_left_comm]

/-- A held descriptor that changes counts in place of what it was. -/
theorem total_tput_of_held (ho : Table.Ordered ds) (h : tget ds n = some d) :
    c.total (tput ds n d') + c.of d = c.total ds + c.of d' := by
  induction ds with
  | nil => cases h
  | cons e ds ih =>
    obtain ⟨j, w⟩ := e
    obtain ⟨after, ho⟩ := ordered_cons.1 ho
    simp only [tget] at h
    split at h
    · rename_i hj
      cases h
      simp only [tput, hj, Nat.lt_irrefl, if_false, if_true, total_cons]
      omega
    · rename_i hj
      have behind : j < n := after (n, d) (mem_of_tget h)
      have rest := ih ho h
      simp only [tput, if_neg hj, if_neg (Nat.not_lt.2 (Nat.le_of_lt behind)), total_cons]
      omega

end Charge

/-! ### The bounds (R47, R48, R67, R99) -/

/-- A port's queue holds at most 5 streams, and the port's streams distinct ids below 16. -/
structure PortStreams.Bounded (ps : PortStreams) : Prop where
  queue : ps.queue.length ≤ Config.waitingStreams + 1
  ids : ps.ids.Nodup ∧ ∀ i ∈ ps.ids, i < Config.streamIds

/-- The clauses of `QueuesOk`, with the two on staging as one. -/
theorem queuesOk_iff : QueuesOk s ↔ Table.Ordered s.intake.descriptors ∧ (∀ c : Charge, c.total s.intake.descriptors ≤ c.limit) ∧
    (∀ p, (s.portStreams p).Bounded) ∧ s.passes.queue.length ≤ Config.passQueue ∧ s.passIds.Nodup ∧ ∀ i ∈ s.passIds, i < 256 := by
  constructor
  · rintro ⟨ordered, staging, held, streams, ids, passes, passIds⟩
    refine ⟨ordered, fun c => ?_, fun p => ⟨streams p, ids p⟩, passes, passIds⟩
    cases c with
    | leaves => exact staging
    | descriptorsOf p => rw [Charge.total_descriptorsOf]; exact held p
  · rintro ⟨ordered, charges, streams, passes, passIds⟩
    exact ⟨ordered, charges .leaves, fun p => Charge.total_descriptorsOf p _ ▸ charges (.descriptorsOf p), fun p => (streams p).queue,
      fun p => (streams p).ids, passes, passIds⟩

/-! ### Changes that add nothing -/

/-- No descriptor, no leaf in staging, no stream and no pass comes in. -/
structure Narrows (s t : State) : Prop where
  ordered : Table.Ordered s.intake.descriptors → Table.Ordered t.intake.descriptors
  charges : Table.Ordered s.intake.descriptors → ∀ c : Charge, c.total t.intake.descriptors ≤ c.total s.intake.descriptors
  streams : ∀ p, (t.portStreams p).queue.length ≤ (s.portStreams p).queue.length
  streamIds : ∀ p, (t.portStreams p).ids.Subperm (s.portStreams p).ids
  passes : t.passes.queue.length ≤ s.passes.queue.length
  passIds : t.passIds.Subperm s.passIds

/-- What the bounds speak of, as plain data. -/
def State.roll (s : State) : Table Descriptor × PerPort PortStreams × List Pass × Option Nat :=
  (s.intake.descriptors, s.streams.ports, s.passes.queue, s.passes.active.map (·.id))

theorem passIds_eq (s : State) : s.passIds = s.passes.queue.map (·.id) ++ (s.passes.active.map (·.id)).toList := by
  unfold State.passIds
  cases s.passes.active <;> rfl

theorem nodup_of_subperm {l l' : List Nat} (h : l.Subperm l') (d : l'.Nodup) : l.Nodup := by
  obtain ⟨k, perm, sub⟩ := h
  exact perm.nodup_iff.1 (d.sublist sub)

namespace Narrows

theorem trans (h : Narrows s t) (k : Narrows t u) : Narrows s u where
  ordered o := k.ordered (h.ordered o)
  charges o c := (k.charges (h.ordered o) c).trans (h.charges o c)
  streams p := (k.streams p).trans (h.streams p)
  streamIds p := (k.streamIds p).trans (h.streamIds p)
  passes := k.passes.trans h.passes
  passIds := k.passIds.trans h.passIds

theorem of_roll (h : t.roll = s.roll) : Narrows s t := by
  simp only [State.roll, Prod.mk.injEq] at h
  obtain ⟨hd, hs, hq, ha⟩ := h
  have streams : ∀ p, t.portStreams p = s.portStreams p := fun p => by unfold State.portStreams; rw [hs]
  have passIds : t.passIds = s.passIds := by rw [passIds_eq, passIds_eq, hq, ha]
  exact ⟨fun o => hd ▸ o, fun _ c => (congrArg c.total hd).le, fun p => by rw [streams p], fun p => by rw [streams p],
    by rw [hq], by rw [passIds]⟩

theorem refl : Narrows s s := of_roll rfl

/-- A change that is seen in nothing the bounds speak of comes first. -/
theorem behind (h : Narrows t u) (e : t.roll = s.roll) : Narrows s u := (of_roll e).trans h

/-- A change that is seen in nothing the bounds speak of follows. -/
theorem before (h : Narrows s t) (e : u.roll = t.roll) : Narrows s u := h.trans (of_roll e)

theorem foldl {α : Type} (g : State → α → State) (h : ∀ s a, Narrows s (g s a)) (l : List α) (s : State) : Narrows s (l.foldl g s) :=
  List.foldlRecOn (motive := Narrows s) l g refl fun _ ht a _ => ht.trans (h _ a)

/-- What keeps the bounds: nothing comes in. -/
theorem queuesOk (h : Narrows s t) (k : QueuesOk s) : QueuesOk t := by
  obtain ⟨ordered, charges, streams, passes, distinct, small⟩ := queuesOk_iff.1 k
  refine queuesOk_iff.2 ⟨h.ordered ordered, fun c => (h.charges ordered c).trans (charges c), fun p => ?_, h.passes.trans passes,
    nodup_of_subperm h.passIds distinct, fun i hi => small i (h.passIds.subset hi)⟩
  obtain ⟨queue, ids, below⟩ := streams p
  exact ⟨(h.streams p).trans queue, nodup_of_subperm (h.streamIds p) ids, fun i hi => below i ((h.streamIds p).subset hi)⟩

/-! ### One part changes -/

theorem of_descriptors {ds : Table Descriptor} (ho : Table.Ordered s.intake.descriptors → Table.Ordered ds)
    (hc : Table.Ordered s.intake.descriptors → ∀ c : Charge, c.total ds ≤ c.total s.intake.descriptors) :
    Narrows s { s with intake.descriptors := ds } :=
  { (refl : Narrows s s) with ordered := ho, charges := hc }

theorem freeDescriptor (n : Nat) (s : State) : Narrows s (freeDescriptor n s) :=
  of_descriptors (fun o => ordered_tdel o n) fun _ c => c.total_tdel_le _ n

/-- The descriptors change in what takes nothing of staging. -/
theorem mapDescriptors (g : Descriptor → Descriptor) (hg : ∀ d, (g d).holder = d.holder ∧ (g d).staged = d.staged) (s : State) :
    Narrows s { s with intake.descriptors := s.intake.descriptors.map (fun e => (e.1, g e.2)) } := by
  refine of_descriptors (fun o => ordered_mapValues o (fun e => g e.2)) fun _ c => (c.total_mapValues g (fun d => ?_) _).le
  cases c <;> simp only [Charge.of, hg d]

/-- A held descriptor changes and takes no more leaves. -/
theorem putHeld {n : Nat} {d d' : Descriptor} (hd : s.descriptor n = some d) (hh : d'.holder = d.holder)
    (hl : d'.staged.length ≤ d.staged.length) : Narrows s (s.putDescriptor n d') := by
  refine of_descriptors (fun o => ordered_tput o n d') fun o c => ?_
  have total := c.total_tput_of_held (d' := d') o hd
  have less : c.of d' ≤ c.of d := by
    cases c with
    | leaves => exact hl
    | descriptorsOf p => simp only [Charge.of, hh, Nat.le_refl]
  omega

/-- A port's streams change: none comes in. -/
theorem putPortStreams {p : Port} {ps : PortStreams} (hq : ps.queue.length ≤ (s.portStreams p).queue.length)
    (hi : ps.ids.Subperm (s.portStreams p).ids) : Narrows s (s.putPortStreams p ps) := by
  have same : ∀ q, q ≠ p → (s.putPortStreams p ps).portStreams q = s.portStreams q := fun q => portStreams_putPortStreams_ne p q ps s
  refine { (refl : Narrows s s) with streams := fun q => ?_, streamIds := fun q => ?_ } <;> by_cases h : q = p
  · rw [h, portStreams_putPortStreams_self]; exact hq
  · rw [same q h]
  · rw [h, portStreams_putPortStreams_self]; exact hi
  · rw [same q h]

/-- The passes change: the queue loses some, and the active pass is as it was or none. -/
theorem putPasses {x : Passes} (hq : x.queue.Sublist s.passes.queue) (ha : x.active = none ∨ x.active = s.passes.active) :
    Narrows s { s with passes := x } := by
  refine { (refl : Narrows s s) with passes := hq.length_le, passIds := ?_ }
  rw [passIds_eq, passIds_eq]
  refine ((hq.map _).append ?_).subperm
  show (x.active.map (·.id)).toList.Sublist _
  rcases ha with h | h <;> rw [h]
  exact List.nil_sublist _

end Narrows

end Sys2Proof.Machine
end

section
/-! StepKeepsQueues: what the blocks do adds no descriptor, no leaf in staging, no stream and no pass. -/

namespace Sys2Proof.Machine

variable {s t : State}

theorem openStripe_store (f : Front) (s : State) : ∃ x : Store, openStripe f s = { s with store := x } := by
  unfold openStripe; split
  · exact ⟨s.store, rfl⟩
  · exact ⟨_, rfl⟩

theorem readersRise_store (es : List Extent) (s : State) : ∃ x : Store, readersRise es s = { s with store := x } :=
  List.foldlRecOn (motive := fun t : State => ∃ x : Store, t = { s with store := x }) _ _ ⟨s.store, rfl⟩
    (fun _ h _ _ => by obtain ⟨x, rfl⟩ := h; exact ⟨_, rfl⟩)

/-- A source that is accepted changes the store and its slot alone. -/
theorem acceptPassSource_rest (st : Stream) (s : State) :
    ∃ x : Store, acceptPassSource st s = { s with store := x, streams.passSource := some st } := by
  obtain ⟨x, h⟩ := readersRise_store st.snapshot s
  exact ⟨x, by unfold acceptPassSource; rw [h]⟩

namespace Narrows

/-! ### The store, the links and the notices -/

theorem extentsDie (es : List Extent) (s : State) : Narrows s (extentsDie es s) :=
  foldl (fun s (e : Extent) => liveFalls e.stripe e.count s) (fun _ _ => of_roll rfl) es s

theorem readersFall (es : List Extent) (s : State) : Narrows s (readersFall es s) := by
  obtain ⟨x, h⟩ := readersFall_store es s; rw [h]; exact of_roll rfl

theorem openStripe (f : Front) (s : State) : Narrows s (openStripe f s) := by
  obtain ⟨x, h⟩ := openStripe_store f s; rw [h]; exact of_roll rfl

theorem examineStalled (s : State) : Narrows s (examineStalled s) := by
  refine foldl _ (fun s f => ?_) _ s
  split
  · exact (openStripe f s).before rfl
  · exact refl

theorem detachFetcher (who : Fetcher) (s : State) : Narrows s (detachFetcher who s) := by
  obtain ⟨w, h, -⟩ := detachFetcher_wings who s; rw [h]; exact of_roll rfl

theorem detachFeeder (f : Front) (s : State) : Narrows s (detachFeeder f s) := by
  obtain ⟨w, h, -⟩ := detachFeeder_wings f s; rw [h]; exact of_roll rfl

theorem notifyAll (n : Notice) (ps : List Port) (s : State) : Narrows s (notifyAll n ps s) := by
  obtain ⟨ns, h⟩ := notifyAll_rest n ps s; rw [h]; exact of_roll rfl

theorem judgeConditions (s : State) : Narrows s (judgeConditions s) := by
  unfold Machine.judgeConditions; split
  · exact refl
  · exact of_roll rfl

theorem refuse (p : Port) (tag : Octet) (st : Status) (s : State) : Narrows s (refuse p tag st s) := by
  unfold Machine.refuse; simp only; split <;> exact of_roll rfl

theorem transmit (p : Port) (s : State) : Narrows s (transmit p s) := by
  obtain ⟨l, h⟩ := transmit_links p s; rw [h]; exact of_roll rfl

theorem transmitAll (s : State) : Narrows s (transmitAll s) := by
  obtain ⟨l, h⟩ := transmitAll_links s; rw [h]; exact of_roll rfl

/-! ### The catalog -/

theorem publish (h : Nat) (s : State) : Narrows s (publish h s) := by
  unfold Machine.publish; split
  · exact refl
  · exact (notifyAll _ _ _).behind rfl

theorem returnToOpen (h : Nat) (s : State) : Narrows s (returnToOpen h s) := by
  unfold Machine.returnToOpen; split
  · exact refl
  · split
    · exact of_roll rfl
    · exact refl

theorem markDamaged {k : Key} {number serial : Nat} (h : markDamaged k number serial s = some t) : Narrows s t := by
  unfold Machine.markDamaged at h
  split at h
  · split at h
    · cases h
    · cases h; exact (notifyAll _ _ _).behind rfl
  · cases h

theorem removeObject (o : Object) (s : State) : Narrows s (removeObject o s) := by
  have dead : Narrows s (o.versions.foldl (fun s v => Machine.extentsDie v.extents s) s) :=
    foldl _ (fun s (v : Version) => extentsDie v.extents s) _ s
  unfold Machine.removeObject
  generalize o.versions.foldl (fun s v => Machine.extentsDie v.extents s) s = u at dead
  have gone : Narrows s { u with catalog.objects := tdel u.catalog.objects o.key.code } := dead.before rfl
  simp only
  split
  · exact gone
  · exact (gone.trans (mapDescriptors (unplace o.key) (fun _ => ⟨rfl, rfl⟩) _)).before rfl

theorem removeObjects (h : Nat) (s : State) : Narrows s (removeObjects h s) := foldl _ (fun s o => removeObject o s) _ s

theorem removeVersion (o : Object) (v : Version) (s : State) : Narrows s (removeVersion o v s) := by
  unfold Machine.removeVersion; simp only; split
  · exact (extentsDie v.extents s).trans (removeObject _ _)
  · exact (extentsDie v.extents s).before rfl

/-! ### Intake -/

theorem spaceCheck (s : State) : Narrows s (spaceCheck s) := by
  obtain ⟨x, ns, h⟩ := spaceCheck_rest s; rw [h]; exact of_roll rfl

theorem enterObject (n : Nat) (d : Descriptor) (s : State) : Narrows s (enterObject n d s) := by
  have entered : Narrows s (entered n d s) :=
    ((freeDescriptor n s).trans (mapDescriptors (released d.key) (fun _ => ⟨rfl, rfl⟩) _)).before rfl
  unfold Machine.enterObject
  simp only
  split
  · exact entered.before rfl
  · split
    · exact entered.trans ((publish _ _).behind rfl)
    · exact entered.before rfl

theorem enterReady (k : Nat) (s : State) : Narrows s (enterReady k s) := by
  induction k generalizing s with
  | zero => exact refl
  | succ k ih =>
    unfold Machine.enterReady; split
    · exact refl
    · exact (enterObject _ _ s).trans (ih _)

theorem cutRun (n : Nat) (s : State) : Narrows s (cutRun n s) := by
  unfold Machine.cutRun; split
  · split
    · have detached : Narrows s (Machine.detachFeeder .intake { s with intake.run := none, intake.request := .none }) :=
        (detachFeeder _ _).behind rfl
      exact detached.before rfl
    · exact refl
  · exact refl

/-- A drop: of a descriptor that is held, where it is kept as DROPPED. -/
theorem dropCore {keep : Bool} {n : Nat} {d : Descriptor} (hd : keep = true → s.descriptor n = some d) :
    Narrows s (dropCore keep n d s) := by
  have cut : Narrows s (Machine.cutRun n { Machine.extentsDie (s.provisional n) s with
      intake.provisional := tdel (Machine.extentsDie (s.provisional n) s).intake.provisional n }) :=
    (extentsDie _ s).trans ((cutRun n _).behind rfl)
  have same : (Machine.cutRun n { Machine.extentsDie (s.provisional n) s with
      intake.provisional := tdel (Machine.extentsDie (s.provisional n) s).intake.provisional n }).intake.descriptors
        = s.intake.descriptors := by rw [cutRun_descriptors]; simp
  unfold Machine.dropCore
  simp only
  generalize Machine.cutRun n _ = u at cut same
  have dropped : Narrows u (if keep = true then
      u.putDescriptor n { d with state := .dropped, staged := [], waits := [], placements := [] } else Machine.freeDescriptor n u) := by
    split
    · rename_i hk
      have held : u.descriptor n = some d := (congrArg (tget · n) same).trans (hd hk)
      exact putHeld held rfl (Nat.zero_le _)
    · exact freeDescriptor n u
  generalize (if keep = true then u.putDescriptor n { d with state := .dropped, staged := [], waits := [], placements := [] }
    else Machine.freeDescriptor n u) = v at dropped
  have opened : Narrows v (if d.state = .ended then Machine.returnToOpen d.key.handle v else v) := by
    split
    · exact returnToOpen _ v
    · exact refl
  refine ((cut.trans dropped).trans opened).trans (mapDescriptors (unawait d.key) (fun x => ?_) _)
  unfold unawait; split <;> exact ⟨rfl, rfl⟩

theorem dropDeposit {keep : Bool} {n : Nat} {d : Descriptor} (hd : keep = true → s.descriptor n = some d) :
    Narrows s (dropDeposit keep n d s) := ((dropCore hd).trans (enterReady _ _)).trans (spaceCheck _)

theorem dropDeposits (ds : List (Nat × Descriptor)) (s : State) : Narrows s (dropDeposits ds s) := by
  rw [dropDeposits_eq]
  refine ((foldl dropOne (fun s e => ?_) ds s).trans (enterReady _ _)).trans (spaceCheck _)
  unfold dropOne; split
  · exact freeDescriptor _ s
  · exact dropCore (by simp)

theorem resetDeposits (p : Port) (s : State) : Narrows s (resetDeposits p s) := (dropDeposits _ s).before rfl

theorem runTurn {next : State → State} (hnext : ∀ t, Narrows t (next t)) (s : State) : Narrows s (runTurn next s) := by
  unfold Machine.runTurn; split
  · exact refl
  · split
    · exact refl
    · rename_i hd
      split
      · exact (dropDeposit fun _ => hd).trans (hnext _)
      · split
        · exact of_roll rfl
        · split
          · exact (openStripe _ s).before rfl
          · exact of_roll rfl

theorem programmer (n : Nat) (s : State) : Narrows s (programmer n s) := by
  induction n generalizing s with
  | zero => exact refl
  | succ n ih =>
    rw [programmer_succ]; split
    · exact refl
    · obtain ⟨x, hx⟩ := chosenRun_eq s
      rw [hx]
      exact (runTurn ih _).behind rfl

/-- The leaf that is written leaves staging. -/
theorem intakeWritten (op : ProgramOp) (s : State) : Narrows s (intakeWritten op s) := by
  unfold Machine.intakeWritten; split
  · exact refl
  · split
    · exact refl
    · rename_i r _ _ d hd
      have written : Narrows s (s.putDescriptor r.descriptor
          { d with staged := d.staged.filter (fun l => l.leaf != op.leaf), programmed := d.programmed + 1 }) :=
        putHeld hd rfl (List.length_filter_le _ _)
      refine (Narrows.trans ?_ (spaceCheck _)).trans (enterReady _ _)
      exact written.before rfl

/-! ### Streams -/

/-- The ACTIVE stream changes and keeps its id. -/
theorem mapActive {g : Stream → Stream} (hg : ∀ st, (g st).id = st.id) (p : Port) (s : State) : Narrows s (mapActive p g s) := by
  unfold Machine.mapActive
  simp only
  split
  · exact refl
  · rename_i st rest hq
    refine putPortStreams (by rw [hq]; exact Nat.le_refl _) ?_
    simp only [PortStreams.ids, hq, List.map_cons, hg, List.Subperm.refl]

theorem presentStream (p : Port) (s : State) : Narrows s (presentStream p s) := by
  refine mapActive (fun st => ?_) p s
  split <;> rfl

theorem endPassSource (s : State) : Narrows s (endPassSource s) := by
  obtain ⟨x, h⟩ := endPassSource_rest s; rw [h]; exact of_roll rfl

/-- The ids of a queue without the streams of one id. -/
theorem ids_filter (i : Nat) (q : List Stream) : (q.filter (fun x => x.id != i)).map (·.id) = (q.map (·.id)).filter (fun j => j != i) := by
  rw [List.filter_map]; rfl

/-- A stream of the queue that ends takes its id along to the ended ones. -/
theorem endStream {p : Port} {st : Stream} (h : st.id ∈ (s.portStreams p).queue.map (·.id)) (k : StreamKind) (f : Status) :
    Narrows s (endStream p st k (some f) s) := by
  obtain ⟨x, hx⟩ := endStream_some p st k f s
  rw [hx]
  refine (putPortStreams (s := { s with store := x }) (ps := ⟨_, _⟩) (List.length_filter_le _ _) ?_).behind rfl
  simp only [PortStreams.ids, List.map_append, List.map_cons, List.map_nil, ids_filter]
  show ((((s.portStreams p).queue.map (·.id)).filter _) ++ ((s.portStreams p).ended.map (·.id) ++ [st.id])).Subperm
    ((s.portStreams p).queue.map (·.id) ++ (s.portStreams p).ended.map (·.id))
  generalize (s.portStreams p).queue.map (·.id) = q at h
  have moved : (st.id :: q.filter (fun j => j != st.id)).Subperm q :=
    List.cons_subperm_of_not_mem_of_mem (by simp) h List.filter_sublist.subperm
  rw [← List.append_assoc]
  refine (List.perm_append_singleton _ _).subperm.trans ?_
  rw [← List.cons_append]
  exact (List.subperm_append_right _).2 moved

/-- A stream that ends without an end frame leaves its queue. -/
theorem endSilently (p : Port) (st : Stream) (k : StreamKind) (s : State) : Narrows s (Machine.endStream p st k none s) := by
  have fetch : Narrows s (if st.fetch = .inFlight then Machine.detachFetcher (.stream p) s else s) := by
    split
    · exact detachFetcher _ s
    · exact refl
  refine (fetch.trans (readersFall st.snapshot _)).trans (putPortStreams (List.length_filter_le _ _) ?_)
  exact (List.subperm_append_right _).2 (List.filter_sublist.map _).subperm

theorem cutStream {p : Port} {st : Stream} (h : st.id ∈ (s.portStreams p).queue.map (·.id)) (x : Status) (c : ReleaseCause) :
    Narrows s (cutStream p st x c s) := by
  unfold Machine.cutStream; split
  · rename_i o _; exact (endStream (s := heldFalls o.account o.breakdown.fee s) h _ _).behind rfl
  · exact endStream h _ _

theorem resetStreams (p : Port) (s : State) : Narrows s (resetStreams p s) := by
  refine Narrows.trans (foldl _ (fun s st => ?_) _ s) (putPortStreams (Nat.zero_le _) List.nil_subperm)
  split
  · rename_i o _
    exact (endSilently p st (.order { o with cause := some .cancelStream }) (heldFalls o.account o.breakdown.fee s)).behind rfl
  · exact endSilently _ _ _ s

/-- The charge of an order changes the ledger and the billing unit alone. -/
theorem chargeOrder_rest (o : OrderPart) (s : State) : ∃ l b, Machine.chargeOrder o s = { s with ledger := l, billing := b } := by
  have paid : ∀ t : State, ∃ l, o.breakdown.parts.foldl (fun s e => accrue e s) t = { t with ledger := l } := fun t =>
    List.foldlRecOn (motive := fun u : State => ∃ l, u = { t with ledger := l }) _ _ ⟨t.ledger, rfl⟩ fun u hu e _ => by
      obtain ⟨l, rfl⟩ := hu
      exact ⟨_, rfl⟩
  have counted : ∀ t : State, ∃ l, countPhotoOrder (photoContributor o.breakdown) t = { t with ledger := l } := fun t => by
    unfold countPhotoOrder; split
    · exact ⟨t.ledger, rfl⟩
    · exact ⟨_, rfl⟩
  unfold Machine.chargeOrder
  obtain ⟨l, hl⟩ := paid (s.putAccount o.account (chargedAccount o.breakdown (s.account o.account)))
  obtain ⟨l', hl'⟩ := counted { s.putAccount o.account (chargedAccount o.breakdown (s.account o.account)) with ledger := l }
  simp only [hl, hl']
  exact ⟨_, _, rfl⟩

theorem completeStream {p : Port} {st : Stream} (h : st.id ∈ (s.portStreams p).queue.map (·.id)) : Narrows s (completeStream p st s) := by
  unfold Machine.completeStream; split
  · rename_i o _
    obtain ⟨l, b, hc⟩ := chargeOrder_rest o s
    rw [hc]
    exact (endStream (s := { s with ledger := l, billing := b }) h _ _).behind rfl
  · simp only
    generalize hu : ({ s with billing.reads := _, billing.overflow := _ } : State) = u
    have streams : u.streams = s.streams := by rw [← hu]
    exact (endStream (by unfold State.portStreams; rw [streams]; exact h) _ _).behind (by rw [← hu]; rfl)

theorem replaceStream_id (st x : Stream) : (replaceStream st x).id = x.id := by
  unfold replaceStream; split
  · rename_i h; exact h.symm
  · rfl

theorem advance_id (n : Nat) (st : Stream) : (advance n st).id = st.id := by
  unfold advance; simp only; split
  · rfl
  · split <;> rfl

theorem creditFrame (p : Port) (id n : Nat) (s : State) : Narrows s (creditFrame p id n s) := by
  unfold Machine.creditFrame; simp only; split
  · rename_i st hst
    have ids : ((s.portStreams p).queue.map (replaceStream (advance n st))).map (·.id) = (s.portStreams p).queue.map (·.id) := by
      simp [List.map_map, Function.comp_def, replaceStream_id]
    have credited : Narrows s (s.putPortStreams p { s.portStreams p with
        queue := (s.portStreams p).queue.map (replaceStream (advance n st)) }) :=
      putPortStreams (by simp) (by simp only [PortStreams.ids, ids]; exact List.Subperm.refl _)
    split
    · refine credited.trans (completeStream ?_)
      rw [portStreams_putPortStreams_self, ids, advance_id]
      exact List.mem_map_of_mem (List.mem_of_find?_eq_some hst)
    · exact credited
  · refine putPortStreams (Nat.le_refl _) ?_
    have ids : ((s.portStreams p).ended.map fun st : Stream => if st.id = id then { st with position := st.position + n } else st).map (·.id)
        = (s.portStreams p).ended.map (·.id) := by
      rw [List.map_map]
      refine List.map_congr_left fun st _ => ?_
      simp only [Function.comp_apply]
      split <;> rfl
    simp only [PortStreams.ids, ids]
    exact List.Subperm.refl _

theorem freeStream (p : Port) (id : Nat) (s : State) : Narrows s (freeStream p id s) :=
  putPortStreams (Nat.le_refl _) ((List.subperm_append_left _).2 (List.filter_sublist.map _).subperm)

end Narrows

end Sys2Proof.Machine
end

section
/-! StepKeepsQueues: passes, modes, the relocation engine, the arbiter and the end of an event add nothing either. -/

namespace Sys2Proof.Machine

variable {s t : State}

namespace Narrows

/-! ### Passes -/

/-- The active pass goes on under its id. -/
theorem goOn {p q : Pass} (h : s.passes.active = some p) (hq : q.id = p.id) : Narrows s { s with passes.active := some q } :=
  of_roll (by simp only [State.roll, h, Option.map_some, hq])

theorem stopActive (created : Bool) (s : State) : Narrows s (stopActive created s) := by
  obtain ⟨x, h, hx⟩ := stopActive_rest created s
  rw [hx]
  exact (putPasses (s := { s with store := x, streams.passSource := none })
    (x := { s.passes with active := none, output := [], histogram := h }) (.refl _) (.inl rfl)).behind rfl

theorem endActive (p : Pass) (o : PassOutcome) (c : Option PassCause) (s : State) : Narrows s (endActive p o c s) :=
  (stopActive _ s).before rfl

theorem abortQueued (pick : Pass → Bool) (c : PassCause) (s : State) : Narrows s (abortQueued pick c s) := by
  obtain ⟨⟨r, ns, h⟩, -⟩ := abortQueued_rest pick c s
  rw [h]
  exact (putPasses (x := { s.passes with queue := s.passes.queue.filter (fun p => !pick p), result := r }) List.filter_sublist
    (.inr rfl)).before rfl

theorem abortPasses (pick : Pass → Bool) (c : PassCause) (s : State) : Narrows s (abortPasses pick c s) := by
  unfold Machine.abortPasses
  refine Narrows.trans ?_ (abortQueued _ _ _)
  split
  · split
    · exact endActive _ _ _ s
    · exact refl
  · exact refl

theorem resetPasses (s : State) : Narrows s (resetPasses s) := by
  have emptied : ∀ u : State, Narrows u { u with passes.queue := [] } := fun u =>
    putPasses (x := { u.passes with queue := [] }) (List.nil_sublist _) (.inr rfl)
  unfold Machine.resetPasses
  refine Narrows.trans ?_ (emptied _)
  split
  · exact stopActive _ s
  · exact refl

/-- A pass that leaves the queue ends, or becomes the active one under its id. -/
theorem startPass {p : Pass} {rest : List Pass} (ha : s.passes.active = none) (hq : s.passes.queue = p :: rest) :
    Narrows s (startPass p { s with passes.queue := rest }) := by
  unfold Machine.startPass
  split
  · exact (putPasses (x := { s.passes with queue := rest }) (by rw [hq]; exact List.sublist_cons_self _ _) (.inr rfl)).before rfl
  · rename_i o v _
    have started : ∀ q : Pass, q.id = p.id → Narrows s { s with passes.queue := rest, passes.active := some q } := fun q hid =>
      { (refl : Narrows s s) with
        passes := by rw [hq]; exact Nat.le_succ _
        passIds := by
          rw [passIds_eq, passIds_eq, hq, ha, List.map_cons]
          simp only [Option.map_some, hid, Option.map_none, Option.toList_some, Option.toList_none, List.append_nil]
          exact (List.perm_append_singleton _ _).subperm }
    obtain ⟨x, hx⟩ := acceptPassSource_rest (newStream 0 .passSource p.key v 0 v.length) { s with passes.queue := rest }
    simp only [hx]
    split <;> exact (started _ rfl).before rfl

theorem startPasses (n : Nat) (s : State) : Narrows s (startPasses n s) := by
  induction n generalizing s with
  | zero => exact refl
  | succ n ih =>
    unfold Machine.startPasses; split
    · rename_i ha hq; exact (startPass ha hq).trans (ih _)
    · exact refl

theorem surveyEnds {p : Pass} (st : Stream) (ha : s.passes.active = some p) : Narrows s (surveyEnds p st s) := by
  unfold Machine.surveyEnds
  simp only
  split
  · exact (endActive _ _ _ _).behind (by simp only [State.roll, ha, Option.map_some])
  · generalize hu : ({ s with passes.histogram := _, passes.active := some { p with profile := _ } } : State) = u
    obtain ⟨x, hx⟩ := readersRise_store st.snapshot u
    obtain ⟨y, hy⟩ := readersFall_store st.snapshot { u with store := x }
    rw [hx, hy, ← hu]
    exact of_roll (by simp only [State.roll, ha, Option.map_some])

theorem passTake (s : State) : Narrows s (passTake s) := by
  unfold Machine.passTake; split
  · rename_i p st ha _
    split
    · exact refl
    · simp only
      split
      · exact refl
      · split
        · exact of_roll rfl
        · refine (surveyEnds _ ?_).behind ?_
          · exact ha
          · rfl
      · split
        · exact refl
        · split
          · exact of_roll (by simp only [State.roll, ha, Option.map_some])
          · exact (endPassSource _).behind (by simp only [State.roll, ha, Option.map_some])
  · exact refl

theorem createVersion (p : Pass) (s : State) : Narrows s (createVersion p s) := by
  unfold Machine.createVersion; split
  · split
    · exact (endActive _ _ _ _).behind rfl
    · exact endActive _ _ _ s
  · exact endActive _ _ _ s

theorem passWritten (op : ProgramOp) (s : State) : Narrows s (passWritten op s) := by
  cases ha : s.passes.active with
  | none => simp only [Machine.passWritten, ha]; exact refl
  | some p =>
    have taken : Narrows s (outputTaken op p s) := of_roll (by
      simp only [State.roll, ha, Option.map_some]; rfl)
    rw [passWritten_of_active ha]
    split
    · exact taken.trans (createVersion _ _)
    · exact taken

theorem passFailed (s : State) : Narrows s (passFailed s) := by
  unfold Machine.passFailed; split
  · exact refl
  · rename_i p ha; exact goOn (q := { p with request := .none }) ha rfl

theorem presentOutput (s : State) : Narrows s (presentOutput s) := by
  unfold Machine.presentOutput; split
  · exact refl
  · rename_i p ha
    refine iteInduction (motive := Narrows s) (fun _ => refl) fun _ => ?_
    split
    · exact endActive _ _ _ s
    · split
      · exact goOn ha rfl
      · split
        · obtain ⟨x, hx⟩ := openStripe_store .restore s
          rw [hx]
          exact (goOn ha (q := { p with request := .pending }) rfl).before rfl
        · exact of_roll rfl

/-! ### The relocation engine -/

theorem lookNext (r : Round) (s : State) : Narrows s (lookNext r s) := by
  obtain ⟨x, h, -⟩ := lookNext_cases r s; rw [h]; exact of_roll rfl

theorem copyNext (r : Round) (c : Copy) (s : State) : Narrows s (copyNext r c s) := by
  obtain ⟨x, h⟩ := copyNext_cases r c s; rw [h]; exact of_roll rfl

theorem withdrawCopy (before s : State) : Narrows s (withdrawCopy before s) := by
  obtain ⟨x, h⟩ := withdrawCopy_rest before s; rw [h]; exact of_roll rfl

theorem mapCopy (g : Copy → Copy) (s : State) : Narrows s (mapCopy g s) := by
  obtain ⟨x, h⟩ := mapCopy_round g s; rw [h]; exact of_roll rfl

theorem makeChoice (s : State) : Narrows s (makeChoice s) := by
  obtain ⟨x, h⟩ := makeChoice_cases s; rw [h]; exact of_roll rfl

theorem clearBlocked (s : State) : Narrows s (clearBlocked s) := by
  unfold Machine.clearBlocked; split <;> exact of_roll rfl

theorem closedFront (c : Copy) (s : State) : Narrows s (closedFront c s) := by
  unfold Machine.closedFront; split
  · split
    · exact of_roll rfl
    · exact refl
  · exact refl

theorem placedCopy (r : Round) (c : Copy) (s : State) : Narrows s (placedCopy r c s) := by
  unfold Machine.placedCopy; split
  · exact of_roll rfl
  · split
    · split
      · exact (openStripe .relocate s).before rfl
      · exact openStripe .relocate s
    · exact of_roll rfl

theorem presentCopy (r : Round) (c : Copy) (s : State) : Narrows s (presentCopy r c s) := by
  rw [presentCopy_eq]; split
  · exact refl
  · exact (closedFront c s).trans (placedCopy r c _)

theorem engineOnce (s : State) : Narrows s (engineOnce s) := by
  unfold Machine.engineOnce; split
  · exact makeChoice s
  · split
    · split
      · exact of_roll rfl
      · exact lookNext _ s
    · split
      · exact presentCopy _ _ s
      · exact refl

theorem engine (s : State) : Narrows s (engine s) :=
  (((clearBlocked s).trans (engineOnce _)).trans (engineOnce _)).trans (clearBlocked _)

theorem commitCopy (c : Copy) (s : State) : Narrows s (commitCopy c s) := by
  rcases commitCopy_cases c s with h | ⟨d, o, -, -, -, h⟩ <;> rw [h] <;> exact of_roll rfl

theorem copyWritten (s : State) : Narrows s (copyWritten s) := by
  unfold Machine.copyWritten; split
  · exact refl
  · split
    · exact refl
    · simp only
      split
      · exact (commitCopy _ s).trans (lookNext _ _)
      · exact copyNext _ _ s

theorem copyFailed (s : State) : Narrows s (copyFailed s) := by
  unfold Machine.copyFailed; split
  · exact refl
  · split
    · exact refl
    · exact copyNext _ _ s

theorem feedWritten (op : ProgramOp) (s : State) : Narrows s (feedWritten op s) := by
  unfold Machine.feedWritten; split
  · exact refl
  · split
    · exact intakeWritten op s
    · exact passWritten op s
    · exact copyWritten s

theorem feedFailed (op : ProgramOp) (s : State) : Narrows s (feedFailed op s) := by
  unfold Machine.feedFailed; split
  · exact refl
  · split
    · exact of_roll rfl
    · exact passFailed s
    · exact copyFailed s

/-! ### Modes -/

theorem abandonRound (s : State) : Narrows s (abandonRound s) :=
  ((detachFetcher .relocation s).trans (detachFeeder .relocate _)).before rfl

theorem enterPreserve (c : PreserveCause) (s : State) : Narrows s (enterPreserve c s) := by
  have aborted : Narrows s (Machine.abortPasses (fun _ => true) .preserve
      { s with control.mode := .preserve, control.cause := some c }) := (abortPasses _ _ _).behind rfl
  exact (aborted.trans (abandonRound _)).trans ((notifyAll _ _ _).behind rfl)

theorem retireAction (s : State) : Narrows s (retireAction s) := by
  unfold Machine.retireAction; split
  · exact enterPreserve _ s
  · exact of_roll rfl
  · exact refl

theorem judgeRetire (s : State) : Narrows s (judgeRetire s) := by
  unfold Machine.judgeRetire; split
  · exact retireAction s
  · exact refl

theorem damageAction (s : State) : Narrows s (damageAction s) := by
  unfold Machine.damageAction; split
  · exact enterPreserve _ s
  · exact refl

/-- A damage report whose reporter's end adds nothing where the streams are those of before. -/
theorem reportDamage {k : Key} {number serial : Nat} {stop : State → State} (h : ∀ u : State, u.streams = s.streams → Narrows u (stop u)) :
    Narrows s (reportDamage k number serial stop s) := by
  unfold Machine.reportDamage; split
  · rename_i u hu
    have streams : u.streams = s.streams := by
      unfold Machine.markDamaged at hu
      split at hu
      · split at hu
        · cases hu
        · cases hu; exact notifyAll_streams _ _ _
      · cases hu
    exact ((markDamaged hu).trans (h u streams)).trans (damageAction _)
  · exact h s rfl

theorem retireStripe (n : Nat) (s : State) : Narrows s (retireStripe n s) := (judgeRetire _).behind rfl

theorem leaveFullLoop (kept n : Nat) (s : State) : Narrows s (leaveFullLoop kept n s) := by
  induction n generalizing s with
  | zero => exact refl
  | succ n ih =>
    unfold Machine.leaveFullLoop; split
    · exact refl
    · rename_i j _
      refine Narrows.trans ?_ (ih _)
      unfold leaveFullOne; split
      · exact retireStripe j s
      · exact of_roll rfl

theorem takeHeads (n : Nat) (s : State) : Narrows s (takeHeads n s) := by
  induction n generalizing s with
  | zero => exact refl
  | succ n ih =>
    unfold Machine.takeHeads; split
    · exact refl
    · split
      · exact refl
      · split
        · exact refl
        · split
          · refine Narrows.trans ?_ (ih _)
            exact (retireStripe _ _).behind rfl
          · exact of_roll rfl

/-! ### The arbiter -/

theorem presentSource (s : State) : Narrows s (presentSource s) := by
  unfold Machine.presentSource; split
  · split
    · exact of_roll rfl
    · exact refl
  · exact refl

theorem startFetch (c : Claim) (s : State) : Narrows s (startFetch c s) := by
  unfold Machine.startFetch; split
  · split
    · exact refl
    · rename_i p _ st _
      obtain ⟨x, hx⟩ := startStreamFetch_rest (.stream p) st s
      simp only [hx]
      refine (mapActive ?_ p _).behind ?_
      · exact fun _ => rfl
      · rfl
  · split
    · exact refl
    · rename_i st _
      obtain ⟨x, hx⟩ := startStreamFetch_rest .passSource st s
      simp only [hx]
      exact of_roll rfl
  · split
    · exact refl
    · simp only
      obtain ⟨x, hx⟩ := putFetch_rest (s.wants .copyFetch) _ s
      rw [hx]
      exact (mapCopy _ _).behind rfl
  · exact refl

theorem startProgram (f : Front) (k : Key) (v l : Nat) (d : List Octet) (s : State) : Narrows s (startProgram f k v l d s) := by
  unfold Machine.startProgram; split
  · exact refl
  · exact of_roll rfl

theorem startWide (c : Claim) (s : State) : Narrows s (startWide c s) := by
  unfold Machine.startWide; split
  · split
    · exact refl
    · split
      · exact (startProgram _ _ _ _ _ _).behind rfl
      · exact refl
  · split
    · exact refl
    · exact of_roll rfl
  · split
    · exact refl
    · exact (mapCopy _ s).trans (startProgram _ _ _ _ _ _)
  · split
    · exact refl
    · rename_i p hp
      exact (goOn (q := { p with request := .inFlight }) hp rfl).trans (startProgram _ _ _ _ _ _)
  · exact refl

theorem decideLoop (n : Nat) (s : State) : Narrows s (decideLoop n s) := by
  induction n generalizing s with
  | zero => exact refl
  | succ n ih =>
    unfold Machine.decideLoop; split
    · exact refl
    · split
      · split
        · exact startWide _ s
        · exact of_roll rfl
      · exact (startFetch _ s).trans (ih _)

theorem arbitrate (s : State) : Narrows s (arbitrate s) := by
  unfold Machine.arbitrate; split
  · split
    · exact (startWide _ _).behind rfl
    · exact decideLoop 2 s
  · exact (decideLoop 2 _).behind rfl

/-! ### The end of an event -/

theorem settleRound (kept : Nat) (s : State) : Narrows s (settleRound kept s) :=
  ((((((leaveFullLoop kept _ s).trans (startPasses _ _)).trans (programmer _ _)).trans (passTake _)).trans (passTake _)).trans
    (presentOutput _)).trans (engine _)

theorem settleBlocks (s : State) : Narrows s (settleBlocks s) :=
  (((((takeHeads _ s).trans (settleRound _ _)).trans (settleRound _ _)).trans (settleRound _ _)).trans (takeHeads _ _)).trans
    (settleRound _ _)

theorem settle (s : State) : Narrows s (settle s) := by
  unfold Machine.settle; split
  · exact refl
  · exact (((((settleBlocks s).trans (presentStream _ _)).trans (presentStream _ _)).trans (presentStream _ _)).trans
      (presentSource _)).trans (arbitrate _)

theorem conclude (s : State) : Narrows s (conclude s) := ((settle s).trans (judgeConditions _)).trans (transmitAll _)

end Narrows

end Sys2Proof.Machine
end

section
/-! StepKeepsQueues: the rules of the requests and of the events that bring nothing in. -/

namespace Sys2Proof.Machine

variable {s t : State}

namespace Narrows

/-- What is empty is within what was. -/
theorem of_empty (h : t.roll = ([], Streams.reset.ports, [], none)) : Narrows s t := by
  simp only [State.roll, Prod.mk.injEq] at h
  obtain ⟨hd, hs, hq, ha⟩ := h
  have streams : ∀ p, t.portStreams p = ⟨[], []⟩ := fun p => by unfold State.portStreams; rw [hs]; cases p <;> rfl
  exact
    { ordered := fun _ => hd ▸ ordered_nil
      charges := fun _ c => by rw [hd]; exact Nat.zero_le _
      streams := fun p => by rw [streams p]; exact Nat.zero_le _
      streamIds := fun p => by rw [streams p]; exact List.nil_subperm
      passes := by rw [hq]; exact Nat.zero_le _
      passIds := by rw [passIds_eq, hq, ha]; exact List.nil_subperm }

/-! ### Editions and objects -/

theorem openEdition (p : Port) (d n : Nat) (s : State) : Narrows s (openEdition p d n s).1 := by
  unfold Machine.openEdition
  simp only
  iterate 3
    split
    · exact refl
  exact of_roll rfl

theorem closeEdition (p : Port) (h : Nat) (r : Stamp) (s : State) : Narrows s (closeEdition p h r s).1 := by
  unfold Machine.closeEdition; split
  · exact refl
  · iterate 3
      split
      · exact refl
    simp only
    split
    · exact (publish h _).behind rfl
    · exact of_roll rfl

theorem abandonEdition (p : Port) (h : Nat) (s : State) : Narrows s (abandonEdition p h s).1 := by
  unfold Machine.abandonEdition; split
  · exact refl
  · split
    · exact refl
    · refine Narrows.trans ?_ (withdrawCopy s _)
      exact ((dropDeposits (s.openDeposits h) s).trans (removeObjects h _)).before rfl

theorem reinstateEdition (p : Port) (h : Nat) (s : State) : Narrows s (reinstateEdition p h s).1 := by
  unfold Machine.reinstateEdition; split
  · exact refl
  · split
    · exact refl
    · exact (notifyAll _ _ _).behind rfl

theorem purgeEdition (p : Port) (h : Nat) (s : State) : Narrows s (purgeEdition p h s).1 := by
  unfold Machine.purgeEdition; split
  · exact refl
  · split
    · exact refl
    · refine Narrows.trans ?_ (withdrawCopy s _)
      exact (removeObjects h s).before rfl

theorem discardVersion (p : Port) (w : WireKey) (n : Nat) (s : State) : Narrows s (discardVersion p w n s).1 := by
  unfold Machine.discardVersion; split
  · exact refl
  · rename_i o _
    split
    · exact refl
    · split
      · exact refl
      · rename_i v _
        split
        · exact refl
        · exact (removeVersion o v s).trans (withdrawCopy s _)

/-! ### Deposits -/

theorem tellDropped (n : Nat) (d : Descriptor) (s : State) : Narrows s (tellDropped n d s).1 := freeDescriptor n s

theorem endObject (p : Port) (n : Nat) (x : BitVec 32) (s : State) : Narrows s (endObject p n x s).1 := by
  unfold Machine.endObject; split
  · exact refl
  · rename_i d hd
    split
    · exact tellDropped n d s
    · iterate 2
        split
        · exact refl
      split
      · exact dropDeposit (by simp)
      · have ended : Narrows s (s.putDescriptor n { d with state := .ended }) :=
          putHeld (holding_descriptor hd) rfl (Nat.le_refl _)
        exact ended.trans (enterReady _ _)

theorem dropObject (p : Port) (n : Nat) (s : State) : Narrows s (dropObject p n s).1 := by
  unfold Machine.dropObject; split
  · exact refl
  · split
    · exact tellDropped n _ s
    · exact dropDeposit (by simp)

/-! ### Streams and orders -/

theorem cancelStream (p : Port) (id : Nat) (s : State) : Narrows s (cancelStream p id s).1 := by
  unfold Machine.cancelStream; split
  · rename_i st hst
    exact cutStream (List.mem_map_of_mem (List.mem_of_find?_eq_some hst)) _ _
  · split <;> exact refl

/-- Orders of distinct ids that stand in the counter port's queue are released one after the other. -/
theorem releaseOrders (pick : Stream → OrderPart → Bool) (c : ReleaseCause) {sts : List Stream} (distinct : (sts.map (·.id)).Nodup)
    (queued : ∀ st ∈ sts, st.id ∈ (s.portStreams .counter).queue.map (·.id)) : Narrows s (releaseOrders pick c sts s) := by
  induction sts generalizing s with
  | nil => exact refl
  | cons st sts ih =>
    obtain ⟨fresh, distinct⟩ := List.nodup_cons.1 distinct
    have later : ∀ x ∈ sts, x.id ∈ ((s.portStreams .counter).queue.filter (fun y => y.id != st.id)).map (·.id) := fun x hx => by
      rw [ids_filter]
      have other : x.id ≠ st.id := fun e => fresh (List.mem_map.2 ⟨x, hx, e⟩)
      exact List.mem_filter.2 ⟨queued x (List.mem_cons_of_mem _ hx), by simpa using other⟩
    show Narrows s (Machine.releaseOrders pick c sts (Machine.releaseOrders pick c [st] s))
    have kept : Narrows s s ∧ ∀ x ∈ sts, x.id ∈ (s.portStreams .counter).queue.map (·.id) :=
      ⟨refl, fun x hx => queued x (List.mem_cons_of_mem _ hx)⟩
    have one : Narrows s (Machine.releaseOrders pick c [st] s) ∧
        ∀ x ∈ sts, x.id ∈ ((Machine.releaseOrders pick c [st] s).portStreams .counter).queue.map (·.id) := by
      simp only [Machine.releaseOrders, List.foldl_cons, List.foldl_nil]
      split
      · rename_i o _
        split
        · constructor
          · exact (endStream (s := heldFalls o.account o.breakdown.fee s) (queued st List.mem_cons_self) _ _).behind rfl
          · obtain ⟨x, l, ended, he⟩ := releaseOrder_rest st o c s
            rw [he, portStreams_putPortStreams_self]
            exact later
        · exact kept
      · exact kept
    exact one.1.trans (ih distinct one.2)

/-! ### Accounts, contributors and tariffs -/

theorem openAccount (a b c : Nat) (s : State) : Narrows s (openAccount a b c s).1 := by
  unfold Machine.openAccount
  iterate 2
    split
    · exact refl
  exact of_roll rfl

theorem setAccount (a b c : Nat) (s : State) : Narrows s (setAccount a b c s).1 := by
  unfold Machine.setAccount
  simp only
  iterate 2
    split
    · exact refl
  exact of_roll rfl

theorem creditAccount (a b : Nat) (s : State) : Narrows s (creditAccount a b s).1 := by
  unfold Machine.creditAccount
  simp only
  iterate 3
    split
    · exact refl
  exact of_roll rfl

theorem reinstateAccount (a : Nat) (s : State) : Narrows s (reinstateAccount a s).1 := by
  unfold Machine.reinstateAccount
  simp only
  split
  · exact refl
  · split
    · exact refl
    · exact refl
    · exact of_roll rfl

theorem closeAccount (a : Nat) (s : State) : Narrows s (closeAccount a s).1 := by
  unfold Machine.closeAccount
  simp only
  iterate 3
    split
    · exact refl
  exact of_roll rfl

theorem registerContributor (n : Nat) (s : State) : Narrows s (registerContributor n s).1 := by
  unfold Machine.registerContributor
  simp only
  iterate 2
    split
    · exact refl
  exact of_roll rfl

theorem setContributorState (n x : Nat) (s : State) : Narrows s (setContributorState n x s).1 := by
  unfold Machine.setContributorState
  simp only
  split
  · exact refl
  · iterate 2
      split
      · exact refl
    exact of_roll rfl

theorem setShare (n x : Nat) (s : State) : Narrows s (setShare n x s).1 := by
  unfold Machine.setShare
  simp only
  iterate 2
    split
    · exact refl
  exact of_roll rfl

theorem setTariff (x u c a b n m : Nat) (s : State) : Narrows s (setTariff x u c a b n m s).1 := by
  unfold Machine.setTariff; split
  · split
    · exact refl
    · exact of_roll rfl
  · exact refl

theorem setTariffGlobals (g : Globals) (s : State) : Narrows s (setTariffGlobals g s).1 := by
  unfold Machine.setTariffGlobals; split <;> exact of_roll rfl

theorem setPeriodLength (d : Nat) (s : State) : Narrows s (setPeriodLength d s).1 := by
  unfold Machine.setPeriodLength; split <;> exact of_roll rfl

theorem closeAttempt (s : State) : Narrows s (closeAttempt s) := by
  unfold Machine.closeAttempt; simp only; split <;> exact of_roll rfl

theorem releaseStatements (n : Nat) (s : State) : Narrows s (releaseStatements n s).1 := by
  unfold Machine.releaseStatements; simp only; split <;> exact of_roll rfl

/-! ### Clock, settings, passes and messages -/

theorem setClock (d m : Nat) (s : State) : Narrows s (setClock d m s).1 := by
  unfold Machine.setClock; split <;> exact of_roll rfl

theorem setOperating (a b c d e : Nat) (s : State) : Narrows s (setOperating a b c d e s).1 := by
  unfold Machine.setOperating; split
  · exact refl
  · exact (judgeRetire _).behind rfl

theorem resumeWrites (s : State) : Narrows s (resumeWrites s).1 := by
  unfold Machine.resumeWrites
  iterate 2
    split
    · exact refl
  exact (notifyAll _ _ _).behind rfl

theorem cancelPass (id : Nat) (s : State) : Narrows s (cancelPass id s).1 := by
  unfold Machine.cancelPass; split
  · exact abortPasses _ _ s
  · exact refl

theorem postMessage (p : Port) (b : BitVec 8) (x : List Octet) (s : State) : Narrows s (postMessage p b x s).1 := by
  unfold Machine.postMessage
  simp only
  iterate 2
    split
    · exact refl
  exact foldl (fun s t => deliver ⟨p, x⟩ t s) (fun _ _ => of_roll rfl) _ s

theorem takeMessage (p : Port) (s : State) : Narrows s (takeMessage p s).1 := by
  unfold Machine.takeMessage; split <;> exact of_roll rfl

theorem answerFrame (p : Port) (tag : Octet) (a b : Status) (s : State) : Narrows s (answerFrame p tag a b s) := by
  unfold Machine.answerFrame; split
  · exact refl
  · split
    · exact (refuse p tag b s).trans (transmit p _)
    · exact (transmit p _).behind rfl

/-! ### The links, the clock and the store guard -/

theorem resetPort (p : Port) (s : State) : Narrows s (resetPort p s) := by
  have streams : Narrows s (Machine.resetStreams p { s with links := s.links.set p { Link.reset with breakHeld := true } }) :=
    (resetStreams p _).behind rfl
  have work : ∀ u : State, Narrows u (resetWork p u) := fun u => by
    cases p with
    | desk => exact resetDeposits .desk u
    | bench => exact (resetDeposits .bench u).trans (resetPasses _)
    | counter => exact refl
  exact (streams.trans (work _)).before rfl

theorem holdInStart (p : Port) (s : State) : Narrows s (holdInStart p s) := by
  unfold Machine.holdInStart; split <;> exact of_roll rfl

theorem stepCountdown (s : State) : Narrows s (stepCountdown s) := by
  unfold Machine.stepCountdown; split
  · exact refl
  · simp only; split
    · exact (closeAttempt _).behind rfl
    · exact of_roll rfl

theorem markDay (s : State) : Narrows s (markDay s) := by
  unfold Machine.markDay; split
  · have marked : Narrows s (acceptMark s) := (stepCountdown _).behind rfl
    exact marked.trans (conclude _)
  · exact refl

theorem riseTick (s : State) : Narrows s (riseTick s) := by
  unfold Machine.riseTick; simp only; split
  · exact (notifyAll _ _ _).behind rfl
  · exact of_roll rfl

theorem guardLine (b : Bool) (s : State) : Narrows s (guardLine b s) := by
  unfold Machine.guardLine; simp only; split
  · exact (conclude _).behind rfl
  · exact of_roll rfl

/-! ### The store's completions -/

theorem soundFetch (op : FetchOp) (w : Wing) (body : List Octet) (s : State) : Narrows s (soundFetch op w body s) := by
  unfold Machine.soundFetch; split
  · exact refl
  · refine mapActive (fun st => ?_) _ s
    unfold takeSheet; split <;> rfl
  · exact of_roll rfl
  · exact mapCopy _ s

theorem passSourceDamaged (s : State) : Narrows s (passSourceDamaged s) := by
  unfold Machine.passSourceDamaged; split
  · exact endActive _ _ _ s
  · exact endPassSource s

theorem damagedFetch (op : FetchOp) (s : State) : Narrows s (damagedFetch op s) := by
  unfold Machine.damagedFetch; split
  · exact refl
  · rename_i p _
    split
    · exact refl
    · rename_i st hst
      refine reportDamage fun u hu => cutStream ?_ _ _
      have streams : u.portStreams p = s.portStreams p := by unfold State.portStreams; rw [hu]
      rw [streams]
      exact List.mem_map_of_mem (List.mem_of_mem_head? hst)
  · split
    · exact refl
    · exact reportDamage fun u _ => passSourceDamaged u
  · split
    · exact refl
    · exact reportDamage fun _ _ => of_roll rfl

theorem fetchDone (w : Wing) (x : Option Sheet) (op : FetchOp) (s : State) : Narrows s (fetchDone w x op s) := by
  unfold Machine.fetchDone; simp only; split
  · exact soundFetch _ _ _ s
  · exact damagedFetch _ s

theorem eraseCompleted (e : Bool) (n : Nat) (s : State) : Narrows s (if e then eraseDone n s else eraseFailed n s) := by
  split
  · exact (examineStalled _).behind rfl
  · unfold eraseFailed
    obtain ⟨x, i, hl, -⟩ := loseStripe_flash n s
    rw [hl]
    exact (retireStripe n _).behind rfl

theorem sheetFetched {w : Wing} {op : FetchOp} (h : takeFetch w s = some (op, t)) (x : Option Sheet) :
    Narrows s (Machine.conclude (Machine.fetchDone w x op t)) := by
  obtain ⟨⟨a, b, taken⟩, -⟩ := takeFetch_idle h
  have idle : Narrows s t := by rw [taken]; exact of_roll rfl
  exact (idle.trans (fetchDone w x op t)).trans (conclude _)

theorem leafWritten {op : ProgramOp} (h : takeProgram s = some (op, t)) : Narrows s (Machine.conclude (programWritten op t)) := by
  obtain ⟨-, taken⟩ := takeProgram_some h
  have idle : Narrows s t := by rw [taken]; exact of_roll rfl
  have written : Narrows t (programWritten op t) := (feedWritten op _).behind rfl
  exact (idle.trans written).trans (conclude _)

theorem leafFailed {op : ProgramOp} (h : takeProgram s = some (op, t)) : Narrows s (Machine.conclude (programFailed op t)) := by
  obtain ⟨-, taken⟩ := takeProgram_some h
  have idle : Narrows s t := by rw [taken]; exact of_roll rfl
  have failed : Narrows t (programFailed op t) := (feedFailed op _).behind rfl
  exact (idle.trans failed).trans (conclude _)

theorem stripeErased {n : Nat} (h : takeErase s = some (n, t)) (e : Bool) :
    Narrows s (Machine.conclude (if e then eraseDone n t else eraseFailed n t)) := by
  obtain ⟨-, taken⟩ := takeErase_some h
  have idle : Narrows s t := by rw [taken]; exact of_roll rfl
  exact (idle.trans (eraseCompleted e n t)).trans (conclude _)

/-! ### The supply and start-up -/

theorem loseVolatile (s : State) : Narrows s (loseVolatile s) := of_empty rfl

theorem recover (s : State) : Narrows s (recover s) := by
  obtain ⟨x, hx⟩ := recoverStore_rest s
  have store : Narrows s (recoverStore s) := by rw [hx]; exact of_roll rfl
  have catalog : ∀ u : State, Narrows u (recoverCatalog u) := fun u => by
    refine foldl (fun s (e : Nat × Edition) => recoverEdition e.1 e.2 s) (fun s e => ?_) _ u
    unfold recoverEdition; split
    · split
      · exact publish _ s
      · exact returnToOpen _ s
    · exact refl
  have outputs : ∀ u : State, Narrows u (clearHeld (recoverOutputs u)) := fun u => by
    rw [recoverOutputs_eq]
    exact (extentsDie _ u).before rfl
  exact ((store.trans (catalog _)).trans (outputs _)).trans (leaveFullLoop _ _ _)

theorem startUpEnd (s : State) : Narrows s (Machine.conclude (leaveStart (holdConditions (recoverOrFormat s)))) := by
  have ready : Narrows s (recoverOrFormat s) := by
    unfold recoverOrFormat; split
    · exact (recover _).behind rfl
    · exact of_empty rfl
  have left : Narrows s (leaveStart (holdConditions (recoverOrFormat s))) :=
    ready.trans ((notifyAll _ _ _).behind rfl)
  exact left.trans (conclude _)

end Narrows

end Sys2Proof.Machine
end

section
/-! StepKeepsQueues: the rules that take in a descriptor, a leaf, a stream or a pass, and every command. -/

namespace Sys2Proof.Machine

variable {s t : State}

/-! ### What comes in -/

theorem lowestFree_some {bound n : Nat} {used : List Nat} (h : lowestFree bound used = some n) : n < bound ∧ n ∉ used := by
  unfold lowestFree at h
  have free := List.find?_some h
  exact ⟨List.mem_range.1 (List.mem_of_find?_eq_some h), by simpa using free⟩

namespace QueuesOk

/-- A descriptor is written: what it takes is there. -/
theorem putDescriptor {n : Nat} {d : Descriptor} (k : QueuesOk s) (h : ∀ c : Charge, c.total (tput s.intake.descriptors n d) ≤ c.limit) :
    QueuesOk (s.putDescriptor n d) := by
  obtain ⟨ordered, -, rest⟩ := queuesOk_iff.1 k
  exact queuesOk_iff.2 ⟨ordered_tput ordered n d, h, rest⟩

theorem putPortStreams {ps : PortStreams} (k : QueuesOk s) (p : Port) (h : ps.Bounded) : QueuesOk (s.putPortStreams p ps) := by
  obtain ⟨ordered, charges, streams, rest⟩ := queuesOk_iff.1 k
  refine queuesOk_iff.2 ⟨ordered, charges, fun q => ?_, rest⟩
  by_cases hq : q = p
  · rw [hq, portStreams_putPortStreams_self]; exact h
  · rw [portStreams_putPortStreams_ne p q ps s hq]; exact streams q

/-- A stream joins a queue with room under a free id (R67). -/
theorem acceptStream {p : Port} {st : Stream} (k : QueuesOk s) (room : (s.portStreams p).hasRoom = true)
    (free : (s.portStreams p).freeId = some st.id) : QueuesOk (acceptStream p st s) := by
  obtain ⟨-, -, streams, -⟩ := queuesOk_iff.1 k
  obtain ⟨-, distinct, small⟩ := streams p
  obtain ⟨below, fresh⟩ := lowestFree_some free
  obtain ⟨x, hx⟩ := readersRise_store st.snapshot s
  unfold Machine.acceptStream
  rw [hx]
  have k' : QueuesOk { s with store := x } := { k with }
  refine k'.putPortStreams p ⟨?_, ?_⟩
  · have room : (s.portStreams p).queue.length < Config.waitingStreams + 1 := by simpa [PortStreams.hasRoom] using room
    show ((s.portStreams p).queue ++ [st]).length ≤ _
    rw [List.length_append]
    exact room
  · have ids : (⟨(s.portStreams p).queue ++ [st], (s.portStreams p).ended⟩ : PortStreams).ids.Perm (st.id :: (s.portStreams p).ids) := by
      simp only [PortStreams.ids, List.map_append, List.map_cons, List.map_nil, List.append_assoc, List.singleton_append]
      exact List.perm_middle
    exact ⟨ids.nodup_iff.2 (List.nodup_cons.2 ⟨fresh, distinct⟩), fun i hi => by
      rcases List.mem_cons.1 (ids.mem_iff.1 hi) with rfl | hi
      · exact below
      · exact small i hi⟩

theorem readObject (k : QueuesOk s) (p : Port) (w : WireKey) (v : Source) (a b : Nat) : QueuesOk (readObject p w v a b s).1 := by
  unfold Machine.readObject
  iterate 3
    split
    · exact k
  split
  · exact k
  · rename_i room
    split
    · exact k
    · rename_i id free
      exact k.acceptStream (by simpa using room) free

theorem order (k : QueuesOk s) (a : Nat) (w : WireKey) (u n : Nat) : QueuesOk (order a w u n s).1 := by
  unfold Machine.order; split
  · exact k
  · split
    · exact k
    · exact k
    · split
      · exact k
      · iterate 2
          split
          · exact k
        split
        · exact k
        · unfold State.placeOrder
          simp only
          split
          · exact k
          · rename_i room
            split
            · exact k
            · rename_i id free
              split
              · exact k
              · refine acceptStream (s := s.putAccount a _) { k with } ?_ free
                have hasRoom : (s.portStreams .counter).hasRoom = true := by simpa using room
                exact hasRoom

/-- With at most 5 passes an id is free (R99). -/
theorem nextPassId_fresh (k : QueuesOk s) : s.nextPassId ∉ s.passIds ∧ s.nextPassId < 256 := by
  obtain ⟨-, -, -, queue, -, -⟩ := queuesOk_iff.1 k
  have few : s.passIds.length ≤ 5 := by
    rw [passIds_eq]
    have active : (s.passes.active.map (·.id)).toList.length ≤ 1 := by cases s.passes.active <;> simp
    have four : Config.passQueue = 4 := rfl
    simp only [List.length_append, List.length_map]
    omega
  unfold State.nextPassId
  cases h : ((List.range 256).map (fun i => (s.passes.nextId + i) % 256)).find? (fun i => !s.passIds.contains i) with
  | some i =>
    have free := List.find?_some h
    obtain ⟨j, -, rfl⟩ := List.mem_map.1 (List.mem_of_find?_eq_some h)
    exact ⟨by simpa using free, Nat.mod_lt _ (by decide)⟩
  | none =>
    exfalso
    have all : List.range 256 ⊆ s.passIds := fun i hi => by
      have hi : i < 256 := List.mem_range.1 hi
      have reached : i ∈ (List.range 256).map (fun j => (s.passes.nextId + j) % 256) :=
        List.mem_map.2 ⟨(i + 256 - s.passes.nextId % 256) % 256, List.mem_range.2 (Nat.mod_lt _ (by decide)), by omega⟩
      simpa using List.find?_eq_none.1 h i reached
    have := (List.subperm_of_subset List.nodup_range all).length_le
    rw [List.length_range] at this
    omega

theorem submitPass (k : QueuesOk s) (w : WireKey) (x : Source) (a b c d e f : Nat) : QueuesOk (submitPass w x a b c d e f s).1 := by
  obtain ⟨ordered, charges, streams, -, distinct, small⟩ := queuesOk_iff.1 k
  obtain ⟨fresh, below⟩ := k.nextPassId_fresh
  unfold Machine.submitPass
  iterate 3
    split
    · exact k
  split
  · exact k
  · rename_i room
    simp only
    generalize hq : submittedPass s.nextPassId _ _ _ _ _ _ _ _ = q
    have hid : q.id = s.nextPassId := by rw [← hq]; rfl
    have ids : ∀ m, ({ s with passes.queue := s.passes.queue ++ [q], passes.nextId := m } : State).passIds.Perm
        (s.nextPassId :: s.passIds) := fun m => by
      simp only [passIds_eq, List.map_append, List.map_cons, List.map_nil, hid, List.append_assoc, List.singleton_append]
      exact List.perm_middle
    refine queuesOk_iff.2 ⟨ordered, charges, streams, ?_, (ids _).nodup_iff.2 (List.nodup_cons.2 ⟨fresh, distinct⟩), fun i hi => ?_⟩
    · simpa using room
    · rcases List.mem_cons.1 ((ids _).mem_iff.1 hi) with rfl | hi
      · exact below
      · exact small i hi

/-- The port that begins an object holds fewer descriptors than it may (R48). -/
theorem beginChecks_held {p : Port} {c : Nat} {ks : List Key} {n : Nat} (h : s.beginChecks p c ks = .ok n) :
    (Charge.descriptorsOf p).total s.intake.descriptors < Config.descriptorsPerPort := by
  rw [Charge.total_descriptorsOf]
  unfold State.beginChecks at h
  simp only at h
  iterate 3
    split at h
    · cases h
  split at h
  · cases h
  · rename_i held
    exact Nat.lt_of_not_le held

theorem beginObject (k : QueuesOk s) (p : Port) (h kind number length rights contributor format : Nat) (ps : List WireKey) :
    QueuesOk (beginObject p h kind number length rights contributor format ps s).1 := by
  obtain ⟨-, charges, -⟩ := queuesOk_iff.1 k
  unfold Machine.beginObject; split
  · exact k
  · iterate 2
      split
      · exact k
    split
    · exact k
    · split
      · exact k
      · split
        · split
          · exact k
          · split
            · exact k
            · rename_i n hn
              refine k.putDescriptor fun c => ?_
              rw [c.total_tput_of_free (beginChecks_free hn)]
              have free := beginChecks_held hn
              have taken := charges c
              cases c with
              | leaves => simpa [Charge.of, begunDescriptor] using taken
              | descriptorsOf q =>
                by_cases hq : p = q
                · subst hq
                  simp only [Charge.of, begunDescriptor, if_true, Charge.limit]
                  omega
                · simpa [Charge.of, begunDescriptor, hq] using taken
        · exact k

/-- A chunk takes a staging leaf at most, and none where it needs none. -/
theorem takeChunk_staged_length (data : List Octet) (n : Nat) (d : Descriptor) :
    (takeChunk data n d).staged.length ≤ d.staged.length + if needsLeaf d.next data.length then 1 else 0 := by
  simp only [takeChunk, List.length_append, List.length_map]
  refine Nat.add_le_add_left ?_ _
  by_cases h : needsLeaf d.next data.length = true
  · rw [if_pos h]; split <;> simp
  · have fits : data.length ≤ nextLeafStart d.next - d.next := by simp [needsLeaf] at h; omega
    simp [List.drop_eq_nil_of_le fits]

theorem putChunk (k : QueuesOk s) (p : Port) (n offset : Nat) (data : List Octet) : QueuesOk (putChunk p n offset data s).1 := by
  obtain ⟨ordered, charges, -⟩ := queuesOk_iff.1 k
  unfold Machine.putChunk; split
  · exact k
  · rename_i d hd
    split
    · exact (Narrows.tellDropped n d s).queuesOk k
    · iterate 3
        split
        · exact k
      split
      · exact k
      · rename_i hoff
        obtain rfl : offset = d.next := by simpa using hoff
        split
        · exact k
        · split
          · exact { k with }
          · rename_i room
            have written : QueuesOk (s.putDescriptor n (takeChunk data s.intake.nextSequence d)) := k.putDescriptor fun c => by
              have total := c.total_tput_of_held (d' := takeChunk data s.intake.nextSequence d) ordered (holding_descriptor hd)
              have taken := charges c
              cases c with
              | leaves =>
                have length := takeChunk_staged_length data s.intake.nextSequence d
                rw [Charge.total_leaves] at total taken
                simp only [Charge.of, Charge.limit] at total taken ⊢
                by_cases need : needsLeaf d.next data.length = true
                · have free : s.occupancy < Config.stagingLeaves := by simpa [need] using room
                  rw [if_pos need] at length
                  omega
                · rw [if_neg need] at length
                  omega
              | descriptorsOf q =>
                have holder : (takeChunk data s.intake.nextSequence d).holder = d.holder := rfl
                simp only [Charge.of, Charge.limit, holder] at total taken ⊢
                omega
            exact { written with }

/-! ### The releases of orders -/

theorem withdrawEdition (k : QueuesOk s) (p : Port) (h : Nat) : QueuesOk (withdrawEdition p h s).1 := by
  unfold Machine.withdrawEdition; split
  · exact k
  · rename_i e _
    split
    · exact k
    · obtain ⟨-, -, streams, -⟩ := queuesOk_iff.1 k
      have distinct : ((s.portStreams .counter).queue.map (·.id)).Nodup := (List.nodup_append.1 (streams .counter).ids.1).1
      have told : Narrows s (notifyAll .editionWithdrawn allPorts (s.putEdition h { e with state := .withdrawn })) :=
        (Narrows.notifyAll _ _ _).behind rfl
      have same : (notifyAll .editionWithdrawn allPorts (s.putEdition h { e with state := .withdrawn })).portStreams .counter
          = s.portStreams .counter := by unfold State.portStreams; rw [notifyAll_streams]; rfl
      simp only [same]
      refine ((told.trans (Narrows.releaseOrders _ _ distinct fun st hst => ?_)).trans (Narrows.abortPasses _ _ _)).queuesOk k
      rw [same]
      exact List.mem_map_of_mem hst

theorem suspendAccount (k : QueuesOk s) (id : Nat) : QueuesOk (suspendAccount id s).1 := by
  unfold Machine.suspendAccount; simp only; split
  · exact k
  · split
    · exact k
    · exact k
    · obtain ⟨-, -, streams, -⟩ := queuesOk_iff.1 k
      have distinct : ((s.portStreams .counter).queue.map (·.id)).Nodup := (List.nodup_append.1 (streams .counter).ids.1).1
      have put : ∀ a, QueuesOk (s.putAccount id a) := fun _ => { k with }
      refine (Narrows.releaseOrders _ _ ?_ fun st hst => ?_).queuesOk (put _)
      · exact distinct.sublist ((List.tail_sublist _).map _)
      · exact List.mem_map_of_mem (List.mem_of_mem_tail hst)

/-! ### Serving a request -/

theorem serveWith {after : State → State} {ports : List Port} {inStart : Bool} {f : Frame} {rule : State → State × Answer}
    (ha : ∀ t, Narrows t (after t)) (hr : QueuesOk (rule s).1) (k : QueuesOk s) : QueuesOk (serveWith after ports inStart f rule s) := by
  have replied : ∀ (u : State) (a : Answer), Narrows u (reply f.port f.tag a u) := fun _ _ => .of_roll rfl
  unfold Machine.serveWith; split
  · exact k
  · split
    · exact ((Narrows.refuse _ _ _ s).trans (Narrows.transmit _ _)).queuesOk k
    · split
      · exact ((replied s _).trans (Narrows.transmit _ _)).queuesOk k
      · exact ((replied _ _).trans (ha _)).queuesOk hr

theorem serve {ports : List Port} {f : Frame} {rule : State → State × Answer} (k : QueuesOk s) (hr : QueuesOk (rule s).1) :
    QueuesOk (serve ports f rule s) := serveWith (Narrows.transmit _) hr k

theorem serveSettling {ports : List Port} {f : Frame} {rule : State → State × Answer} (k : QueuesOk s) (hr : QueuesOk (rule s).1) :
    QueuesOk (serveSettling ports f rule s) := serveWith Narrows.conclude hr k

theorem serveAlways {f : Frame} {rule : State → State × Answer} (k : QueuesOk s) (hr : QueuesOk (rule s).1) :
    QueuesOk (serveAlways f rule s) := serveWith (Narrows.transmit _) hr k

/-- A request whose rule brings nothing in. -/
theorem served {ports : List Port} {f : Frame} {rule : State → State × Answer} (k : QueuesOk s) (h : Narrows s (rule s).1) :
    QueuesOk (Machine.serve ports f rule s) := k.serve (h.queuesOk k)

theorem servedSettling {ports : List Port} {f : Frame} {rule : State → State × Answer} (k : QueuesOk s) (h : Narrows s (rule s).1) :
    QueuesOk (Machine.serveSettling ports f rule s) := k.serveSettling (h.queuesOk k)

/-! ### Every command -/

theorem of_next {u : State} (k : QueuesOk u) (h : (.next u : Host.Outcome State Fault Refusal) = .next t) : QueuesOk t := by
  cases h; exact k

/-- An event that brings nothing in. -/
theorem of_narrows {u : State} (k : QueuesOk s) (w : Narrows s u) (h : (.next u : Host.Outcome State Fault Refusal) = .next t) :
    QueuesOk t := of_next (w.queuesOk k) h

theorem exec {c : Instr} (k : QueuesOk s) (h : exec c s = .next t) : QueuesOk t := by
  cases c with
  | openEdition r d n => exact of_next (k.served (.openEdition _ _ _ s)) h
  | beginObject r a b c d e g i ps => exact of_next (k.serve (k.beginObject _ _ _ _ _ _ _ _ _)) h
  | putChunk r n o d => exact of_next (k.serveSettling (k.putChunk _ _ _ _)) h
  | endObject r n x => exact of_next (k.servedSettling (.endObject _ _ _ s)) h
  | dropObject r n => exact of_next (k.servedSettling (.dropObject _ _ s)) h
  | closeEdition r n x => exact of_next (k.servedSettling (.closeEdition _ _ _ s)) h
  | abandonEdition r n => exact of_next (k.servedSettling (.abandonEdition _ _ s)) h
  | read r w v o l => exact of_next (k.serveSettling (k.readObject _ _ _ _ _)) h
  | withdrawEdition r n => exact of_next (k.serveSettling (k.withdrawEdition _ _)) h
  | reinstateEdition r n => exact of_next (k.served (.reinstateEdition _ _ s)) h
  | purgeEdition r n => exact of_next (k.servedSettling (.purgeEdition _ _ s)) h
  | registerContributor r n => exact of_next (k.served (.registerContributor _ s)) h
  | setContributorState r n x => exact of_next (k.served (.setContributorState _ _ s)) h
  | setClock r d x => exact of_next (k.servedSettling (.setClock _ _ s)) h
  | setOperating r a b c d e => exact of_next (k.servedSettling (.setOperating _ _ _ _ _ s)) h
  | resumeWrites r => exact of_next (k.servedSettling (.resumeWrites s)) h
  | submitPass r w x m d l i n p => exact of_next (k.serveSettling (k.submitPass _ _ _ _ _ _ _ _)) h
  | cancelPass r n => exact of_next (k.servedSettling (.cancelPass _ s)) h
  | passResult r => exact of_next (k.served .refl) h
  | takeSurvey r => exact of_next (k.served .refl) h
  | discardVersion r w n => exact of_next (k.servedSettling (.discardVersion _ _ _ s)) h
  | openAccount r a b c => exact of_next (k.served (.openAccount _ _ _ s)) h
  | setAccount r a b c => exact of_next (k.served (.setAccount _ _ _ s)) h
  | creditAccount r a b => exact of_next (k.served (.creditAccount _ _ s)) h
  | suspendAccount r a => exact of_next (k.serveSettling (k.suspendAccount _)) h
  | reinstateAccount r a => exact of_next (k.served (.reinstateAccount _ s)) h
  | closeAccount r a => exact of_next (k.served (.closeAccount _ s)) h
  | findAccount r a => exact of_next (k.serve ((findAccount_state a s).symm ▸ k)) h
  | setShare r a b => exact of_next (k.served (.setShare _ _ s)) h
  | setTariff r x u c a b n m => exact of_next (k.served (.setTariff _ _ _ _ _ _ _ s)) h
  | setTariffGlobals r a b c d x p => exact of_next (k.served (.setTariffGlobals _ s)) h
  | setPeriodLength r d => exact of_next (k.served (.setPeriodLength _ s)) h
  | quote r a w u n => exact of_next (k.serve ((quote_state a w u n s).symm ▸ k)) h
  | order r a w u n => exact of_next (k.serveSettling (k.order _ _ _ _)) h
  | closePeriod r => exact of_next (k.served (.closeAttempt s)) h
  | takeStatements r => exact of_next (k.serve ((takeStatements_state s).symm ▸ k)) h
  | releaseStatements r n => exact of_next (k.served (.releaseStatements _ s)) h
  | findEdition r n => exact of_next (k.serve ((findEdition_state _ n s).symm ▸ k)) h
  | findObject r w => exact of_next (k.serve ((findObject_state _ w s).symm ▸ k)) h
  | cancelStream r n => exact of_next (k.servedSettling (.cancelStream _ _ s)) h
  | status r => exact of_next (k.serveAlways k) h
  | identify r => exact of_next (k.serveAlways k) h
  | takeNotices r => exact of_next (k.served (.of_roll rfl)) h
  | setNoticeMask r x => exact of_next (k.served (.of_roll rfl)) h
  | postMessage r b x => exact of_next (k.served (.postMessage _ _ _ s)) h
  | takeMessage r => exact of_next (k.served (.takeMessage _ s)) h
  | unknownRequest p x c =>
    refine k.of_narrows ?_ h
    split
    · exact .refl
    · exact .answerFrame _ _ _ _ s
  | badFrame p x => exact k.of_narrows (.answerFrame _ _ _ _ s) h
  | busy p x m =>
    refine k.of_narrows ?_ h
    split
    · exact .answerFrame _ _ _ _ s
    · exact .refl
  | replySent p =>
    refine k.of_narrows ?_ h
    split
    · exact (Narrows.transmit p _).behind rfl
    · exact .refl
  | dataFrameSent p =>
    have freed : Narrows s (freeTransmitter p s) := .of_roll rfl
    refine k.of_narrows ?_ h
    split
    · exact (freed.trans (.creditFrame p _ _ _)).trans (.conclude _)
    · exact .refl
  | endFrameSent p =>
    have freed : Narrows s (freeTransmitter p s) := .of_roll rfl
    refine k.of_narrows ?_ h
    split
    · exact (freed.trans (.freeStream p _ _)).trans (.conclude _)
    · exact .refl
  | sheetFetchComplete w d =>
    refine k.of_narrows ?_ h
    split
    · exact .refl
    · rename_i taken; exact .sheetFetched taken d
  | leafProgramWritten =>
    refine k.of_narrows ?_ h
    split
    · exact .refl
    · rename_i taken; exact .leafWritten taken
  | leafProgramFailed =>
    refine k.of_narrows ?_ h
    split
    · exact .refl
    · rename_i taken; exact .leafFailed taken
  | stripeEraseComplete e =>
    refine k.of_narrows ?_ h
    split
    · exact .refl
    · rename_i taken; exact .stripeErased taken e
  | dayMark => exact k.of_narrows (.markDay s) h
  | tick =>
    refine k.of_narrows ?_ h
    split
    · exact .riseTick s
    · exact .refl
  | clockSaturated =>
    refine k.of_narrows ?_ h
    split
    · exact .riseTick s
    · exact .refl
  | countdownExpiry =>
    refine k.of_narrows ?_ h
    split
    · exact .markDay s
    · exact .refl
  | storeGuardAsserted => exact k.of_narrows (.guardLine true s) h
  | storeGuardReleased => exact k.of_narrows (.guardLine false s) h
  | linkReset p =>
    refine k.of_narrows ?_ h
    split
    · exact ((Narrows.resetPort p s).trans (.holdInStart p _)).trans (.conclude _)
    · exact .refl
  | breakEnd p =>
    refine k.of_narrows ?_ h
    split
    · exact (Narrows.transmit p _).behind rfl
    · exact .refl
  | powerLoss =>
    refine k.of_narrows ?_ h
    split
    · exact (Narrows.loseVolatile s).before rfl
    · exact .refl
  | resetLineAsserted =>
    refine k.of_narrows ?_ h
    split
    · exact .refl
    · exact (Narrows.loseVolatile s).before rfl
  | powerApplied =>
    refine k.of_narrows ?_ h
    split
    · exact .refl
    · simp only; split <;> exact .of_roll rfl
  | resetLineReleased =>
    refine k.of_narrows ?_ h
    split
    · simp only; split <;> exact .of_roll rfl
    · exact .refl
  | startUpEnd =>
    refine k.of_narrows ?_ h
    split
    · exact .startUpEnd s
    · exact .refl
  | statementMove =>
    refine k.of_narrows ?_ h
    split
    · unfold moveStatement; split <;> exact .of_roll rfl
    · exact .refl

end QueuesOk

/-- Settles O18: what an event does adds no descriptor, leaf, stream or pass (`Narrows`), but for the requests that check that there is
room for what they take in (`QueuesOk.beginObject`, `QueuesOk.putChunk`, `QueuesOk.acceptStream`, `QueuesOk.submitPass`). -/
theorem stepKeepsQueues : Obligations.StepKeepsQueues := by
  intro s t k h
  unfold step at h
  split at h
  · cases h; exact k
  · rename_i rest _
    have k' : QueuesOk { s with pending := rest } := { k with }
    exact k'.exec h

end Sys2Proof.Machine
end

section
/-! StepKeepsReaders: who holds a snapshot, as plain data, and the changes of the holders with which the reader counts go (R67, R70, R76). -/

namespace Sys2Proof.Machine

variable {s t u : State}

/-! ### The holders of snapshots -/

/-- A port's streams in its queue, each with its id and its snapshot. -/
def PortStreams.holds (ps : PortStreams) : List (Nat × List Extent) := ps.queue.map (fun st => (st.id, st.snapshot))

/-- Who holds a snapshot, and the modes in which one may be held: whether the part works, is in START, and has a pass active. -/
structure Holders where
  running : Bool
  inStart : Bool
  engaged : Bool
  ports : PerPort (List (Nat × List Extent))
  source : Option (List Extent)

/-- The holders of a state. -/
def State.holders (s : State) : Holders :=
  { running := s.running, inStart := s.control.mode == .start, engaged := s.passes.active.isSome,
    ports := ⟨s.streams.ports.desk.holds, s.streams.ports.bench.holds, s.streams.ports.counter.holds⟩,
    source := s.streams.passSource.map (·.snapshot) }

/-- How many of a list of snapshots name a stripe. -/
def naming (n : Nat) (snapshots : List (List Extent)) : Nat := snapshots.countP (fun es => (snapshotStripes es).contains n)

/-- How many of the snapshots held name a stripe. -/
def Holders.naming (h : Holders) (n : Nat) : Nat :=
  Machine.naming n (h.ports.desk.map (·.2)) + Machine.naming n (h.ports.bench.map (·.2)) + Machine.naming n (h.ports.counter.map (·.2))
    + Machine.naming n h.source.toList

/-- The clauses of `ReadersOk` on the holders alone. -/
structure Holders.Ok (h : Holders) : Prop where
  idle : h.running = false → h.inStart = true
  distinct : ∀ p, ((h.ports.get p).map (·.1)).Nodup
  start : h.inStart = true → (∀ p, h.ports.get p = []) ∧ h.source = none
  source : h.engaged = false → h.source = none

theorem holders_get (s : State) (p : Port) : s.holders.ports.get p = (s.portStreams p).holds := by cases p <;> rfl

theorem PortStreams.holds_ids (ps : PortStreams) : ps.holds.map (·.1) = ps.queue.map (·.id) := by
  rw [PortStreams.holds, List.map_map]; rfl

theorem naming_append (n : Nat) (a b : List (List Extent)) : naming n (a ++ b) = naming n a + naming n b := List.countP_append

theorem naming_singleton (n : Nat) (es : List Extent) : naming n [es] = if n ∈ snapshotStripes es then 1 else 0 := by
  simp [naming, List.countP_cons]

/-- The streams that hold a snapshot, counted as `ReadersOk` counts them. -/
theorem snapshotsOn_eq (s : State) (n : Nat) : s.snapshotsOn n = s.holders.naming n := by
  have counted : ∀ l : List Stream, (l.filter (fun st => (snapshotStripes st.snapshot).contains n)).length
      = naming n (l.map (·.snapshot)) := fun l => by
    rw [naming, List.countP_map, List.countP_eq_length_filter]; rfl
  have held : ∀ ps : PortStreams, ps.holds.map (·.2) = ps.queue.map (·.snapshot) := fun ps => by
    rw [PortStreams.holds, List.map_map]; rfl
  rw [State.snapshotsOn, counted, State.readerStreams]
  simp only [List.map_append, naming_append, Holders.naming, State.holders, held]
  cases s.streams.passSource <;> rfl

/-- The clauses of `ReadersOk`: on the stripe table's form, on the holders, and on the counts. -/
theorem readersOk_iff : ReadersOk s ↔ Table.Canonical Stripe.formatted s.store.stripes ∧ s.holders.Ok ∧
    ∀ n, (s.stripe n).readers = s.holders.naming n := by
  have mode : s.holders.inStart = true ↔ s.control.mode = .start := beq_iff_eq
  have empty : s.readerStreams = [] ↔ (∀ p, s.holders.ports.get p = []) ∧ s.holders.source = none := by
    have nil : ∀ p, s.holders.ports.get p = [] ↔ (s.streams.ports.get p).queue = [] := fun p => by
      rw [holders_get, PortStreams.holds, List.map_eq_nil_iff]; rfl
    have all : (∀ p, s.holders.ports.get p = []) ↔
        s.streams.ports.desk.queue = [] ∧ s.streams.ports.bench.queue = [] ∧ s.streams.ports.counter.queue = [] := by
      simp only [nil]
      exact ⟨fun h => ⟨h .desk, h .bench, h .counter⟩, fun ⟨a, b, c⟩ p => by cases p <;> assumption⟩
    rw [all]
    simp [State.readerStreams, State.holders, and_assoc]
  constructor
  · rintro ⟨idle, stripes, desk, bench, counter, start, source, readers⟩
    refine ⟨stripes, ⟨fun h => mode.2 (idle h), fun p => ?_, fun h => empty.1 (start (mode.1 h)), fun h => ?_⟩, fun n => ?_⟩
    · rw [holders_get, PortStreams.holds_ids]; cases p <;> assumption
    · have none : s.passes.active = none := Option.isSome_eq_false_iff.1 h |> Option.isNone_iff_eq_none.1
      simp [State.holders, source none]
    · rw [readers, snapshotsOn_eq]
  · rintro ⟨stripes, ⟨idle, distinct, start, source⟩, readers⟩
    have ids : ∀ p, (s.portStreams p).distinct := fun p => by
      rw [PortStreams.distinct, ← PortStreams.holds_ids, ← holders_get]; exact distinct p
    refine ⟨fun h => mode.1 (idle h), stripes, ids .desk, ids .bench, ids .counter, fun h => empty.2 (start (mode.2 h)), fun h => ?_,
      fun n => (readers n).trans (snapshotsOn_eq s n).symm⟩
    have none : s.holders.source = none := source (by simp [State.holders, h])
    simpa [State.holders] using none

/-! ### The holders of a port change -/

/-- The holders with those of a port replaced. -/
def Holders.putPort (h : Holders) (p : Port) (l : List (Nat × List Extent)) : Holders := { h with ports := h.ports.set p l }

theorem putPortStreams_holders (p : Port) (ps : PortStreams) (s : State) :
    (s.putPortStreams p ps).holders = s.holders.putPort p ps.holds := by cases p <;> rfl

/-- A port's share of the snapshots that name a stripe is exchanged. -/
theorem naming_putPort (h : Holders) (p : Port) (l : List (Nat × List Extent)) (n : Nat) :
    (h.putPort p l).naming n + naming n ((h.ports.get p).map (·.2)) = h.naming n + naming n (l.map (·.2)) := by
  cases p <;> simp only [Holders.naming, Holders.putPort, PerPort.set, PerPort.get] <;> omega

/-- The one entry of an id leaves a list of holders. -/
theorem naming_filter {l : List (Nat × List Extent)} {i : Nat} {es : List Extent} (d : (l.map (·.1)).Nodup) (h : (i, es) ∈ l) (n : Nat) :
    naming n ((l.filter (fun x => x.1 != i)).map (·.2)) + naming n [es] = naming n (l.map (·.2)) := by
  induction l with
  | nil => cases h
  | cons x l ih =>
    obtain ⟨fresh, d⟩ := List.nodup_cons.1 d
    have split : naming n ((x :: l).map (·.2)) = naming n [x.2] + naming n (l.map (·.2)) := naming_append n [x.2] _
    rw [split]
    rcases List.mem_cons.1 h with rfl | h
    · have others : l.filter (fun x => x.1 != i) = l := List.filter_eq_self.2 fun y hy => by
        simpa using fun e : y.1 = i => fresh (List.mem_map.2 ⟨y, hy, e⟩)
      rw [List.filter_cons_of_neg (by simp), others, Nat.add_comm]
    · have other : x.1 ≠ i := fun e => fresh (List.mem_map.2 ⟨(i, es), h, e.symm⟩)
      have kept : naming n (((x :: l).filter (fun y => y.1 != i)).map (·.2))
          = naming n [x.2] + naming n ((l.filter (fun y => y.1 != i)).map (·.2)) := by
        rw [List.filter_cons_of_pos (by simpa using other)]; exact naming_append n [x.2] _
      rw [kept, Nat.add_assoc, ih d h]

/-- A port's holders change, none in START, and their ids stay distinct. -/
theorem Holders.Ok.putPort {h : Holders} (k : h.Ok) (p : Port) {l : List (Nat × List Extent)} (d : (l.map (·.1)).Nodup)
    (hs : h.inStart = true → l = []) : (h.putPort p l).Ok := by
  refine { k with distinct := fun q => ?_, start := fun m => ⟨fun q => ?_, (k.start m).2⟩ } <;>
    rw [Holders.putPort, PerPort.get_set] <;> split
  · exact d
  · exact k.distinct q
  · exact hs m
  · exact (k.start m).1 q

/-! ### Reader counts -/

/-- The records of distinct stripes change one after the other. -/
theorem foldl_mapStripe (g : Stripe → Stripe) {l : List Nat} (hl : l.Nodup) (ho : Table.Ordered s.store.stripes) (n : Nat) :
    (l.foldl (fun s n => s.mapStripe n g) s).stripe n = if n ∈ l then g (s.stripe n) else s.stripe n := by
  induction l generalizing s with
  | nil => simp
  | cons m l ih =>
    obtain ⟨fresh, hl⟩ := List.nodup_cons.1 hl
    rw [List.foldl_cons, ih hl (ordered_tset _ ho _ _), stripe_mapStripe ho, Function.update_apply]
    by_cases hn : n = m
    · subst hn; simp [fresh]
    · simp [hn]

theorem foldl_mapStripe_canonical (g : Stripe → Stripe) (l : List Nat) (ho : Table.Canonical Stripe.formatted s.store.stripes) :
    Table.Canonical Stripe.formatted (l.foldl (fun s n => s.mapStripe n g) s).store.stripes :=
  List.foldlRecOn (motive := fun t : State => Table.Canonical Stripe.formatted t.store.stripes) l _ ho
    fun _ ht _ _ => canonical_tset _ ht _ _

theorem snapshotStripes_nodup (es : List Extent) : (snapshotStripes es).Nodup := List.nodup_dedup _

/-- The stripes of a snapshot gain a reader each (R70). -/
theorem readersRise_stripe (es : List Extent) (ho : Table.Ordered s.store.stripes) (n : Nat) :
    (readersRise es s).stripe n = { s.stripe n with readers := (s.stripe n).readers + naming n [es] } := by
  refine (foldl_mapStripe (fun r => { r with readers := r.readers + 1 }) (snapshotStripes_nodup es) ho n).trans ?_
  rw [naming_singleton]
  split <;> rfl

/-- The stripes of a snapshot lose a reader each (R76). -/
theorem readersFall_stripe (es : List Extent) (ho : Table.Ordered s.store.stripes) (n : Nat) :
    (readersFall es s).stripe n = { s.stripe n with readers := (s.stripe n).readers - naming n [es] } := by
  refine (foldl_mapStripe (fun r => { r with readers := r.readers - 1 }) (snapshotStripes_nodup es) ho n).trans ?_
  rw [naming_singleton]
  split <;> rfl

theorem readersRise_canonical (es : List Extent) (ho : Table.Canonical Stripe.formatted s.store.stripes) :
    Table.Canonical Stripe.formatted (readersRise es s).store.stripes := foldl_mapStripe_canonical _ _ ho

theorem readersFall_canonical (es : List Extent) (ho : Table.Canonical Stripe.formatted s.store.stripes) :
    Table.Canonical Stripe.formatted (readersFall es s).store.stripes := foldl_mapStripe_canonical _ _ ho

theorem readersRise_holders (es : List Extent) (s : State) : (readersRise es s).holders = s.holders := by
  obtain ⟨x, h⟩ := readersRise_store es s; rw [h]; rfl

theorem readersFall_holders (es : List Extent) (s : State) : (readersFall es s).holders = s.holders := by
  obtain ⟨x, h⟩ := readersFall_store es s; rw [h]; rfl

/-! ### Changes that touch no reader -/

/-- The reader counts and the holders stay as they are. -/
structure ReadersKept (s t : State) : Prop where
  canonical : Table.Canonical Stripe.formatted s.store.stripes → Table.Canonical Stripe.formatted t.store.stripes
  readers : Table.Canonical Stripe.formatted s.store.stripes → ∀ n, (t.stripe n).readers = (s.stripe n).readers
  holders : t.holders = s.holders

theorem ReadersOk.kept (k : ReadersOk s) (h : ReadersKept s t) : ReadersOk t := by
  obtain ⟨canonical, ok, readers⟩ := readersOk_iff.1 k
  exact readersOk_iff.2 ⟨h.canonical canonical, h.holders ▸ ok, fun n => by rw [h.readers canonical, readers, h.holders]⟩

/-- A change that neither the stripe table nor the holders show. -/
theorem ReadersOk.aside (k : ReadersOk s) (hs : t.store.stripes = s.store.stripes) (hh : t.holders = s.holders) : ReadersOk t := by
  obtain ⟨canonical, ok, readers⟩ := readersOk_iff.1 k
  exact readersOk_iff.2 ⟨hs ▸ canonical, hh ▸ ok, fun n => by rw [State.stripe, hs, hh]; exact readers n⟩

namespace ReadersKept

theorem trans (h : ReadersKept s t) (k : ReadersKept t u) : ReadersKept s u :=
  ⟨fun c => k.canonical (h.canonical c), fun c n => (k.readers (h.canonical c) n).trans (h.readers c n), k.holders.trans h.holders⟩

/-- A change that neither the stripe table nor the holders show. -/
theorem aside (hs : t.store.stripes = s.store.stripes) (hh : t.holders = s.holders) : ReadersKept s t :=
  ⟨fun c => hs ▸ c, fun _ n => by rw [State.stripe, State.stripe, hs], hh⟩

theorem refl : ReadersKept s s := aside rfl rfl

theorem of_eq (h : t = s) : ReadersKept s t := h ▸ refl

/-- A change that neither the stripe table nor the holders show comes first. -/
theorem behind (h : ReadersKept t u) (hs : t.store.stripes = s.store.stripes) (hh : t.holders = s.holders) : ReadersKept s u :=
  (aside hs hh).trans h

theorem foldl {α : Type} (g : State → α → State) (h : ∀ s a, ReadersKept s (g s a)) (l : List α) (s : State) :
    ReadersKept s (l.foldl g s) := List.foldlRecOn (motive := ReadersKept s) l g refl fun _ ht a _ => ht.trans (h _ a)

/-- A stripe's record changes in other fields. -/
theorem mapStripe (n : Nat) (g : Stripe → Stripe) (hg : ∀ r, (g r).readers = r.readers) (s : State) :
    ReadersKept s (s.mapStripe n g) := by
  refine ⟨fun c => canonical_tset _ c _ _, fun c m => ?_, rfl⟩
  rw [stripe_mapStripe c.1, Function.update_apply]
  split
  · rename_i h; rw [hg, h]
  · rfl

end ReadersKept

end Sys2Proof.Machine
end

section
/-! StepKeepsReaders: what the store, the catalog, intake, the relocation engine and the arbiter do touches no reader. -/

namespace Sys2Proof.Machine

variable {s t : State}

namespace ReadersKept

/-! ### The store, the links and the notices -/

theorem liveRises (n k : Nat) (s : State) : ReadersKept s (liveRises n k s) :=
  mapStripe n (fun r => { r with live := r.live + k }) (fun _ => rfl) s

theorem liveFalls (n k : Nat) (s : State) : ReadersKept s (liveFalls n k s) :=
  mapStripe n (fun r => { r with live := r.live - k }) (fun _ => rfl) s

theorem extentsDie (es : List Extent) (s : State) : ReadersKept s (extentsDie es s) :=
  foldl (fun s (e : Extent) => Machine.liveFalls e.stripe e.count s) (fun s e => liveFalls e.stripe e.count s) es s

theorem openStripe (f : Front) (s : State) : ReadersKept s (openStripe f s) := by
  cases h : s.store.freeQueue with
  | nil => rw [openStripe_nil h]; exact refl
  | cons n rest =>
    rw [openStripe_cons h]
    exact (mapStripe n (openedStripe f s.today) (fun _ => rfl) _).behind rfl rfl

theorem examineStalled (s : State) : ReadersKept s (examineStalled s) := by
  refine foldl _ (fun s f => ?_) _ s
  split
  · exact (openStripe f s).trans (aside rfl rfl)
  · exact refl

theorem detachFetcher (who : Fetcher) (s : State) : ReadersKept s (detachFetcher who s) := by
  obtain ⟨w, h, -⟩ := detachFetcher_wings who s; rw [h]; exact aside rfl rfl

theorem detachFeeder (f : Front) (s : State) : ReadersKept s (detachFeeder f s) := by
  obtain ⟨w, h, -⟩ := detachFeeder_wings f s; rw [h]; exact aside rfl rfl

theorem notifyAll (n : Notice) (ps : List Port) (s : State) : ReadersKept s (notifyAll n ps s) := by
  obtain ⟨ns, h⟩ := notifyAll_rest n ps s; rw [h]; exact aside rfl rfl

theorem judgeConditions (s : State) : ReadersKept s (judgeConditions s) := by
  unfold Machine.judgeConditions; split <;> exact aside rfl rfl

theorem refuse (p : Port) (tag : Octet) (st : Status) (s : State) : ReadersKept s (refuse p tag st s) := by
  unfold Machine.refuse; simp only; split <;> exact aside rfl rfl

theorem transmit (p : Port) (s : State) : ReadersKept s (transmit p s) := by
  obtain ⟨l, h⟩ := transmit_links p s; rw [h]; exact aside rfl rfl

theorem transmitAll (s : State) : ReadersKept s (transmitAll s) := by
  obtain ⟨l, h⟩ := transmitAll_links s; rw [h]; exact aside rfl rfl

/-! ### The catalog -/

theorem publish (h : Nat) (s : State) : ReadersKept s (publish h s) := by
  unfold Machine.publish; split
  · exact refl
  · exact (notifyAll _ _ _).behind rfl rfl

theorem returnToOpen (h : Nat) (s : State) : ReadersKept s (returnToOpen h s) := by
  unfold Machine.returnToOpen; split
  · exact refl
  · split <;> exact aside rfl rfl

theorem markDamaged {k : Key} {number serial : Nat} (h : markDamaged k number serial s = some t) : ReadersKept s t := by
  unfold Machine.markDamaged at h
  split at h
  · split at h
    · cases h
    · cases h; exact (notifyAll _ _ _).behind rfl rfl
  · cases h

theorem removeObject (o : Object) (s : State) : ReadersKept s (removeObject o s) := by
  have dead : ReadersKept s (o.versions.foldl (fun s v => Machine.extentsDie v.extents s) s) :=
    foldl _ (fun s (v : Version) => extentsDie v.extents s) _ s
  unfold Machine.removeObject
  simp only
  split <;> exact dead.trans (aside rfl rfl)

theorem removeObjects (h : Nat) (s : State) : ReadersKept s (removeObjects h s) := foldl _ (fun s o => removeObject o s) _ s

theorem removeVersion (o : Object) (v : Version) (s : State) : ReadersKept s (removeVersion o v s) := by
  refine (extentsDie v.extents s).trans ?_
  unfold Machine.removeVersion; simp only; split
  · exact removeObject _ _
  · exact aside rfl rfl

/-! ### Intake -/

theorem spaceCheck (s : State) : ReadersKept s (spaceCheck s) := by
  obtain ⟨x, ns, h⟩ := spaceCheck_rest s; rw [h]; exact aside rfl rfl

theorem enterObject (n : Nat) (d : Descriptor) (s : State) : ReadersKept s (enterObject n d s) := by
  unfold Machine.enterObject
  simp only
  split
  · exact aside rfl rfl
  · split
    · exact (publish _ _).behind rfl rfl
    · exact aside rfl rfl

theorem enterReady (k : Nat) (s : State) : ReadersKept s (enterReady k s) := by
  induction k generalizing s with
  | zero => exact refl
  | succ k ih =>
    unfold Machine.enterReady; split
    · exact refl
    · exact (enterObject _ _ s).trans (ih _)

theorem cutRun (n : Nat) (s : State) : ReadersKept s (cutRun n s) := by
  unfold Machine.cutRun; split
  · split
    · have stopped : ReadersKept s { s with intake.run := none, intake.request := .none } := aside rfl rfl
      exact (stopped.trans (detachFeeder .intake _)).trans (aside rfl rfl)
    · exact refl
  · exact refl

theorem dropCore (keep : Bool) (n : Nat) (d : Descriptor) (s : State) : ReadersKept s (dropCore keep n d s) := by
  have dead : ReadersKept s { Machine.extentsDie (s.provisional n) s with
      intake.provisional := tdel (Machine.extentsDie (s.provisional n) s).intake.provisional n } := (extentsDie _ s).trans (aside rfl rfl)
  have opened : ∀ u : State, ReadersKept u (if d.state = .ended then Machine.returnToOpen d.key.handle u else u) := fun u => by
    split
    · exact returnToOpen _ u
    · exact refl
  have dropped : ∀ u : State, ReadersKept u (if keep = true then
      u.putDescriptor n { d with state := .dropped, staged := [], waits := [], placements := [] } else freeDescriptor n u) := fun u => by
    split <;> exact aside rfl rfl
  exact (((dead.trans (cutRun n _)).trans (dropped _)).trans (opened _)).trans (aside rfl rfl)

theorem dropDeposit (keep : Bool) (n : Nat) (d : Descriptor) (s : State) : ReadersKept s (dropDeposit keep n d s) :=
  ((dropCore keep n d s).trans (enterReady _ _)).trans (spaceCheck _)

theorem dropDeposits (ds : List (Nat × Descriptor)) (s : State) : ReadersKept s (dropDeposits ds s) := by
  rw [dropDeposits_eq]
  refine ((foldl dropOne (fun s e => ?_) ds s).trans (enterReady _ _)).trans (spaceCheck _)
  unfold dropOne; split
  · exact aside rfl rfl
  · exact dropCore _ _ _ s

theorem resetDeposits (p : Port) (s : State) : ReadersKept s (resetDeposits p s) := (dropDeposits _ s).trans (aside rfl rfl)

theorem runTurn {next : State → State} (hnext : ∀ t, ReadersKept t (next t)) (s : State) : ReadersKept s (runTurn next s) := by
  unfold Machine.runTurn; split
  · exact refl
  · split
    · exact refl
    · split
      · exact (dropDeposit _ _ _ s).trans (hnext _)
      · split
        · exact aside rfl rfl
        · split
          · exact (openStripe _ s).trans (aside rfl rfl)
          · exact aside rfl rfl

theorem programmer (n : Nat) (s : State) : ReadersKept s (programmer n s) := by
  induction n generalizing s with
  | zero => exact refl
  | succ n ih =>
    rw [programmer_succ]; split
    · exact refl
    · obtain ⟨x, hx⟩ := chosenRun_eq s
      rw [hx]
      exact (runTurn ih _).behind rfl rfl

theorem intakeWritten (op : ProgramOp) (s : State) : ReadersKept s (intakeWritten op s) := by
  unfold Machine.intakeWritten; split
  · exact refl
  · split
    · exact refl
    · refine ReadersKept.trans ?_ ((spaceCheck _).trans (enterReady _ _))
      exact (liveRises op.stripe 1 s).trans (aside rfl rfl)

/-! ### The relocation engine -/

theorem lookNext (r : Round) (s : State) : ReadersKept s (lookNext r s) := by
  obtain ⟨x, h, -⟩ := lookNext_cases r s; rw [h]; exact aside rfl rfl

theorem copyNext (r : Round) (c : Copy) (s : State) : ReadersKept s (copyNext r c s) := by
  obtain ⟨x, h⟩ := copyNext_cases r c s; rw [h]; exact aside rfl rfl

theorem withdrawCopy (before s : State) : ReadersKept s (withdrawCopy before s) := by
  obtain ⟨x, h⟩ := withdrawCopy_rest before s; rw [h]; exact aside rfl rfl

theorem mapCopy (g : Copy → Copy) (s : State) : ReadersKept s (mapCopy g s) := by
  obtain ⟨x, h⟩ := mapCopy_round g s; rw [h]; exact aside rfl rfl

theorem makeChoice (s : State) : ReadersKept s (makeChoice s) := by
  obtain ⟨x, h⟩ := makeChoice_cases s; rw [h]; exact aside rfl rfl

theorem clearBlocked (s : State) : ReadersKept s (clearBlocked s) := by
  unfold Machine.clearBlocked; split <;> exact aside rfl rfl

theorem closedFront (c : Copy) (s : State) : ReadersKept s (closedFront c s) := by
  unfold Machine.closedFront; split
  · split
    · exact mapStripe _ (fun t => { t with state := .full }) (fun _ => rfl) s
    · exact refl
  · exact refl

theorem placedCopy (r : Round) (c : Copy) (s : State) : ReadersKept s (placedCopy r c s) := by
  unfold Machine.placedCopy; split
  · exact aside rfl rfl
  · split
    · refine (openStripe .relocate s).trans ?_
      split <;> exact aside rfl rfl
    · exact aside rfl rfl

theorem presentCopy (r : Round) (c : Copy) (s : State) : ReadersKept s (presentCopy r c s) := by
  rw [presentCopy_eq]; split
  · exact refl
  · exact (closedFront c s).trans (placedCopy r c _)

theorem engineOnce (s : State) : ReadersKept s (engineOnce s) := by
  unfold Machine.engineOnce; split
  · exact makeChoice s
  · split
    · split
      · exact refl
      · exact lookNext _ s
    · split
      · exact presentCopy _ _ s
      · exact refl

theorem engine (s : State) : ReadersKept s (engine s) :=
  (((clearBlocked s).trans (engineOnce _)).trans (engineOnce _)).trans (clearBlocked _)

theorem commitCopy (c : Copy) (s : State) : ReadersKept s (commitCopy c s) := by
  rcases commitCopy_cases c s with h | ⟨d, o, -, -, -, h⟩ <;> rw [h]
  · exact refl
  · have risen : ReadersKept s (Machine.liveRises d.1 c.source.count (s.putObject
        (mapVersion c.version c.serial (replaceExtent c.index ⟨d.1, d.2, c.source.count⟩) o))) := (liveRises _ _ _).behind rfl rfl
    exact risen.trans (liveFalls c.source.stripe c.source.count _)

theorem copyWritten (s : State) : ReadersKept s (copyWritten s) := by
  unfold Machine.copyWritten; split
  · exact refl
  · split
    · exact refl
    · simp only
      split
      · exact (commitCopy _ s).trans (lookNext _ _)
      · exact copyNext _ _ s

theorem copyFailed (s : State) : ReadersKept s (copyFailed s) := by
  unfold Machine.copyFailed; split
  · exact refl
  · split
    · exact refl
    · exact copyNext _ _ s

theorem abandonRound (s : State) : ReadersKept s (abandonRound s) :=
  ((detachFetcher .relocation s).trans (detachFeeder .relocate _)).trans (aside rfl rfl)

/-! ### Streams and the arbiter -/

/-- The holders of a port stay the ones they are. -/
theorem putPortStreams {p : Port} {ps : PortStreams} (h : ps.holds = (s.portStreams p).holds) : ReadersKept s (s.putPortStreams p ps) := by
  refine aside rfl ?_
  rw [putPortStreams_holders, h, ← holders_get, Holders.putPort, PerPort.set_get]

/-- The ACTIVE stream changes and keeps its id and its snapshot. -/
theorem mapActive {g : Stream → Stream} (hg : ∀ st, (g st).id = st.id ∧ (g st).snapshot = st.snapshot) (p : Port) (s : State) :
    ReadersKept s (mapActive p g s) := by
  unfold Machine.mapActive
  simp only
  split
  · exact refl
  · rename_i st rest hq
    refine putPortStreams ?_
    simp only [PortStreams.holds, hq, List.map_cons, hg]

theorem presentStream (p : Port) (s : State) : ReadersKept s (presentStream p s) := by
  refine mapActive (fun st => ?_) p s
  split <;> exact ⟨rfl, rfl⟩

/-- The PASS_SOURCE stream goes on with its snapshot. -/
theorem putSource {st st' : Stream} (h : s.streams.passSource = some st) (hs : st'.snapshot = st.snapshot) :
    ReadersKept s { s with streams.passSource := some st' } := by
  refine aside rfl ?_
  simp [State.holders, State.running, h, hs]

theorem presentSource (s : State) : ReadersKept s (presentSource s) := by
  unfold Machine.presentSource; split
  · rename_i h
    split
    · exact putSource h rfl
    · exact refl
  · exact refl

/-- The active pass goes on. -/
theorem putActive {p : Pass} (h : s.passes.active.isSome = true) : ReadersKept s { s with passes.active := some p } := by
  refine aside rfl ?_
  simp [State.holders, State.running, h]

theorem startFetch (c : Claim) (s : State) : ReadersKept s (startFetch c s) := by
  unfold Machine.startFetch; split
  · split
    · exact refl
    · rename_i p _ st _
      obtain ⟨x, hx⟩ := startStreamFetch_rest (.stream p) st s
      simp only [hx]
      refine ReadersKept.trans (t := { s with store.wings := x, store.turn := p }) (aside rfl rfl) (mapActive ?_ p _)
      exact fun _ => ⟨rfl, rfl⟩
  · split
    · exact refl
    · rename_i st hst
      obtain ⟨x, hx⟩ := startStreamFetch_rest .passSource st s
      simp only [hx]
      exact (putSource (st' := { st with fetch := .inFlight }) hst rfl).trans (aside rfl rfl)
  · split
    · exact refl
    · simp only
      obtain ⟨x, hx⟩ := putFetch_rest (s.wants .copyFetch) _ s
      rw [hx]
      exact (mapCopy _ _).behind rfl rfl
  · exact refl

theorem startProgram (f : Front) (k : Key) (v l : Nat) (d : List Octet) (s : State) : ReadersKept s (startProgram f k v l d s) := by
  unfold Machine.startProgram; split <;> exact aside rfl rfl

theorem startWide (c : Claim) (s : State) : ReadersKept s (startWide c s) := by
  unfold Machine.startWide; split
  · split
    · exact refl
    · split
      · exact (startProgram _ _ _ _ _ _).behind rfl rfl
      · exact refl
  · split <;> exact aside rfl rfl
  · split
    · exact refl
    · exact (mapCopy _ s).trans (startProgram _ _ _ _ _ _)
  · split
    · exact refl
    · rename_i p hp
      exact (putActive (p := { p with request := .inFlight }) (by rw [hp]; rfl)).trans (startProgram _ _ _ _ _ _)
  · exact refl

theorem decideLoop (n : Nat) (s : State) : ReadersKept s (decideLoop n s) := by
  induction n generalizing s with
  | zero => exact refl
  | succ n ih =>
    unfold Machine.decideLoop; split
    · exact refl
    · split
      · split
        · exact startWide _ s
        · exact aside rfl rfl
      · exact (startFetch _ s).trans (ih _)

theorem arbitrate (s : State) : ReadersKept s (arbitrate s) := by
  have free : ReadersKept s { s with store.held := none } := aside rfl rfl
  unfold Machine.arbitrate; split
  · split
    · exact free.trans (startWide _ _)
    · exact decideLoop 2 s
  · exact free.trans (decideLoop 2 _)

end ReadersKept

end Sys2Proof.Machine
end

section
/-! StepKeepsReaders: streams that are accepted, go on and end (R67, R70, R75, R76), and what the blocks do within an event. -/

namespace Sys2Proof.Machine

variable {s t u : State}

/-! ### Where a stream stands -/

theorem mem_holds {ps : PortStreams} {st : Stream} (h : st ∈ ps.queue) : (st.id, st.snapshot) ∈ ps.holds :=
  List.mem_map_of_mem (f := fun st : Stream => (st.id, st.snapshot)) h

theorem ReadersKept.holds (h : ReadersKept s t) (p : Port) : (t.portStreams p).holds = (s.portStreams p).holds := by
  rw [← holders_get, ← holders_get, h.holders]

theorem ReadersOk.ids_nodup (k : ReadersOk s) (p : Port) : ((s.portStreams p).queue.map (·.id)).Nodup := by
  rw [← PortStreams.holds_ids, ← holders_get]; exact (readersOk_iff.1 k).2.1.distinct p

/-- The queue without the streams of one id. -/
theorem holds_filter (i : Nat) (ps : PortStreams) (ended : List Stream) :
    PortStreams.holds ⟨ps.queue.filter (fun x => x.id != i), ended⟩ = ps.holds.filter (fun x => x.1 != i) := by
  rw [PortStreams.holds, PortStreams.holds, List.filter_map]; rfl

/-- Outside START there is no clause on the mode. -/
theorem inStart_ne (m : s.control.mode ≠ .start) : s.holders.inStart ≠ true := fun h => m (beq_iff_eq.1 h)

namespace ReadersOk

theorem foldl {α : Type} (g : State → α → State) (h : ∀ s a, ReadersOk s → ReadersOk (g s a)) (l : List α) (k : ReadersOk s) :
    ReadersOk (l.foldl g s) := List.foldlRecOn (motive := ReadersOk) l g k fun _ ht a _ => h _ a ht

/-! ### A stream comes and goes -/

/-- A stream leaves its port's queue, and its snapshot's stripes lose a reader each. -/
theorem stream_leaves (k : ReadersOk s) {p : Port} {i : Nat} {es : List Extent} {ps : PortStreams} (h : (i, es) ∈ (s.portStreams p).holds)
    (hp : ps.holds = (s.portStreams p).holds.filter (fun x => x.1 != i)) : ReadersOk ((readersFall es s).putPortStreams p ps) := by
  obtain ⟨canonical, ok, readers⟩ := readersOk_iff.1 k
  rw [← holders_get] at h hp
  refine readersOk_iff.2 ⟨readersFall_canonical es canonical, ?_, fun n => ?_⟩
  · rw [putPortStreams_holders, readersFall_holders, hp]
    refine ok.putPort p ((ok.distinct p).sublist (List.filter_sublist.map _)) fun m => ?_
    rw [(ok.start m).1 p]; rfl
  · rw [putPortStreams_holders, readersFall_holders, hp]
    have fallen := congrArg Stripe.readers (readersFall_stripe es canonical.1 n)
    have exchanged := naming_putPort s.holders p ((s.holders.ports.get p).filter (fun x => x.1 != i)) n
    have left := naming_filter (ok.distinct p) h n
    have count := readers n
    show ((readersFall es s).stripe n).readers = _
    simp only at fallen
    omega

/-- A stream joins its port's queue under a free id, and its snapshot's stripes gain a reader each. -/
theorem acceptStream (k : ReadersOk s) (m : s.control.mode ≠ .start) {p : Port} {st : Stream}
    (free : st.id ∉ (s.portStreams p).queue.map (·.id)) : ReadersOk (acceptStream p st s) := by
  obtain ⟨canonical, ok, readers⟩ := readersOk_iff.1 k
  have same : (readersRise st.snapshot s).portStreams p = s.portStreams p := by
    obtain ⟨x, h⟩ := readersRise_store st.snapshot s; rw [h]; rfl
  have joined : PortStreams.holds { s.portStreams p with queue := (s.portStreams p).queue ++ [st] }
      = s.holders.ports.get p ++ [(st.id, st.snapshot)] := by
    rw [holders_get, PortStreams.holds, List.map_append]; rfl
  have ids : (s.portStreams p).queue.map (·.id) = (s.holders.ports.get p).map (·.1) := by rw [holders_get, PortStreams.holds_ids]
  unfold Machine.acceptStream
  simp only [same]
  refine readersOk_iff.2 ⟨readersRise_canonical _ canonical, ?_, fun n => ?_⟩ <;> rw [putPortStreams_holders, readersRise_holders, joined]
  · refine ok.putPort p ?_ fun h => absurd h (inStart_ne m)
    rw [List.map_append, List.nodup_append]
    refine ⟨ok.distinct p, List.nodup_singleton _, ?_⟩
    rintro i hi j hj rfl
    have same : i = st.id := List.mem_singleton.1 hj
    exact free (ids ▸ same ▸ hi)
  · have risen := congrArg Stripe.readers (readersRise_stripe st.snapshot canonical.1 n)
    have exchanged := naming_putPort s.holders p (s.holders.ports.get p ++ [(st.id, st.snapshot)]) n
    have more : naming n ((s.holders.ports.get p ++ [(st.id, st.snapshot)]).map (·.2))
        = naming n ((s.holders.ports.get p).map (·.2)) + naming n [st.snapshot] := by rw [List.map_append, naming_append]; rfl
    have count := readers n
    show ((readersRise st.snapshot s).stripe n).readers = _
    simp only at risen
    omega

/-- The PASS_SOURCE stream is accepted with the pass that becomes active. -/
theorem passBegins (k : ReadersOk s) (m : s.control.mode ≠ .start) (none : s.passes.active = none) (st : Stream)
    (hs : t.store.stripes = (readersRise st.snapshot s).store.stripes)
    (hh : t.holders = { s.holders with engaged := true, source := some st.snapshot }) : ReadersOk t := by
  obtain ⟨canonical, ok, readers⟩ := readersOk_iff.1 k
  have vacant : s.holders.source = .none := ok.source (by simp [State.holders, none])
  refine readersOk_iff.2 ⟨hs ▸ readersRise_canonical _ canonical, ?_, fun n => ?_⟩ <;> rw [hh]
  · exact { ok with start := fun h => absurd h (inStart_ne m), source := nofun }
  · have risen := congrArg Stripe.readers (readersRise_stripe st.snapshot canonical.1 n)
    have count := readers n
    have same : t.stripe n = (readersRise st.snapshot s).stripe n := by rw [State.stripe, hs]; rfl
    rw [same]
    simp only [Holders.naming, vacant, Option.toList_none, Option.toList_some] at risen count ⊢
    have nothing : naming n [] = 0 := rfl
    omega

theorem endPassSource (k : ReadersOk s) : ReadersOk (endPassSource s) := by
  unfold Machine.endPassSource; split
  · exact k
  · rename_i st hst
    have detached : ReadersKept s (if st.fetch = .inFlight then detachFetcher .passSource s else s) := by
      split
      · exact .detachFetcher _ s
      · exact .refl
    have source : s.holders.source = some st.snapshot := by simp [State.holders, hst]
    simp only
    generalize (if st.fetch = .inFlight then detachFetcher .passSource s else s) = u at detached
    obtain ⟨canonical, ok, readers⟩ := readersOk_iff.1 (k.kept detached)
    have holders : ({ readersFall st.snapshot u with streams.passSource := none } : State).holders = { u.holders with source := none } := by
      rw [← readersFall_holders st.snapshot u]; rfl
    refine readersOk_iff.2 ⟨readersFall_canonical _ canonical, ?_, fun n => ?_⟩ <;> rw [holders]
    · exact { ok with start := fun m => ⟨(ok.start m).1, rfl⟩, source := fun _ => rfl }
    · have fallen := congrArg Stripe.readers (readersFall_stripe st.snapshot canonical.1 n)
      have count := readers n
      show ((readersFall st.snapshot u).stripe n).readers = _
      simp only [Holders.naming, detached.holders, source, Option.toList_none, Option.toList_some] at fallen count ⊢
      have nothing : naming n [] = 0 := rfl
      omega

/-- No pass is active any more, once its source has ended. -/
theorem disengage (k : ReadersOk s) (none : s.streams.passSource = none) (hs : t.store.stripes = s.store.stripes)
    (hh : t.holders = { s.holders with engaged := false }) : ReadersOk t := by
  obtain ⟨canonical, ok, readers⟩ := readersOk_iff.1 k
  refine readersOk_iff.2 ⟨hs ▸ canonical, ?_, fun n => ?_⟩ <;> rw [hh]
  · exact { ok with source := fun _ => by simp [State.holders, none] }
  · rw [show (t.stripe n) = s.stripe n by rw [State.stripe, State.stripe, hs]]; exact readers n

/-! ### The ends of streams -/

theorem endStream (k : ReadersOk s) {p : Port} {st : Stream} (h : (st.id, st.snapshot) ∈ (s.portStreams p).holds) (x : StreamKind)
    (final : Option Status) : ReadersOk (endStream p st x final s) := by
  have detached : ReadersKept s (if st.fetch = .inFlight then detachFetcher (.stream p) s else s) := by
    split
    · exact .detachFetcher _ s
    · exact .refl
  unfold Machine.endStream
  simp only
  generalize (if st.fetch = .inFlight then detachFetcher (.stream p) s else s) = u at detached
  have same : (readersFall st.snapshot u).portStreams p = u.portStreams p := by
    obtain ⟨y, hy⟩ := readersFall_store st.snapshot u; rw [hy]; rfl
  rw [← detached.holds p] at h
  cases final <;> exact (k.kept detached).stream_leaves h (by rw [same]; exact holds_filter _ _ _)

theorem releaseOrder (k : ReadersOk s) {p : Port} {st : Stream} (h : (st.id, st.snapshot) ∈ (s.portStreams p).holds) (o : OrderPart)
    (c : ReleaseCause) (e : Bool) : ReadersOk (releaseOrder p st o c e s) :=
  (k.aside (t := heldFalls o.account o.breakdown.fee s) rfl rfl).endStream h _ _

theorem cutStream (k : ReadersOk s) {p : Port} {st : Stream} (h : (st.id, st.snapshot) ∈ (s.portStreams p).holds) (x : Status)
    (c : ReleaseCause) : ReadersOk (cutStream p st x c s) := by
  unfold Machine.cutStream; split
  · exact k.releaseOrder h _ _ _
  · exact k.endStream h _ _

theorem completeStream (k : ReadersOk s) {p : Port} {st : Stream} (h : (st.id, st.snapshot) ∈ (s.portStreams p).holds) :
    ReadersOk (completeStream p st s) := by
  unfold Machine.completeStream; split
  · rename_i o _
    obtain ⟨l, b, hc⟩ := Narrows.chargeOrder_rest o s
    rw [hc]
    exact (k.aside (t := { s with ledger := l, billing := b }) rfl rfl).endStream h _ _
  · refine endStream ?_ ?_ _ _
    · exact k.aside rfl rfl
    · exact h

theorem endStream_holds (p : Port) (st : Stream) (x : StreamKind) (final : Option Status) (s : State) :
    ((Machine.endStream p st x final s).portStreams p).holds = (s.portStreams p).holds.filter (fun y => y.1 != st.id) := by
  have detached : ReadersKept s (if st.fetch = .inFlight then detachFetcher (.stream p) s else s) := by
    split
    · exact .detachFetcher _ s
    · exact .refl
  unfold Machine.endStream
  simp only
  rw [← detached.holds p]
  generalize (if st.fetch = .inFlight then detachFetcher (.stream p) s else s) = u
  obtain ⟨y, hy⟩ := readersFall_store st.snapshot u
  rw [hy]
  cases final <;> (rw [portStreams_putPortStreams_self]; exact holds_filter _ _ _)

/-- The orders that a predicate picks among streams of the queue are released one after the other. -/
theorem releaseOrders (pick : Stream → OrderPart → Bool) (c : ReleaseCause) {sts : List Stream} (d : (sts.map (·.id)).Nodup)
    (h : ∀ st ∈ sts, (st.id, st.snapshot) ∈ (s.portStreams .counter).holds) (k : ReadersOk s) : ReadersOk (releaseOrders pick c sts s) := by
  induction sts generalizing s with
  | nil => exact k
  | cons st sts ih =>
    obtain ⟨fresh, d⟩ := List.nodup_cons.1 d
    have here := h st List.mem_cons_self
    have later : ∀ x ∈ sts, (x.id, x.snapshot) ∈ (s.portStreams .counter).holds := fun x hx => h x (List.mem_cons_of_mem _ hx)
    unfold Machine.releaseOrders at ih ⊢
    rw [List.foldl_cons]
    split
    · rename_i o _
      split
      · refine ih d (fun x hx => ?_) (k.releaseOrder here o c true)
        rw [Machine.releaseOrder, endStream_holds]
        have other : x.id ≠ st.id := fun e => fresh (List.mem_map.2 ⟨x, hx, e⟩)
        exact List.mem_filter.2 ⟨later x hx, by simpa using other⟩
      · exact ih d later k
    · exact ih d later k

/-- The streams of a whole queue end one after the other. -/
theorem endAll {p : Port} {g : State → Stream → State} (hg : ∀ s st, ReadersOk s → (st.id, st.snapshot) ∈ (s.portStreams p).holds →
      ReadersOk (g s st) ∧ ((g s st).portStreams p).holds = (s.portStreams p).holds.filter (fun y => y.1 != st.id))
    {sts : List Stream} (k : ReadersOk s) (h : (s.portStreams p).holds = sts.map (fun st => (st.id, st.snapshot))) :
    ReadersOk (sts.foldl g s) ∧ ((sts.foldl g s).portStreams p).holds = [] := by
  induction sts generalizing s with
  | nil => exact ⟨k, h⟩
  | cons st sts ih =>
    obtain ⟨k', holds⟩ := hg s st k (by rw [h]; exact List.mem_cons_self)
    refine ih k' ?_
    have distinct := k.ids_nodup p
    rw [← PortStreams.holds_ids, h, List.map_cons, List.map_cons, List.nodup_cons] at distinct
    rw [holds, h, List.map_cons, List.filter_cons_of_neg (by simp)]
    refine List.filter_eq_self.2 fun y hy => ?_
    simpa using fun e : y.1 = st.id => distinct.1 (List.mem_map.2 ⟨y, hy, e⟩)

theorem resetStreams (k : ReadersOk s) (p : Port) : ReadersOk (resetStreams p s) := by
  unfold Machine.resetStreams
  simp only
  have ended := endAll (p := p) (g := fun s st => match st.kind with
    | .order o => Machine.releaseOrder p st o .cancelStream false s
    | x => Machine.endStream p st x none s) (fun s st k h => ?_) k (sts := (s.portStreams p).queue) rfl
  · exact ended.1.kept (.putPortStreams ended.2.symm)
  · split
    · rename_i o _
      exact ⟨k.releaseOrder h _ _ _, endStream_holds p st _ _ (heldFalls o.account o.breakdown.fee s)⟩
    · exact ⟨k.endStream h _ _, endStream_holds _ _ _ _ _⟩

theorem creditFrame (k : ReadersOk s) (p : Port) (id n : Nat) : ReadersOk (creditFrame p id n s) := by
  unfold Machine.creditFrame; simp only; split
  · rename_i st hst
    have here := List.mem_of_find?_eq_some hst
    have holds : PortStreams.holds { s.portStreams p with queue := (s.portStreams p).queue.map (replaceStream (advance n st)) }
        = (s.portStreams p).holds := by
      rw [PortStreams.holds, PortStreams.holds, List.map_map]
      refine List.map_congr_left fun x hx => ?_
      simp only [Function.comp_apply, replaceStream, Narrows.advance_id]
      split
      · rename_i same
        rw [List.inj_on_of_nodup_map (k.ids_nodup p) hx here same, Narrows.advance_id, advance_snapshot]
      · rfl
    have k' := k.kept (.putPortStreams holds)
    split
    · refine k'.completeStream ?_
      rw [portStreams_putPortStreams_self, holds, Narrows.advance_id, advance_snapshot]
      exact mem_holds here
    · exact k'
  · exact k.kept (.putPortStreams rfl)

/-! ### Passes -/

theorem stopActive (k : ReadersOk s) (created : Bool) : ReadersOk (stopActive created s) := by
  have detached : ReadersKept (Machine.endPassSource s) (unstall .restore (detachFeeder .restore (Machine.endPassSource s))) :=
    (ReadersKept.detachFeeder .restore _).trans (.aside rfl rfl)
  have dead : ∀ u : State, ReadersKept u (if created = true then u else extentsDie u.passes.output u) := fun u => by
    split
    · exact .refl
    · exact .extentsDie _ u
  have rest := detached.trans (dead _)
  have source : (Machine.endPassSource s).holders.source = none := by
    obtain ⟨x, h⟩ := endPassSource_rest s; rw [h]; rfl
  unfold Machine.stopActive
  refine disengage (k.endPassSource.kept rest) ?_ rfl rfl
  rw [← rest.holders] at source
  exact Option.map_eq_none_iff.1 source

theorem endActive (k : ReadersOk s) (p : Pass) (o : PassOutcome) (c : Option PassCause) : ReadersOk (endActive p o c s) :=
  (k.stopActive _).kept (.aside rfl rfl)

theorem abortPasses (k : ReadersOk s) (pick : Pass → Bool) (c : PassCause) : ReadersOk (abortPasses pick c s) := by
  have queued : ∀ u : State, ReadersKept u (abortQueued pick c u) := fun u => by
    obtain ⟨⟨r, ns, h⟩, -⟩ := abortQueued_rest pick c u
    rw [h]; exact .aside rfl rfl
  unfold Machine.abortPasses
  refine kept ?_ (queued _)
  split
  · split
    · exact k.endActive _ _ _
    · exact k
  · exact k

theorem resetPasses (k : ReadersOk s) : ReadersOk (resetPasses s) := by
  unfold Machine.resetPasses; split
  · exact (k.stopActive false).aside rfl rfl
  · exact k.aside rfl rfl

theorem startPass (k : ReadersOk s) (m : s.control.mode ≠ .start) (none : s.passes.active = none) (p : Pass) :
    ReadersOk (startPass p s) := by
  unfold Machine.startPass; split
  · exact k.aside rfl rfl
  · rename_i v _
    obtain ⟨x, hx⟩ := readersRise_store (newStream 0 .passSource p.key v 0 v.length).snapshot s
    simp only
    split <;> (refine k.passBegins m none (newStream 0 .passSource p.key v 0 v.length) rfl ?_; rw [acceptPassSource, hx]; rfl)

theorem startPasses (k : ReadersOk s) (m : s.control.mode ≠ .start) (n : Nat) : ReadersOk (startPasses n s) := by
  induction n generalizing s with
  | zero => exact k
  | succ n ih =>
    unfold Machine.startPasses; split
    · rename_i p rest none _
      have k' : ReadersOk { s with passes.queue := rest } := k.aside rfl rfl
      refine ih (k'.startPass m none p) ?_
      have mode := (startPass_works (loose := True) p { s with passes.queue := rest }).mode
      rwa [ne_eq, mode]
    · exact k

/-- A stream's snapshot is handed on: its stripes gain a reader each and lose one. -/
theorem handedOn (es : List Extent) (s : State) : ReadersKept s (readersFall es (readersRise es s)) := by
  refine ⟨fun c => readersFall_canonical es (readersRise_canonical es c), fun c n => ?_,
    (readersFall_holders es _).trans (readersRise_holders es s)⟩
  rw [readersFall_stripe es (readersRise_canonical es c).1, readersRise_stripe es c.1]
  exact Nat.add_sub_cancel _ _

theorem surveyEnds (k : ReadersOk s) {st : Stream} (active : s.passes.active.isSome = true) (source : s.streams.passSource = some st)
    (p : Pass) : ReadersOk (surveyEnds p st s) := by
  unfold Machine.surveyEnds
  simp only
  generalize hu : ({ s with passes.histogram := _, passes.active := some { p with profile := _ } } : State) = u
  have profiled : ReadersKept s u := by
    rw [← hu]
    exact (ReadersKept.putActive active).trans (.aside rfl rfl)
  split
  · exact (k.kept profiled).endActive _ _ _
  · refine (k.kept profiled).kept ((handedOn st.snapshot u).trans ?_)
    have rest : ∃ x : Store, readersFall st.snapshot (readersRise st.snapshot u) = { u with store := x } := by
      obtain ⟨x, hx⟩ := readersRise_store st.snapshot u
      obtain ⟨y, hy⟩ := readersFall_store st.snapshot { u with store := x }
      exact ⟨y, by rw [hx, hy]⟩
    obtain ⟨x, hx⟩ := rest
    rw [hx, ← hu]
    exact .aside rfl (by simp [State.holders, State.running, source])

theorem passTake (k : ReadersOk s) : ReadersOk (passTake s) := by
  unfold Machine.passTake; split
  · rename_i p st active source
    split
    · exact k
    · simp only
      have taken : ∀ (x : Passes) (n : Nat), x.active.isSome = true →
          ReadersOk { s with passes := x, streams.passSource := some (advance n st) } := fun x n hx => by
        refine k.kept (.aside rfl ?_)
        simp [State.holders, State.running, hx, active, source]
      split
      · exact k
      · split
        · exact taken { s.passes with histogram := _ } _ (by simp [active])
        · exact (taken { s.passes with histogram := _ } _ (by simp [active])).surveyEnds (by simp [active]) rfl _
      · split
        · exact k
        · split
          · exact taken { s.passes with active := _ } _ rfl
          · exact (taken { s.passes with active := _ } _ rfl).endPassSource
  · exact k

theorem createVersion (k : ReadersOk s) (p : Pass) : ReadersOk (createVersion p s) := by
  unfold Machine.createVersion; split
  · split
    · refine endActive ?_ _ _ _
      exact k.aside rfl rfl
    · exact k.endActive _ _ _
  · exact k.endActive _ _ _

theorem passWritten (k : ReadersOk s) (op : ProgramOp) : ReadersOk (passWritten op s) := by
  cases active : s.passes.active with
  | none => simp only [Machine.passWritten, active]; exact k
  | some p =>
    have taken : ReadersKept s (outputTaken op p s) :=
      (ReadersKept.liveRises op.stripe 1 s).trans (.aside rfl (by simp [State.holders, State.running, outputTaken, active]))
    rw [passWritten_of_active active]
    split
    · exact (k.kept taken).createVersion _
    · exact k.kept taken

theorem passFailed (k : ReadersOk s) : ReadersOk (passFailed s) := by
  unfold Machine.passFailed; split
  · exact k
  · rename_i p active
    exact k.kept (.putActive (by rw [active]; rfl))

theorem presentOutput (k : ReadersOk s) : ReadersOk (presentOutput s) := by
  unfold Machine.presentOutput; split
  · exact k
  · rename_i p active
    have presented : ∀ u : State, ReadersKept s u → ReadersOk { u with passes.active := some { p with request := .pending } } :=
      fun u h => (k.kept h).kept (.putActive ((congrArg Holders.engaged h.holders).trans (by simp [State.holders, active])))
    refine iteInduction (motive := ReadersOk) (fun _ => k) fun _ => ?_
    split
    · exact k.endActive _ _ _
    · split
      · exact presented s .refl
      · split
        · exact presented _ (.openStripe .restore s)
        · exact k.aside rfl rfl

/-! ### Modes -/

theorem enterPreserve (k : ReadersOk s) (m : s.control.mode ≠ .start) (c : PreserveCause) : ReadersOk (enterPreserve c s) := by
  have entered : ReadersOk { s with control.mode := .preserve, control.cause := some c } := by
    refine k.kept (.aside rfl ?_)
    have outside : (s.control.mode == .start) = false := by simpa using m
    simp only [State.holders, State.running, outside]
    rfl
  unfold Machine.enterPreserve
  exact ((entered.abortPasses _ _).kept (.abandonRound _)).kept ((ReadersKept.notifyAll _ _ _).behind rfl rfl)

theorem retireAction (k : ReadersOk s) : ReadersOk (retireAction s) := by
  unfold Machine.retireAction; split
  · rename_i normal; exact k.enterPreserve (by simp [normal]) _
  · exact k.aside rfl rfl
  · exact k

theorem judgeRetire (k : ReadersOk s) : ReadersOk (judgeRetire s) := by
  unfold Machine.judgeRetire; split
  · exact k.retireAction
  · exact k

theorem damageAction (k : ReadersOk s) : ReadersOk (damageAction s) := by
  unfold Machine.damageAction; split
  · rename_i normal; exact k.enterPreserve (by simp [normal]) _
  · exact k

theorem reportDamage (k : ReadersOk s) {key : Key} {number serial : Nat} {stop : State → State}
    (h : ∀ u, ReadersKept s u → ReadersOk u → ReadersOk (stop u)) : ReadersOk (reportDamage key number serial stop s) := by
  unfold Machine.reportDamage; split
  · rename_i u hu
    have marked := ReadersKept.markDamaged hu
    exact (h u marked (k.kept marked)).damageAction
  · exact h s .refl k

theorem retireStripe (k : ReadersOk s) (n : Nat) : ReadersOk (retireStripe n s) :=
  (k.kept (.mapStripe n (fun r => { r with state := .retired }) (fun _ => rfl) s)).judgeRetire

theorem leaveFullLoop (k : ReadersOk s) (kept n : Nat) : ReadersOk (leaveFullLoop kept n s) := by
  induction n generalizing s with
  | zero => exact k
  | succ n ih =>
    unfold Machine.leaveFullLoop; split
    · exact k
    · rename_i j _
      refine ih ?_
      unfold leaveFullOne; split
      · exact k.retireStripe j
      · exact k.kept ((ReadersKept.mapStripe j (fun r => { r with state := .dirty }) (fun _ => rfl) s).trans (.aside rfl rfl))

theorem takeHeads (k : ReadersOk s) (n : Nat) : ReadersOk (takeHeads n s) := by
  induction n generalizing s with
  | zero => exact k
  | succ n ih =>
    unfold Machine.takeHeads; split
    · exact k
    · split
      · exact k
      · split
        · exact k
        · split
          · refine ih (retireStripe ?_ _)
            exact k.aside rfl rfl
          · exact k.aside rfl rfl

/-! ### The end of an event -/

theorem settleRound (k : ReadersOk s) (m : s.control.mode ≠ .start) (kept : Nat) : ReadersOk (settleRound kept s) := by
  have left := leaveFull_works (loose := True) (s := s) (kept := kept) fun _ => .inl trivial
  have started : ReadersOk (Machine.startPasses (Config.passQueue + 1) (leaveFull kept s)) :=
    startPasses (k.leaveFullLoop _ _) (fun h => m (left.mode.1 h)) _
  exact (started.kept (.programmer _ _)).passTake.passTake.presentOutput.kept (.engine _)

theorem settleBlocks (k : ReadersOk s) (m : s.control.mode ≠ .start) : ReadersOk (settleBlocks s) := by
  have round : ∀ (u : State) (n : Nat), ReadersOk u ∧ u.control.mode ≠ .start →
      ReadersOk (Machine.settleRound n u) ∧ (Machine.settleRound n u).control.mode ≠ .start := fun u n ⟨k, m⟩ =>
    ⟨k.settleRound m n, by rwa [ne_eq, (settleRound_works (loose := True) m fun _ => .inl trivial).mode]⟩
  have erase : ∀ u : State, ReadersOk u ∧ u.control.mode ≠ .start → ReadersOk (eraseEngine u) ∧ (eraseEngine u).control.mode ≠ .start :=
    fun u ⟨k, m⟩ => ⟨k.takeHeads _, by rwa [ne_eq, (eraseEngine_works (loose := True) u).mode]⟩
  exact (round _ _ (erase _ (round _ _ (round _ _ (round _ _ (erase s ⟨k, m⟩)))))).1

theorem settle (k : ReadersOk s) : ReadersOk (settle s) := by
  unfold Machine.settle; split
  · exact k
  · rename_i m
    exact (k.settleBlocks m).kept (((((ReadersKept.presentStream _ _).trans (.presentStream _ _)).trans (.presentStream _ _)).trans
      (.presentSource _)).trans (.arbitrate _))

theorem conclude (k : ReadersOk s) : ReadersOk (conclude s) :=
  (k.settle.kept (.judgeConditions _)).kept (.transmitAll _)

end ReadersOk

end Sys2Proof.Machine
end

section
/-! StepKeepsReaders: the rules of the requests and of the events, and every command. -/

namespace Sys2Proof.Machine

variable {s t : State}

namespace ReadersKept

/-! ### Editions, objects and deposits -/

theorem openEdition (p : Port) (d n : Nat) (s : State) : ReadersKept s (openEdition p d n s).1 := by
  unfold Machine.openEdition
  simp only
  iterate 3
    split
    · exact refl
  exact aside rfl rfl

theorem closeEdition (p : Port) (h : Nat) (r : Stamp) (s : State) : ReadersKept s (closeEdition p h r s).1 := by
  unfold Machine.closeEdition; split
  · exact refl
  · iterate 3
      split
      · exact refl
    simp only
    split
    · exact (publish h _).behind rfl rfl
    · exact aside rfl rfl

theorem abandonEdition (p : Port) (h : Nat) (s : State) : ReadersKept s (abandonEdition p h s).1 := by
  unfold Machine.abandonEdition; split
  · exact refl
  · split
    · exact refl
    · refine ReadersKept.trans ?_ (withdrawCopy s _)
      exact ((dropDeposits (s.openDeposits h) s).trans (removeObjects h _)).trans (aside rfl rfl)

theorem reinstateEdition (p : Port) (h : Nat) (s : State) : ReadersKept s (reinstateEdition p h s).1 := by
  unfold Machine.reinstateEdition; split
  · exact refl
  · split
    · exact refl
    · exact (notifyAll _ _ _).behind rfl rfl

theorem purgeEdition (p : Port) (h : Nat) (s : State) : ReadersKept s (purgeEdition p h s).1 := by
  unfold Machine.purgeEdition; split
  · exact refl
  · split
    · exact refl
    · refine ReadersKept.trans ?_ (withdrawCopy s _)
      exact (removeObjects h s).trans (aside rfl rfl)

theorem discardVersion (p : Port) (w : WireKey) (n : Nat) (s : State) : ReadersKept s (discardVersion p w n s).1 := by
  unfold Machine.discardVersion; split
  · exact refl
  · rename_i o _
    split
    · exact refl
    · split
      · exact refl
      · rename_i v _
        split
        · exact refl
        · exact (removeVersion o v s).trans (withdrawCopy s _)

theorem beginObject (p : Port) (h kind number length rights contributor format : Nat) (ps : List WireKey) (s : State) :
    ReadersKept s (beginObject p h kind number length rights contributor format ps s).1 := by
  unfold Machine.beginObject; split
  · exact refl
  · iterate 2
      split
      · exact refl
    split
    · exact refl
    · split
      · exact refl
      · split
        · split
          · exact refl
          · split <;> exact aside rfl rfl
        · exact refl

theorem putChunk (p : Port) (n offset : Nat) (data : List Octet) (s : State) : ReadersKept s (putChunk p n offset data s).1 := by
  unfold Machine.putChunk; split
  · exact refl
  · split
    · exact aside rfl rfl
    · iterate 5
        split
        · exact refl
      split <;> exact aside rfl rfl

theorem endObject (p : Port) (n : Nat) (x : BitVec 32) (s : State) : ReadersKept s (endObject p n x s).1 := by
  unfold Machine.endObject; split
  · exact refl
  · split
    · exact aside rfl rfl
    · iterate 2
        split
        · exact refl
      split
      · exact dropDeposit _ _ _ s
      · exact (enterReady _ _).behind rfl rfl

theorem dropObject (p : Port) (n : Nat) (s : State) : ReadersKept s (dropObject p n s).1 := by
  unfold Machine.dropObject; split
  · exact refl
  · split
    · exact aside rfl rfl
    · exact dropDeposit _ _ _ s

/-! ### Accounts, contributors, tariffs and periods -/

theorem openAccount (a b c : Nat) (s : State) : ReadersKept s (openAccount a b c s).1 := by
  unfold Machine.openAccount
  iterate 2
    split
    · exact refl
  exact aside rfl rfl

theorem setAccount (a b c : Nat) (s : State) : ReadersKept s (setAccount a b c s).1 := by
  unfold Machine.setAccount
  simp only
  iterate 2
    split
    · exact refl
  exact aside rfl rfl

theorem creditAccount (a b : Nat) (s : State) : ReadersKept s (creditAccount a b s).1 := by
  unfold Machine.creditAccount
  simp only
  iterate 3
    split
    · exact refl
  exact aside rfl rfl

theorem reinstateAccount (a : Nat) (s : State) : ReadersKept s (reinstateAccount a s).1 := by
  unfold Machine.reinstateAccount
  simp only
  split
  · exact refl
  · split <;> exact aside rfl rfl

theorem closeAccount (a : Nat) (s : State) : ReadersKept s (closeAccount a s).1 := by
  unfold Machine.closeAccount
  simp only
  iterate 3
    split
    · exact refl
  exact aside rfl rfl

theorem registerContributor (n : Nat) (s : State) : ReadersKept s (registerContributor n s).1 := by
  unfold Machine.registerContributor
  simp only
  iterate 2
    split
    · exact refl
  exact aside rfl rfl

theorem setContributorState (n x : Nat) (s : State) : ReadersKept s (setContributorState n x s).1 := by
  unfold Machine.setContributorState
  simp only
  split
  · exact refl
  · iterate 2
      split
      · exact refl
    exact aside rfl rfl

theorem setShare (n x : Nat) (s : State) : ReadersKept s (setShare n x s).1 := by
  unfold Machine.setShare
  simp only
  iterate 2
    split
    · exact refl
  exact aside rfl rfl

theorem setTariff (x u c a b n m : Nat) (s : State) : ReadersKept s (setTariff x u c a b n m s).1 := by
  unfold Machine.setTariff; split
  · split <;> exact aside rfl rfl
  · exact refl

theorem setTariffGlobals (g : Globals) (s : State) : ReadersKept s (setTariffGlobals g s).1 := by
  unfold Machine.setTariffGlobals; split <;> exact aside rfl rfl

theorem setPeriodLength (d : Nat) (s : State) : ReadersKept s (setPeriodLength d s).1 := by
  unfold Machine.setPeriodLength; split <;> exact aside rfl rfl

theorem closeAttempt (s : State) : ReadersKept s (closeAttempt s) := by
  unfold Machine.closeAttempt; simp only; split <;> exact aside rfl rfl

theorem releaseStatements (n : Nat) (s : State) : ReadersKept s (releaseStatements n s).1 := by
  unfold Machine.releaseStatements; simp only; split <;> exact aside rfl rfl

theorem moveStatement (s : State) : ReadersKept s (moveStatement s) := by
  unfold Machine.moveStatement; split <;> exact aside rfl rfl

/-! ### The clock, passes, messages and the links -/

theorem setClock (d m : Nat) (s : State) : ReadersKept s (setClock d m s).1 := by
  unfold Machine.setClock; split <;> exact aside rfl rfl

theorem stepCountdown (s : State) : ReadersKept s (stepCountdown s) := by
  unfold Machine.stepCountdown; split
  · exact refl
  · simp only; split
    · exact (closeAttempt _).behind rfl rfl
    · exact aside rfl rfl

theorem riseTick (s : State) : ReadersKept s (riseTick s) := by
  unfold Machine.riseTick; simp only; split
  · exact (notifyAll _ _ _).behind rfl rfl
  · exact aside rfl rfl

theorem submitPass (w : WireKey) (x : Source) (a b c d e f : Nat) (s : State) : ReadersKept s (submitPass w x a b c d e f s).1 := by
  unfold Machine.submitPass
  iterate 4
    split
    · exact refl
  exact aside rfl rfl

theorem postMessage (p : Port) (b : BitVec 8) (x : List Octet) (s : State) : ReadersKept s (postMessage p b x s).1 := by
  unfold Machine.postMessage
  simp only
  iterate 2
    split
    · exact refl
  exact foldl (fun s t => deliver ⟨p, x⟩ t s) (fun _ _ => aside rfl rfl) _ s

theorem takeMessage (p : Port) (s : State) : ReadersKept s (takeMessage p s).1 := by
  unfold Machine.takeMessage; split <;> exact aside rfl rfl

theorem resumeWrites (m : s.control.mode ≠ .start) : ReadersKept s (resumeWrites s).1 := by
  have outside : (s.control.mode == .start) = false := by simpa using m
  unfold Machine.resumeWrites
  iterate 2
    split
    · exact refl
  exact (notifyAll _ _ _).behind rfl (by simp only [State.holders, State.running, outside]; rfl)

theorem answerFrame (p : Port) (tag : Octet) (a b : Status) (s : State) : ReadersKept s (answerFrame p tag a b s) := by
  unfold Machine.answerFrame; split
  · exact refl
  · split
    · exact (refuse p tag b s).trans (transmit p _)
    · exact (transmit p _).behind rfl rfl

theorem holdInStart (p : Port) (s : State) : ReadersKept s (holdInStart p s) := by
  unfold Machine.holdInStart; split <;> exact aside rfl rfl

/-- Freeing an id ends nothing: its stream has ended. -/
theorem freeStream (p : Port) (id : Nat) (s : State) : ReadersKept s (freeStream p id s) := putPortStreams rfl

end ReadersKept

namespace ReadersOk

/-! ### Streams, orders and passes -/

/-- A free id is the id of no stream of the queue. -/
theorem freeId_fresh {ps : PortStreams} {id : Nat} (h : ps.freeId = some id) : id ∉ ps.queue.map (·.id) := fun mem =>
  (lowestFree_some h).2 (List.mem_append_left _ mem)

theorem readObject (k : ReadersOk s) (m : s.control.mode ≠ .start) (p : Port) (w : WireKey) (v : Source) (a b : Nat) :
    ReadersOk (readObject p w v a b s).1 := by
  unfold Machine.readObject
  iterate 4
    split
    · exact k
  split
  · exact k
  · rename_i id free
    exact k.acceptStream m (freeId_fresh free)

theorem placeOrder (k : ReadersOk s) (m : s.control.mode ≠ .start) (a : Nat) (q : Sale) : ReadersOk (s.placeOrder a q).1 := by
  unfold State.placeOrder
  simp only
  split
  · exact k
  · split
    · exact k
    · rename_i id free
      split
      · exact k
      · exact acceptStream (s := s.putAccount a _) (k.aside rfl rfl) m (freeId_fresh free)

theorem order (k : ReadersOk s) (m : s.control.mode ≠ .start) (a : Nat) (w : WireKey) (u n : Nat) : ReadersOk (order a w u n s).1 := by
  unfold Machine.order; split
  · exact k
  · split
    · exact k
    · exact k
    · split
      · exact k
      · iterate 2
          split
          · exact k
        split
        · exact k
        · exact k.placeOrder m _ _

theorem cancelStream (k : ReadersOk s) (p : Port) (id : Nat) : ReadersOk (cancelStream p id s).1 := by
  unfold Machine.cancelStream; split
  · rename_i st hst
    exact k.cutStream (mem_holds (List.mem_of_find?_eq_some hst)) _ _
  · split <;> exact k

theorem withdrawEdition (k : ReadersOk s) (p : Port) (h : Nat) : ReadersOk (withdrawEdition p h s).1 := by
  unfold Machine.withdrawEdition; split
  · exact k
  · rename_i e _
    split
    · exact k
    · have told : ReadersOk (notifyAll .editionWithdrawn allPorts (s.putEdition h { e with state := .withdrawn })) :=
        k.kept ((ReadersKept.notifyAll _ _ _).behind rfl rfl)
      exact (told.releaseOrders _ _ (told.ids_nodup .counter) fun _ => mem_holds).abortPasses _ _

theorem suspendAccount (k : ReadersOk s) (id : Nat) : ReadersOk (suspendAccount id s).1 := by
  unfold Machine.suspendAccount; simp only; split
  · exact k
  · split
    · exact k
    · exact k
    · have put : ∀ a, ReadersOk (s.putAccount id a) := fun _ => k.aside rfl rfl
      refine releaseOrders _ _ ?_ (fun st hst => ?_) (put _)
      · exact (k.ids_nodup .counter).sublist ((List.tail_sublist _).map _)
      · exact mem_holds (List.mem_of_mem_tail hst)

theorem cancelPass (k : ReadersOk s) (id : Nat) : ReadersOk (cancelPass id s).1 := by
  unfold Machine.cancelPass; split
  · exact k.abortPasses _ _
  · exact k

theorem setOperating (k : ReadersOk s) (a b c d e : Nat) : ReadersOk (setOperating a b c d e s).1 := by
  unfold Machine.setOperating; split
  · exact k
  · refine judgeRetire ?_
    exact k.aside rfl rfl

/-! ### The links, the clock and the store guard -/

theorem resetPort (k : ReadersOk s) (p : Port) : ReadersOk (resetPort p s) := by
  have silent : ReadersOk { s with links := s.links.set p { Link.reset with breakHeld := true } } := k.aside rfl rfl
  have work : ∀ u : State, ReadersOk u → ReadersOk (resetWork p u) := fun u h => by
    cases p with
    | desk => exact h.kept (.resetDeposits .desk u)
    | bench => exact (h.kept (.resetDeposits .bench u)).resetPasses
    | counter => exact h
  exact (work _ (silent.resetStreams p)).aside rfl rfl

theorem markDay (k : ReadersOk s) : ReadersOk (markDay s) := by
  unfold Machine.markDay; split
  · exact conclude (k.kept ((ReadersKept.stepCountdown _).behind rfl rfl))
  · exact k

theorem guardLine (k : ReadersOk s) (b : Bool) : ReadersOk (guardLine b s) := by
  have level : ReadersOk { s with store.guardAsserted := b } := k.aside rfl rfl
  unfold Machine.guardLine; simp only; split
  · exact level.conclude
  · exact level

/-! ### The store's completions -/

theorem soundFetch (k : ReadersOk s) (op : FetchOp) (w : Wing) (body : List Octet) : ReadersOk (soundFetch op w body s) := by
  unfold Machine.soundFetch; split
  · exact k
  · refine k.kept (.mapActive (fun st => ⟨?_, takeSheet_snapshot _ _ st⟩) _ s)
    unfold takeSheet; split <;> rfl
  · refine k.aside rfl ?_
    simp [State.holders, State.running, Function.comp_def]
  · exact k.kept (.mapCopy _ s)

theorem passSourceDamaged (k : ReadersOk s) : ReadersOk (passSourceDamaged s) := by
  unfold Machine.passSourceDamaged; split
  · exact k.endActive _ _ _
  · exact k.endPassSource

theorem damagedFetch (k : ReadersOk s) (op : FetchOp) : ReadersOk (damagedFetch op s) := by
  unfold Machine.damagedFetch; split
  · exact k
  · rename_i p _
    split
    · exact k
    · rename_i st hst
      refine k.reportDamage fun u kept ku => ku.cutStream ?_ _ _
      rw [kept.holds p]
      exact mem_holds (List.mem_of_mem_head? hst)
  · split
    · exact k
    · exact k.reportDamage fun _ _ ku => ku.passSourceDamaged
  · split
    · exact k
    · exact k.reportDamage fun _ _ ku => ku.aside rfl rfl

theorem fetchDone (k : ReadersOk s) (w : Wing) (x : Option Sheet) (op : FetchOp) : ReadersOk (fetchDone w x op s) := by
  unfold Machine.fetchDone; simp only; split
  · exact k.soundFetch _ _ _
  · exact k.damagedFetch _

theorem feedWritten (k : ReadersOk s) (op : ProgramOp) : ReadersOk (feedWritten op s) := by
  unfold Machine.feedWritten; split
  · exact k
  · split
    · exact k.kept (.intakeWritten op s)
    · exact k.passWritten op
    · exact k.kept (.copyWritten s)

theorem feedFailed (k : ReadersOk s) (op : ProgramOp) : ReadersOk (feedFailed op s) := by
  unfold Machine.feedFailed; split
  · exact k
  · split
    · exact k.aside rfl rfl
    · exact k.passFailed
    · exact k.kept (.copyFailed s)

theorem programWritten (k : ReadersOk s) (op : ProgramOp) : ReadersOk (programWritten op s) := by
  refine feedWritten (k.kept ?_) op
  exact (ReadersKept.mapStripe op.stripe writtenStripe (fun _ => rfl) _).behind rfl rfl

theorem programFailed (k : ReadersOk s) (op : ProgramOp) : ReadersOk (programFailed op s) := by
  refine feedFailed (k.kept ?_) op
  exact (ReadersKept.mapStripe op.stripe failedStripe (fun _ => rfl) _).behind rfl rfl

theorem eraseDone (k : ReadersOk s) (n : Nat) : ReadersOk (eraseDone n s) := by
  have erased : ReadersKept s ((eraseLeaves n s).mapStripe n erasedStripe) :=
    (ReadersKept.mapStripe n erasedStripe (fun _ => rfl) _).behind rfl rfl
  exact (k.kept erased).kept ((ReadersKept.examineStalled _).behind rfl rfl)

theorem eraseFailed (k : ReadersOk s) (n : Nat) : ReadersOk (eraseFailed n s) := by
  obtain ⟨x, i, hl, -⟩ := loseStripe_flash n s
  unfold Machine.eraseFailed
  rw [hl]
  refine retireStripe ?_ n
  exact k.aside rfl rfl

/-! ### The supply and start-up -/

/-- In START nothing is read: the counts are 0 and nobody holds a snapshot. -/
theorem of_empty (hs : Table.Canonical Stripe.formatted s.store.stripes) (hr : ∀ n, (s.stripe n).readers = 0)
    (hh : s.holders = ⟨s.running, true, s.passes.active.isSome, ⟨[], [], []⟩, none⟩) : ReadersOk s := by
  refine readersOk_iff.2 ⟨hs, ?_, fun n => ?_⟩ <;> rw [hh]
  · exact ⟨fun _ => rfl, fun p => by cases p <;> exact List.nodup_nil, fun _ => ⟨fun p => by cases p <;> rfl, rfl⟩, fun _ => rfl⟩
  · exact hr n

/-- What START holds. -/
theorem start_holders (k : ReadersOk s) (m : s.control.mode = .start) :
    s.holders = ⟨s.running, true, s.passes.active.isSome, ⟨[], [], []⟩, none⟩ := by
  obtain ⟨-, ok, -⟩ := readersOk_iff.1 k
  have inStart : s.holders.inStart = true := beq_iff_eq.2 m
  obtain ⟨ports, source⟩ := ok.start inStart
  have desk : s.holders.ports.desk = [] := ports .desk
  have bench : s.holders.ports.bench = [] := ports .bench
  have counter : s.holders.ports.counter = [] := ports .counter
  have rebuilt : s.holders = ⟨s.running, s.holders.inStart, s.passes.active.isSome,
    ⟨s.holders.ports.desk, s.holders.ports.bench, s.holders.ports.counter⟩, s.holders.source⟩ := rfl
  rw [rebuilt, inStart, desk, bench, counter, source]

theorem loseVolatile (k : ReadersOk s) (p q : Bool) :
    ReadersOk { loseVolatile s with control.powered := p, control.resetLine := q } := by
  obtain ⟨canonical, -, -⟩ := readersOk_iff.1 k
  refine of_empty ?_ (fun n => ?_) rfl
  · obtain ⟨x, i, h, -⟩ := cutOperation_flash s
    unfold Machine.loseVolatile
    rw [h]
    exact canonical_tmapD Stripe.formatted (fun r => { r with readers := 0 }) canonical.1
  · exact congrArg Stripe.readers (loseVolatile_stripe canonical.1 n)

theorem recoverStore (k : ReadersOk s) (m : s.control.mode = .start) : ReadersOk (recoverStore s) := by
  obtain ⟨canonical, -, -⟩ := readersOk_iff.1 k
  obtain ⟨x, hx⟩ := recoverStore_rest s
  have holders : (Machine.recoverStore s).holders = s.holders := by rw [hx]; rfl
  refine of_empty ?_ (fun n => ?_) ?_
  · have mapped : Table.Canonical Stripe.formatted (tmapD Stripe.formatted recoveredStripe s.store.stripes) :=
      canonical_tmapD _ recoveredStripe canonical.1
    unfold Machine.recoverStore; simp only; split
    · exact mapped
    · exact canonical_tset _ mapped _ _
  · rw [recoverStore_stripe canonical.1]; rfl
  · rw [holders, k.start_holders m, hx]; rfl

theorem recover (k : ReadersOk s) (m : s.control.mode = .start) : ReadersOk (recover s) := by
  have catalog : ∀ u : State, ReadersKept u (recoverCatalog u) := fun u => by
    refine .foldl (fun s (e : Nat × Edition) => recoverEdition e.1 e.2 s) (fun s e => ?_) _ u
    unfold recoverEdition; split
    · split
      · exact .publish _ s
      · exact .returnToOpen _ s
    · exact .refl
  have outputs : ∀ u : State, ReadersKept u (clearHeld (recoverOutputs u)) := fun u => by
    rw [recoverOutputs_eq]
    exact (ReadersKept.extentsDie _ u).trans (.aside rfl rfl)
  exact (((k.recoverStore m).kept (catalog _)).kept (outputs _)).leaveFullLoop _ _

theorem format (m : s.control.mode = .start) : ReadersOk (format s) := by
  refine of_empty ⟨ordered_nil, nofun⟩ (fun _ => rfl) ?_
  simp only [State.holders, Machine.format, m]
  rfl

/-- START ends with nothing being read. -/
theorem leaveStart (k : ReadersOk s) (m : s.control.mode = .start) (running : s.running = true) : ReadersOk (leaveStart s) := by
  obtain ⟨canonical, -, readers⟩ := readersOk_iff.1 k
  obtain ⟨ns, cause, h⟩ := leaveStart_rest s
  have empty := k.start_holders m
  have holders : (Machine.leaveStart s).holders = { s.holders with inStart := false } := by
    have left : (s.leavingMode == .start) = false := by unfold State.leavingMode; split <;> rfl
    rw [h]
    simp only [State.holders, left]
    rfl
  rw [empty] at holders readers
  refine readersOk_iff.2 ⟨by rw [h]; exact canonical, ?_, fun n => ?_⟩ <;> rw [holders]
  · exact ⟨fun off => absurd (running.symm.trans off) (by simp), fun p => by cases p <;> exact List.nodup_nil, nofun, fun _ => rfl⟩
  · rw [h]; exact readers n

theorem startUpEnd (k : ReadersOk s) (m : s.control.mode = .start) (running : s.running = true) :
    ReadersOk (Machine.conclude (Machine.leaveStart (holdConditions (recoverOrFormat s)))) := by
  have clock : ReadersOk (restartClock s) := k.aside rfl rfl
  have ready : ReadersOk (recoverOrFormat s) := by
    unfold recoverOrFormat; split
    · exact clock.recover m
    · exact format m
  obtain ⟨-, restored⟩ := recoverOrFormat_acts (loose := True) (Sane.of_true s) m running
  have held : ReadersOk (holdConditions (recoverOrFormat s)) := ready.aside rfl rfl
  exact (held.leaveStart restored.start restored.running).conclude

/-- The supply of a part that does not work changes, and it is in START before and after. -/
theorem supplied (k : ReadersOk s) (off : s.running = false) (hs : t.store.stripes = s.store.stripes)
    (hh : t.holders = { s.holders with running := t.running, inStart := true }) : ReadersOk t := by
  obtain ⟨canonical, ok, readers⟩ := readersOk_iff.1 k
  have m : s.holders.inStart = true := ok.idle off
  refine readersOk_iff.2 ⟨hs ▸ canonical, ?_, fun n => ?_⟩ <;> rw [hh]
  · exact { ok with idle := fun _ => rfl, start := fun _ => ok.start m }
  · rw [show t.stripe n = s.stripe n by rw [State.stripe, State.stripe, hs]]; exact readers n

/-! ### Serving a request -/

theorem serveWith {after : State → State} {ports : List Port} {inStart : Bool} {f : Frame} {rule : State → State × Answer} (k : ReadersOk s)
    (ha : ∀ u, ReadersOk u → ReadersOk (after u)) (hr : screen ports inStart f s = none → ReadersOk (rule s).1) :
    ReadersOk (serveWith after ports inStart f rule s) := by
  have replied : ∀ (u : State) (a : Answer), ReadersOk u → ReadersOk (reply f.port f.tag a u) := fun _ _ h => h.aside rfl rfl
  unfold Machine.serveWith; split
  · exact k
  · split
    · exact k.kept ((ReadersKept.refuse _ _ _ s).trans (.transmit _ _))
    · split
      · exact (replied s _ k).kept (.transmit _ _)
      · rename_i passed; exact ha _ (replied _ _ (hr passed))

/-- A request whose rule touches no reader. -/
theorem served {ports : List Port} {f : Frame} {rule : State → State × Answer} (k : ReadersOk s) (h : ReadersKept s (rule s).1) :
    ReadersOk (serve ports f rule s) := k.serveWith (fun _ ku => ku.kept (.transmit _ _)) fun _ => k.kept h

theorem servedAlways {f : Frame} {rule : State → State × Answer} (k : ReadersOk s) (h : ReadersKept s (rule s).1) :
    ReadersOk (serveAlways f rule s) := k.serveWith (fun _ ku => ku.kept (.transmit _ _)) fun _ => k.kept h

theorem serveSettling {ports : List Port} {f : Frame} {rule : State → State × Answer} (k : ReadersOk s)
    (hr : s.control.mode ≠ .start → ReadersOk (rule s).1) : ReadersOk (serveSettling ports f rule s) :=
  k.serveWith (fun _ ku => ku.conclude) fun passed => hr (mode_of_screen passed)

theorem servedSettling {ports : List Port} {f : Frame} {rule : State → State × Answer} (k : ReadersOk s) (h : ReadersKept s (rule s).1) :
    ReadersOk (Machine.serveSettling ports f rule s) := k.serveSettling fun _ => k.kept h

/-! ### Every command -/

theorem of_next {u : State} (k : ReadersOk u) (h : (.next u : Host.Outcome State Fault Refusal) = .next t) : ReadersOk t := by
  cases h; exact k

theorem exec {c : Instr} (k : ReadersOk s) (h : exec c s = .next t) : ReadersOk t := by
  cases c with
  | openEdition r d n => exact of_next (k.served (.openEdition _ _ _ s)) h
  | beginObject r a b c d e g i ps => exact of_next (k.served (.beginObject _ _ _ _ _ _ _ _ _ s)) h
  | putChunk r n o d => exact of_next (k.servedSettling (.putChunk _ _ _ _ s)) h
  | endObject r n x => exact of_next (k.servedSettling (.endObject _ _ _ s)) h
  | dropObject r n => exact of_next (k.servedSettling (.dropObject _ _ s)) h
  | closeEdition r n x => exact of_next (k.servedSettling (.closeEdition _ _ _ s)) h
  | abandonEdition r n => exact of_next (k.servedSettling (.abandonEdition _ _ s)) h
  | read r w v o l => exact of_next (k.serveSettling fun m => k.readObject m _ _ _ _ _) h
  | withdrawEdition r n => exact of_next (k.serveSettling fun _ => k.withdrawEdition _ _) h
  | reinstateEdition r n => exact of_next (k.served (.reinstateEdition _ _ s)) h
  | purgeEdition r n => exact of_next (k.servedSettling (.purgeEdition _ _ s)) h
  | registerContributor r n => exact of_next (k.served (.registerContributor _ s)) h
  | setContributorState r n x => exact of_next (k.served (.setContributorState _ _ s)) h
  | setClock r d x => exact of_next (k.servedSettling (.setClock _ _ s)) h
  | setOperating r a b c d e => exact of_next (k.serveSettling fun _ => k.setOperating _ _ _ _ _) h
  | resumeWrites r => exact of_next (k.serveSettling fun m => k.kept (.resumeWrites m)) h
  | submitPass r w x m d l i n p => exact of_next (k.servedSettling (.submitPass _ _ _ _ _ _ _ _ s)) h
  | cancelPass r n => exact of_next (k.serveSettling fun _ => k.cancelPass _) h
  | passResult r => exact of_next (k.served .refl) h
  | takeSurvey r => exact of_next (k.served .refl) h
  | discardVersion r w n => exact of_next (k.servedSettling (.discardVersion _ _ _ s)) h
  | openAccount r a b c => exact of_next (k.served (.openAccount _ _ _ s)) h
  | setAccount r a b c => exact of_next (k.served (.setAccount _ _ _ s)) h
  | creditAccount r a b => exact of_next (k.served (.creditAccount _ _ s)) h
  | suspendAccount r a => exact of_next (k.serveSettling fun _ => k.suspendAccount _) h
  | reinstateAccount r a => exact of_next (k.served (.reinstateAccount _ s)) h
  | closeAccount r a => exact of_next (k.served (.closeAccount _ s)) h
  | findAccount r a => exact of_next (k.served (.of_eq (findAccount_state a s))) h
  | setShare r a b => exact of_next (k.served (.setShare _ _ s)) h
  | setTariff r x u c a b n m => exact of_next (k.served (.setTariff _ _ _ _ _ _ _ s)) h
  | setTariffGlobals r a b c d x p => exact of_next (k.served (.setTariffGlobals _ s)) h
  | setPeriodLength r d => exact of_next (k.served (.setPeriodLength _ s)) h
  | quote r a w u n => exact of_next (k.served (.of_eq (quote_state a w u n s))) h
  | order r a w u n => exact of_next (k.serveSettling fun m => k.order m _ _ _ _) h
  | closePeriod r => exact of_next (k.served (.closeAttempt s)) h
  | takeStatements r => exact of_next (k.served (.of_eq (takeStatements_state s))) h
  | releaseStatements r n => exact of_next (k.served (.releaseStatements _ s)) h
  | findEdition r n => exact of_next (k.served (.of_eq (findEdition_state _ n s))) h
  | findObject r w => exact of_next (k.served (.of_eq (findObject_state _ w s))) h
  | cancelStream r n => exact of_next (k.serveSettling fun _ => k.cancelStream _ _) h
  | status r => exact of_next (k.servedAlways .refl) h
  | identify r => exact of_next (k.servedAlways .refl) h
  | takeNotices r => exact of_next (k.served (.aside rfl rfl)) h
  | setNoticeMask r x => exact of_next (k.served (.aside rfl rfl)) h
  | postMessage r b x => exact of_next (k.served (.postMessage _ _ _ s)) h
  | takeMessage r => exact of_next (k.served (.takeMessage _ s)) h
  | unknownRequest p x c =>
    refine of_next ?_ h
    split
    · exact k
    · exact k.kept (.answerFrame _ _ _ _ s)
  | badFrame p x => exact of_next (k.kept (.answerFrame _ _ _ _ s)) h
  | busy p x m =>
    refine of_next ?_ h
    split
    · exact k.kept (.answerFrame _ _ _ _ s)
    · exact k
  | replySent p =>
    refine of_next ?_ h
    split
    · exact k.kept ((ReadersKept.transmit p _).behind rfl rfl)
    · exact k
  | dataFrameSent p =>
    have freed : ReadersOk (freeTransmitter p s) := k.aside rfl rfl
    refine of_next ?_ h
    split
    · exact (freed.creditFrame p _ _).conclude
    · exact k
  | endFrameSent p =>
    have freed : ReadersOk (freeTransmitter p s) := k.aside rfl rfl
    refine of_next ?_ h
    split
    · exact (freed.kept (.freeStream p _ _)).conclude
    · exact k
  | sheetFetchComplete w d =>
    refine of_next ?_ h
    split
    · exact k
    · rename_i u taken
      obtain ⟨⟨a, b, rfl⟩, -⟩ := takeFetch_idle taken
      refine (fetchDone ?_ _ _ _).conclude
      exact k.aside rfl rfl
  | leafProgramWritten =>
    refine of_next ?_ h
    split
    · exact k
    · rename_i u taken
      obtain ⟨-, rfl⟩ := takeProgram_some taken
      refine (programWritten ?_ _).conclude
      exact k.aside rfl rfl
  | leafProgramFailed =>
    refine of_next ?_ h
    split
    · exact k
    · rename_i u taken
      obtain ⟨-, rfl⟩ := takeProgram_some taken
      refine (programFailed ?_ _).conclude
      exact k.aside rfl rfl
  | stripeEraseComplete e =>
    refine of_next ?_ h
    split
    · exact k
    · rename_i n u taken
      obtain ⟨-, rfl⟩ := takeErase_some taken
      refine conclude ?_
      split
      · refine eraseDone ?_ n
        exact k.aside rfl rfl
      · refine eraseFailed ?_ n
        exact k.aside rfl rfl
  | dayMark => exact of_next k.markDay h
  | tick =>
    refine of_next ?_ h
    split
    · exact k.kept (.riseTick s)
    · exact k
  | clockSaturated =>
    refine of_next ?_ h
    split
    · exact k.kept (.riseTick s)
    · exact k
  | countdownExpiry =>
    refine of_next ?_ h
    split
    · exact k.markDay
    · exact k
  | storeGuardAsserted => exact of_next (k.guardLine true) h
  | storeGuardReleased => exact of_next (k.guardLine false) h
  | linkReset p =>
    refine of_next ?_ h
    split
    · exact ((k.resetPort p).kept (.holdInStart p _)).conclude
    · exact k
  | breakEnd p =>
    refine of_next ?_ h
    split
    · exact k.kept ((ReadersKept.transmit p _).behind rfl rfl)
    · exact k
  | powerLoss =>
    refine of_next ?_ h
    split
    · exact k.loseVolatile false (Machine.loseVolatile s).control.resetLine
    · exact k
  | resetLineAsserted =>
    refine of_next ?_ h
    split
    · exact k
    · exact k.loseVolatile (Machine.loseVolatile s).control.powered true
  | powerApplied =>
    refine of_next ?_ h
    split
    · exact k
    · rename_i off
      have still : s.running = false := by simp [State.running, off]
      have inStart : (s.control.mode == .start) = true := (readersOk_iff.1 k).2.1.idle still
      simp only
      split
      · exact k.supplied still rfl (by simp only [State.holders, inStart])
      · exact k.supplied still rfl rfl
  | resetLineReleased =>
    refine of_next ?_ h
    split
    · rename_i off
      have still : s.running = false := by simp [State.running, off]
      have inStart : (s.control.mode == .start) = true := (readersOk_iff.1 k).2.1.idle still
      simp only
      split
      · exact k.supplied still rfl rfl
      · exact k.supplied still rfl (by simp only [State.holders, inStart])
    · exact k
  | startUpEnd =>
    refine of_next ?_ h
    split
    · rename_i begun
      simp only [Bool.and_eq_true, beq_iff_eq] at begun
      exact k.startUpEnd begun.2 begun.1
    · exact k
  | statementMove =>
    refine of_next ?_ h
    split
    · exact k.kept ((ReadersKept.moveStatement s).trans (.aside rfl rfl))
    · exact k

end ReadersOk

/-- Settles O14: what the blocks and most rules do touches no reader (`ReadersKept`); a stream that is accepted or ends takes its readers
along (`ReadersOk.acceptStream`, `ReadersOk.stream_leaves`, `ReadersOk.passBegins`, `ReadersOk.endPassSource`), and START has none. -/
theorem stepKeepsReaders : Obligations.StepKeepsReaders := by
  intro s t k h
  unfold step at h
  split at h
  · cases h; exact k
  · rename_i c rest _
    exact ReadersOk.exec (s := { s with pending := rest }) (k.aside rfl rfl) h

end Sys2Proof.Machine
end

section
/-! ReadIsAccepted, CancelStreamEndsTheStream, SentFramesMoveTheStreamOn: what one command makes of a port's streams (chapter 4). -/

namespace Sys2Proof.Machine

variable {s t : State} {f : Frame} {p : Port} {st : Stream} {a b rest : List Stream} {id : Nat}

/-! ### Acceptance (R67, R70, R71) -/

theorem effectiveLength_of_inside {body offset window size : Nat} (ho : offset < body) (hw : window ≤ body - offset)
    (hs : size = if window = 0 then body - offset else window) : effectiveLength body offset window = some size := by
  rw [effectiveLength, if_neg (Nat.not_le.2 ho), if_pos hw, hs]
  split <;> rfl

theorem readObject_of_accepted {w : WireKey} {source : Source} {offset window size : Nat} {e : Edition} {o : Object} {v : Version}
    (hseen : s.seeObject p w = .ok (e, o)) (hchosen : o.choose source = .ok v)
    (hsize : effectiveLength v.length offset window = some size) (room : (s.portStreams p).hasRoom = true)
    (free : (s.portStreams p).freeId = some id) :
    readObject p w source offset window s = (acceptStream p (newStream id .read o.key v offset size) s,
      ⟨.accepted, be 1 id ++ be 1 v.number ++ be 4 size⟩) := by
  simp only [readObject, hseen, hchosen, hsize, room, free, Bool.not_true, Bool.false_eq_true, if_false]

/-- Acceptance changes the store and the port's queue, which the stream joins at its end. -/
theorem acceptStream_rest (p : Port) (st : Stream) (s : State) : ∃ x : Store,
    acceptStream p st s = ({ s with store := x } : State).putPortStreams p
      { s.portStreams p with queue := (s.portStreams p).queue ++ [st] } := by
  obtain ⟨x, h⟩ := readersRise_store st.snapshot s
  exact ⟨x, by rw [acceptStream, h]; rfl⟩

/-- Each stripe of the accepted stream's snapshot gains one reader (R70). -/
theorem acceptStream_stripe (p : Port) (st : Stream) (ho : Table.Ordered s.store.stripes) (n : Nat) :
    (acceptStream p st s).stripe n
      = { s.stripe n with readers := (s.stripe n).readers + if n ∈ st.snapshot.map (·.stripe) then 1 else 0 } := by
  refine (readersRise_stripe st.snapshot ho n).trans ?_
  rw [naming_singleton, snapshotStripes]
  simp only [List.mem_dedup]

/-- Settles O29: READ's checks pass (`readObject_of_accepted`), and acceptance is a rise of the readers and a new record at the queue's
end. -/
theorem readIsAccepted : Obligations.ReadIsAccepted := by
  intro f w source offset window size id e o v s hadm hseen hchosen ho hw hsize hlen hid hfresh hlowest hord st
  have room : (s.portStreams f.port).hasRoom = true := decide_eq_true hlen
  have free : (s.portStreams f.port).freeId = some id := lowestFree_eq hid hfresh hlowest
  have rule := readObject_of_accepted hseen hchosen (effectiveLength_of_inside ho hw hsize) room free
  obtain ⟨x, accepted⟩ := acceptStream_rest f.port st s
  have record := fun n => acceptStream_stripe f.port st hord n
  refine ⟨acceptStream f.port st s, congrArg _ (serveSettling_of_rule hadm rule), ?_, fun n => ?_, fun n => ?_, ?_, ?_⟩
  · rw [accepted]
    exact congrArg PortStreams.queue (portStreams_putPortStreams_self f.port _ _)
  · rw [record]
  · rw [record]
  · rw [accepted]; rfl
  · rw [accepted]; rfl

/-! ### A stream of the queue by its id -/

theorem find_id_of_split (ha : ∀ x ∈ a, x.id ≠ st.id) : (a ++ st :: b).find? (fun x => x.id == st.id) = some st := by
  rw [List.find?_append, List.find?_eq_none.2 (by simpa using ha)]
  simp

theorem filter_id_of_split (h : ∀ x ∈ a ++ b, x.id ≠ st.id) : (a ++ st :: b).filter (fun x => x.id != st.id) = a ++ b := by
  rw [List.filter_append, List.filter_cons_of_neg (by simp), ← List.filter_append]
  exact List.filter_eq_self.2 fun x hx => by simpa using h x hx

/-! ### The end of a stream (R76) -/

/-- The record of an ended stream. -/
def Stream.endedAs (st : Stream) (kind : StreamKind) (final : Status) : Stream :=
  { st with kind := kind, send := none, ahead := none, fetch := .none, final := some final }

theorem endStream_portStreams (p : Port) (st : Stream) (kind : StreamKind) (final : Status) (s : State) :
    (endStream p st kind (some final) s).portStreams p
      = ⟨(s.portStreams p).queue.filter (fun x => x.id != st.id), (s.portStreams p).ended ++ [st.endedAs kind final]⟩ := by
  obtain ⟨x, h⟩ := endStream_some p st kind final s
  rw [h, portStreams_putPortStreams_self]
  rfl

theorem endStream_ledger (p : Port) (st : Stream) (kind : StreamKind) (final : Status) (s : State) :
    (endStream p st kind (some final) s).ledger = s.ledger := by
  obtain ⟨x, h⟩ := endStream_some p st kind final s
  rw [h]; rfl

theorem endStream_billing (p : Port) (st : Stream) (kind : StreamKind) (final : Status) (s : State) :
    (endStream p st kind (some final) s).billing = s.billing := by
  obtain ⟨x, h⟩ := endStream_some p st kind final s
  rw [h]; rfl

/-! ### CANCEL_STREAM (R78, R144, R146) -/

/-- CANCEL_STREAM of a listening port, by what its rule gives. -/
theorem exec_cancelStream {answer : Answer} (hl : Listening f.port s) (hm : s.control.mode ≠ .start) (hf : f.fits = true)
    (h : cancelStream f.port id s = (t, answer)) : exec (.cancelStream f id) s = .next (concluded f answer t) := by
  have everyPort : f.port ∈ allPorts := by cases f.port <;> decide
  exact congrArg _ (serveSettling_of_rule ⟨hl, everyPort, hm, hf⟩ h)

theorem cancelStream_of_queued (hq : (s.portStreams p).queue = a ++ st :: b) (ha : ∀ x ∈ a, x.id ≠ st.id) :
    cancelStream p st.id s = (cutStream p st .aborted .cancelStream s, plain .ok) := by
  simp only [cancelStream, hq, find_id_of_split ha]

theorem cancelStream_of_absent (hq : ∀ x ∈ (s.portStreams p).queue, x.id ≠ id) :
    cancelStream p id s = (s, plain (if (s.portStreams p).ended.any (fun st => st.id == id) then .wrongState else .notFound)) := by
  have absent : (s.portStreams p).queue.find? (fun st => st.id == id) = none := List.find?_eq_none.2 (by simpa using hq)
  simp only [cancelStream, absent, deny]
  split <;> rfl

theorem cutStream_of_notOrder (h : ∀ o, st.kind ≠ .order o) (final : Status) (c : ReleaseCause) :
    cutStream p st final c s = endStream p st st.kind (some final) s := by
  unfold cutStream; split
  · rename_i o ho; exact absurd ho (h o)
  · rfl

theorem cutStream_of_order {o : OrderPart} (h : st.kind = .order o) (final : Status) (c : ReleaseCause) :
    cutStream p st final c s
      = endStream p st (.order { o with cause := some c }) (some .released) (heldFalls o.account o.breakdown.fee s) := by
  simp only [cutStream, h]; rfl

/-- Settles O30: CANCEL_STREAM cuts the queue's stream of the id off, which ends it as a READ or releases it as an order. -/
theorem cancelStreamEndsTheStream : Obligations.CancelStreamEndsTheStream := by
  intro f id s hl hm hf ps unheld
  refine ⟨fun a st b hq hid hx => ?_, fun hq ⟨x, hx, hxid⟩ => ?_, fun hq he => ?_⟩
  · subst hid
    have cancelled := exec_cancelStream hl hm hf (cancelStream_of_queued hq fun x hx' => hx x (List.mem_append_left _ hx'))
    have queue : (s.portStreams f.port).queue.filter (fun x => x.id != st.id) = a ++ b :=
      (congrArg _ hq).trans (filter_id_of_split hx)
    have ends := fun k x (u : State) => endStream_portStreams f.port st k x u
    obtain ⟨o, ho⟩ | notOrder := Classical.em (∃ o, st.kind = .order o)
    · rw [cutStream_of_order ho] at cancelled
      have left := ends (.order { o with cause := some .cancelStream }) .released (heldFalls o.account o.breakdown.fee s)
      refine ⟨_, _, cancelled, (congrArg PortStreams.queue left).trans queue, congrArg PortStreams.ended left, rfl, rfl, rfl,
        fun read => ?_, fun o' ho' => ?_⟩
      · exact absurd (ho.symm.trans read) nofun
      · cases ho.symm.trans ho'
        exact ⟨rfl, rfl, rfl⟩
    · rw [cutStream_of_notOrder (not_exists.1 notOrder)] at cancelled
      have left := ends st.kind .aborted s
      exact ⟨_, _, cancelled, (congrArg PortStreams.queue left).trans queue, congrArg PortStreams.ended left, rfl, rfl, rfl,
        fun _ => ⟨rfl, endStream_ledger f.port st _ _ s⟩, fun o ho => absurd ⟨o, ho⟩ notOrder⟩
  · have held : (s.portStreams f.port).ended.any (fun st => st.id == id) = true := List.any_eq_true.2 ⟨x, hx, by simpa using hxid⟩
    have rule := cancelStream_of_absent (p := f.port) (s := s) hq
    rw [if_pos held] at rule
    exact exec_cancelStream hl hm hf rule
  · have free : ¬ (s.portStreams f.port).ended.any (fun st => st.id == id) = true := by simpa [State.portStreams] using he
    have rule := cancelStream_of_absent (p := f.port) (s := s) hq
    rw [if_neg free] at rule
    exact exec_cancelStream hl hm hf rule

/-! ### Sent frames (R74, R75) -/

/-- What a sent data frame changes in the record of its stream: the position, and the sheet buffers. -/
theorem advance_eq (n : Nat) (st : Stream) : ∃ send ahead,
    advance n st = { st with position := st.position + n, send := send, ahead := ahead } := by
  unfold advance; simp only; split
  · exact ⟨_, _, rfl⟩
  · split <;> exact ⟨_, _, rfl⟩

theorem advance_position (n : Nat) (st : Stream) : (advance n st).position = st.position + n := by
  obtain ⟨send, ahead, h⟩ := advance_eq n st; rw [h]

theorem advance_done (n : Nat) (st : Stream) : (advance n st).done = decide (st.offset + st.size ≤ st.position + n) := by
  obtain ⟨send, ahead, h⟩ := advance_eq n st; rw [h]; rfl

/-- The octets that a port's ACTIVE stream has sent count in its record, and the stream completes with its last one (R74, R75). -/
theorem creditFrame_of_active (hq : (s.portStreams p).queue = st :: rest) (hid : ∀ x ∈ rest, x.id ≠ st.id) (n : Nat) :
    creditFrame p st.id n s = if (advance n st).done then completeStream p (advance n st) (mapActive p (advance n) s)
      else mapActive p (advance n) s := by
  have own : (advance n st).id = st.id := Narrows.advance_id n st
  have others : rest.map (replaceStream (advance n st)) = rest := by
    refine (List.map_congr_left fun x hx => ?_).trans (List.map_id _)
    exact if_neg (own ▸ hid x hx)
  have first : replaceStream (advance n st) st = advance n st := if_pos own.symm
  have found : (st :: rest).find? (fun x => x.id == st.id) = some st := List.find?_cons_of_pos (by simp)
  rw [mapActive_cons _ hq]
  simp only [creditFrame, hq, found, List.map_cons, others, first]
  rfl

/-- The house counts a read (R75). -/
def State.countRead (s : State) : State :=
  { s with billing.reads := (rise24 s.billing.reads 1).1, billing.overflow := s.billing.overflow || (rise24 s.billing.reads 1).2 }

/-- A READ that completes ends OK and is counted. -/
theorem completeStream_of_read (h : st.kind = .read) : completeStream p st s = endStream p st .read (some .ok) s.countRead := by
  simp only [completeStream, h, State.countRead]

theorem exec_dataFrameSent {offset : Nat} {octets : List Octet} (h : (s.links.get p).sending = some (.data id offset octets)) :
    exec (.dataFrameSent p) s = .next (conclude (creditFrame p id octets.length (freeTransmitter p s))) := by
  show Host.Outcome.next _ = _
  rw [h]

theorem freeStream_portStreams (p : Port) (id : Nat) (s : State) : (freeStream p id s).portStreams p
    = ⟨(s.portStreams p).queue, (s.portStreams p).ended.filter (fun x => x.id != id)⟩ := portStreams_putPortStreams_self ..

theorem exec_endFrameSent (h : (s.links.get p).sending = some (.ending id)) :
    exec (.endFrameSent p) s = .next (conclude (freeStream p id (freeTransmitter p s))) := by
  show Host.Outcome.next _ = _
  rw [h]

theorem freeTransmitter_sending (p : Port) (s : State) : ((freeTransmitter p s).links.get p).sending = none :=
  congrArg Link.sending (PerPort.get_set_self ..)

/-- Settles O32: a sent data frame advances the ACTIVE stream's record (`creditFrame_of_active`), whose last one completes a READ
(`completeStream_of_read`). -/
theorem sentFramesMoveTheStreamOn : Obligations.SentFramesMoveTheStreamOn := by
  intro p s reads passed counted
  refine ⟨fun st rest offset octets sent hq hid short => ?_, fun st rest offset octets sent hq hid hread last => ?_, fun id sent => ?_⟩
  · have credited := creditFrame_of_active (s := freeTransmitter p s) hq hid octets.length
    rw [advance_done, if_neg (by simpa using short), mapActive_cons (s := freeTransmitter p s) _ hq] at credited
    have moved := exec_dataFrameSent sent
    rw [credited] at moved
    have queue := congrArg PortStreams.queue (portStreams_putPortStreams_self p
      ⟨advance octets.length st :: rest, (s.portStreams p).ended⟩ (freeTransmitter p s))
    exact ⟨_, _, moved, queue, advance_position _ st, advance_snapshot _ st, Narrows.advance_id _ st, advance_kind _ st, rfl, rfl, rfl⟩
  · have credited := creditFrame_of_active (s := freeTransmitter p s) hq hid octets.length
    have read : (advance octets.length st).kind = .read := (advance_kind _ st).trans hread
    have own : (advance octets.length st).id = st.id := Narrows.advance_id _ st
    rw [advance_done, if_pos (by simpa using last), mapActive_cons (s := freeTransmitter p s) _ hq,
      completeStream_of_read read] at credited
    have completed := exec_dataFrameSent sent
    rw [credited] at completed
    generalize hu : ((freeTransmitter p s).putPortStreams p
      ⟨advance octets.length st :: rest, ((freeTransmitter p s).streams.ports.get p).ended⟩).countRead = u at completed
    have streams : u.portStreams p = ⟨advance octets.length st :: rest, (s.portStreams p).ended⟩ := by
      rw [← hu]; exact portStreams_putPortStreams_self p _ (freeTransmitter p s)
    have left := endStream_portStreams p (advance octets.length st) .read .ok u
    have others : (advance octets.length st :: rest).filter (fun x => x.id != (advance octets.length st).id) = rest :=
      filter_id_of_split (a := []) fun x hx => own ▸ hid x hx
    rw [streams, others] at left
    refine ⟨_, _, completed, congrArg PortStreams.queue left, congrArg PortStreams.ended left, own, rfl, advance_position _ st, ?_, ?_⟩
    · rw [endStream_ledger, ← hu]; rfl
    · rw [endStream_billing, ← hu]; rfl
  · have freed := freeStream_portStreams p id (freeTransmitter p s)
    have queue := congrArg PortStreams.queue freed
    have ended := congrArg PortStreams.ended freed
    exact ⟨_, exec_endFrameSent sent, freeTransmitter_sending p s, queue, ended, rfl, rfl, rfl⟩

end Sys2Proof.Machine
end

section
/-! VictimsAreChosenInOrder: which stripes are movable, and which of them a choice takes (chapter 5.1, 5.2). -/

namespace Sys2Proof.Machine

variable {s : State} {l : Table Stripe} {e : Nat × Stripe} {measure : Stripe → Nat}

/-! ### Movability (R86) -/

theorem mem_damagedStripes {n : Nat} : n ∈ s.damagedStripes ↔
    ∃ x ∈ s.catalog.objects, ∃ v ∈ x.2.versions, v.damaged = true ∧ ∃ e ∈ v.extents, e.stripe = n := by
  simp only [State.damagedStripes, List.mem_map, List.mem_flatMap, List.mem_filter]
  constructor
  · rintro ⟨e, ⟨x, hx, v, ⟨hv, hd⟩, he⟩, hn⟩
    exact ⟨x, hx, v, hv, hd, e, he, hn⟩
  · rintro ⟨x, hx, v, hv, hd, e, he, hn⟩
    exact ⟨e, ⟨x, hx, v, ⟨hv, hd⟩, he⟩, hn⟩

theorem mem_provisionalStripes {n : Nat} : n ∈ s.provisionalStripes ↔
    (∃ x ∈ s.intake.provisional, ∃ e ∈ x.2, e.stripe = n) ∨ ∃ e ∈ s.passes.output, e.stripe = n := by
  simp only [State.provisionalStripes, List.map_append, List.mem_append, List.mem_map, List.mem_flatMap]
  refine or_congr_left ⟨?_, ?_⟩
  · rintro ⟨e, ⟨x, hx, he⟩, hn⟩
    exact ⟨x, hx, e, he, hn⟩
  · rintro ⟨x, hx, e, he, hn⟩
    exact ⟨e, ⟨x, hx, he⟩, hn⟩

theorem movable_iff {n : Nat} : s.movable n = true ↔
    (s.stripe n).state = .full ∧ 0 < (s.stripe n).live ∧ n ∉ s.provisionalStripes ∧ n ∉ s.damagedStripes := by
  simp [State.movable, and_assoc]

/-- A stripe without a record of its own is DIRTY, and so not movable. -/
theorem mem_movables (ho : Table.Ordered s.store.stripes) : e ∈ s.movables ↔ s.movable e.1 = true ∧ e.2 = s.stripe e.1 := by
  rw [State.movables, List.mem_filter]
  constructor
  · rintro ⟨hm, hv⟩
    exact ⟨hv, (stripe_of_mem ho hm).symm⟩
  · rintro ⟨hv, he⟩
    refine ⟨?_, hv⟩
    cases hg : tget s.store.stripes e.1 with
    | none =>
      have dirty : s.stripe e.1 = Stripe.formatted := by rw [State.stripe, tgetD, hg]; rfl
      rw [movable_iff, dirty] at hv
      cases hv.1
    | some r =>
      have hr : s.stripe e.1 = r := by rw [State.stripe, tgetD, hg]; rfl
      have hm := mem_of_tget hg
      rwa [← hr, ← he] at hm

theorem mem_movables_of_movable {n : Nat} (ho : Table.Ordered s.store.stripes) (h : s.movable n = true) :
    (n, s.stripe n) ∈ s.movables := (mem_movables ho).2 ⟨h, rfl⟩

theorem ordered_movables (ho : Table.Ordered s.store.stripes) : Table.Ordered s.movables := ordered_filter ho _

theorem movables_eq_nil (ho : Table.Ordered s.store.stripes) (h : ∀ n, s.movable n ≠ true) : s.movables = [] :=
  List.eq_nil_iff_forall_not_mem.2 fun e he => h e.1 ((mem_movables ho).1 he).1

/-! ### The lowest and the least of a table -/

/-- In a table the first record that a predicate picks is the one with the lowest key. -/
theorem find?_of_lowest {p : Nat × Stripe → Bool} (ho : Table.Ordered l) (he : e ∈ l) (hp : p e = true)
    (hlow : ∀ x ∈ l, x.1 < e.1 → p x = false) : l.find? p = some e := by
  induction l with
  | nil => cases he
  | cons y l ih =>
    obtain ⟨hy, ho⟩ := ordered_cons.1 ho
    rcases List.mem_cons.1 he with rfl | he
    · exact List.find?_cons_of_pos hp
    · rw [List.find?_cons_of_neg (by simp [hlow y (by simp) (hy e he)])]
      exact ih ho he fun x hx => hlow x (by simp [hx])

theorem leastBy_eq_none (h : leastBy measure l = none) : l = [] := by
  cases l with
  | nil => rfl
  | cons e l =>
    simp only [leastBy] at h
    split at h
    · cases h
    · split at h <;> cases h

theorem leastBy_some (h : leastBy measure l = some e) : e ∈ l ∧ ∀ x ∈ l, measure e.2 ≤ measure x.2 := by
  induction l generalizing e with
  | nil => cases h
  | cons y l ih =>
    cases hb : leastBy measure l with
    | none =>
      obtain rfl := leastBy_eq_none hb
      cases h
      simp
    | some b =>
      obtain ⟨hbl, hleast⟩ := ih hb
      simp only [leastBy, hb] at h
      split at h <;> cases h <;> simp only [List.mem_cons, forall_eq_or_imp]
      · rename_i hle
        exact ⟨.inl trivial, Nat.le_refl _, fun x hx => hle.trans (hleast x hx)⟩
      · rename_i hgt
        exact ⟨.inr hbl, Nat.le_of_not_le hgt, hleast⟩

/-- Of the records with the least measure `leastBy` takes the one with the lowest key. -/
theorem leastBy_of_least (ho : Table.Ordered l) (he : e ∈ l)
    (hleast : ∀ x ∈ l, measure e.2 < measure x.2 ∨ (measure e.2 = measure x.2 ∧ e.1 ≤ x.1)) : leastBy measure l = some e := by
  induction l with
  | nil => cases he
  | cons y l ih =>
    obtain ⟨hy, ho⟩ := ordered_cons.1 ho
    rcases List.mem_cons.1 he with rfl | he
    · cases hb : leastBy measure l with
      | none => simp only [leastBy, hb]
      | some b =>
        have hle : measure e.2 ≤ measure b.2 := by
          have := hleast b (by simp [(leastBy_some hb).1])
          omega
        simp only [leastBy, hb, if_pos hle]
    · have hb := ih ho he fun x hx => hleast x (by simp [hx])
      have hgt : ¬ measure y.2 ≤ measure e.2 := by
        have h1 := hleast y (by simp)
        have h2 := hy e he
        omega
      simp only [leastBy, hb, if_neg hgt]

/-! ### The choice (R87 to R89) -/

theorem choose_of_worn (h : s.movables.find? (fun e => e.2.retirePending) = some e) : s.choose = .victim e.1 .retire := by
  simp only [State.choose, h]

theorem choose_of_short (hw : s.movables.find? (fun e => e.2.retirePending) = none) (hl : s.storeLow = true)
    (h : leastBy (·.live) s.movables = some e) :
    s.choose = if e.2.live = Config.leavesPerStripe then .blocked else .victim e.1 .reclaim := by
  simp only [State.choose, hw, hl, h, if_true]

theorem choose_of_short_none (hl : s.storeLow = true) (h : s.movables = []) : s.choose = .nothing := by
  simp [State.choose, h, hl, leastBy]

/-- The movable stripes that have lain unrefreshed for retention days (R89). -/
def State.oldMovables (s : State) : Table Stripe :=
  s.movables.filter (fun e => e.2.programDay + s.control.settings.retentionDays ≤ s.today)

theorem mem_oldMovables (ho : Table.Ordered s.store.stripes) : e ∈ s.oldMovables ↔
    (s.movable e.1 = true ∧ (s.stripe e.1).programDay + s.control.settings.retentionDays ≤ s.clock.day) ∧ e.2 = s.stripe e.1 := by
  rw [State.oldMovables, List.mem_filter, mem_movables ho, decide_eq_true_iff]
  constructor
  · rintro ⟨⟨hm, he⟩, hd⟩
    exact ⟨⟨hm, he ▸ hd⟩, he⟩
  · rintro ⟨⟨hm, hd⟩, he⟩
    exact ⟨⟨hm, he⟩, he ▸ hd⟩

theorem choose_of_ample (hw : s.movables.find? (fun e => e.2.retirePending) = none) (hl : s.storeLow = false)
    (h : leastBy (·.programDay) s.oldMovables = some e) : s.choose = .victim e.1 .refresh := by
  rw [State.oldMovables] at h
  simp only [State.choose, hw, hl, h, Bool.false_eq_true, if_false]

theorem choose_of_ample_none (hw : s.movables.find? (fun e => e.2.retirePending) = none) (hl : s.storeLow = false)
    (h : s.oldMovables = []) : s.choose = .nothing := by
  rw [State.oldMovables] at h
  simp only [State.choose, hw, hl, h, leastBy, Bool.false_eq_true, if_false]

/-! ### When a choice is made (R85, R96) -/

theorem makeChoice_of_held (h : s.control.mode ≠ .normal ∨ s.store.guardAsserted = true) : makeChoice s = s := by
  have : (s.control.mode != .normal || s.store.guardAsserted) = true := by simpa using h
  rw [makeChoice, if_pos this]

theorem makeChoice_of_free (hm : s.control.mode = .normal) (hg : s.store.guardAsserted = false) :
    (s.choose = .nothing → makeChoice s = s) ∧
    (s.choose = .blocked → makeChoice s = { s with relocation.blocked := true }) ∧
    (∀ n cause, s.choose = .victim n cause →
      makeChoice s = lookNext ⟨n, cause, none⟩ { s with relocation := ⟨some ⟨n, cause, none⟩, false⟩ }) := by
  have : ¬ (s.control.mode != .normal || s.store.guardAsserted) = true := by simp [hm, hg]
  refine ⟨fun h => ?_, fun h => ?_, fun n cause h => ?_⟩ <;> simp only [makeChoice, if_neg this, h]

theorem clearBlocked_blocked (s : State) :
    (clearBlocked s).relocation.blocked = (s.relocation.blocked && decide (s.store.freeQueue.length < s.control.settings.lowMark)) := by
  unfold clearBlocked State.storeLow
  by_cases h : s.store.freeQueue.length < s.control.settings.lowMark <;> simp [h]

/-! ### The statement -/

/-- Settles O57: a predicate over the movable stripes is one over the records of `movables` (`mem_movables`), among which `find?` takes the
lowest (`find?_of_lowest`) and `leastBy` the lowest of the least (`leastBy_of_least`). -/
theorem victimsAreChosenInOrder : Obligations.VictimsAreChosenInOrder := by
  intro s ho r damaged provisional movable worn old low
  have hmov : ∀ n, s.movable n = true ↔ movable n := fun n => by
    rw [movable_iff, mem_provisionalStripes, mem_damagedStripes]
  have hlist : ∀ e ∈ s.movables, movable e.1 ∧ e.2 = r e.1 := fun e he =>
    ((mem_movables ho).1 he).imp_left (hmov e.1).1
  have listed : ∀ n, movable n → (n, r n) ∈ s.movables := fun n hn => mem_movables_of_movable ho ((hmov n).2 hn)
  have unworn : (∀ n, ¬worn n) → s.movables.find? (fun e => e.2.retirePending) = none := fun hw =>
    List.find?_eq_none.2 fun e he hp => hw e.1 ⟨(hlist e he).1, (hlist e he).2 ▸ hp⟩
  refine ⟨hmov, fun n hn hlow => ?_, fun hw hl => ⟨fun n hn h96 hleast => ?_, fun n hn h96 hleast => ?_, fun hnone => ?_⟩,
    fun hw hl => ⟨fun n hn hleast => ?_, fun hnone => ?_⟩, makeChoice_of_free, makeChoice_of_held, clearBlocked_blocked s⟩
  · exact choose_of_worn (find?_of_lowest (ordered_movables ho) (listed n hn.1) hn.2 fun x hx hlt =>
      Bool.eq_false_iff.2 fun hp => hlow x.1 hlt ⟨(hlist x hx).1, (hlist x hx).2 ▸ hp⟩)
  · have h : leastBy (·.live) s.movables = some (n, r n) :=
      leastBy_of_least (ordered_movables ho) (listed n hn) fun x hx => (hlist x hx).2 ▸ hleast x.1 (hlist x hx).1
    rw [choose_of_short (unworn hw) (decide_eq_true hl) h, if_neg h96]
  · cases he : leastBy (·.live) s.movables with
    | none => exact absurd (leastBy_eq_none he) (List.ne_nil_of_mem (listed n hn))
    | some e =>
      obtain ⟨hem, hle⟩ := leastBy_some he
      have hmost : e.2.live ≤ 96 := h96 ▸ hle _ (listed n hn)
      have hfew : 96 ≤ e.2.live := (hlist e hem).2 ▸ hleast e.1 (hlist e hem).1
      rw [choose_of_short (unworn hw) (decide_eq_true hl) he, if_pos (Nat.le_antisymm hmost hfew)]
  · exact choose_of_short_none (decide_eq_true hl) (movables_eq_nil ho fun n hn => hnone n ((hmov n).1 hn))
  · have h : leastBy (·.programDay) s.oldMovables = some (n, r n) :=
      leastBy_of_least (ordered_filter (ordered_movables ho) _) ((mem_oldMovables ho).2 ⟨hn.imp_left (hmov n).2, rfl⟩) fun x hx => by
        obtain ⟨hx, he⟩ := (mem_oldMovables ho).1 hx
        exact he ▸ hleast x.1 (hx.imp_left (hmov x.1).1)
    exact choose_of_ample (unworn hw) (decide_eq_false hl) h
  · refine choose_of_ample_none (unworn hw) (decide_eq_false hl) (List.eq_nil_iff_forall_not_mem.2 fun e he => ?_)
    exact hnone e.1 (((mem_oldMovables ho).1 he).1.imp_left (hmov e.1).1)

end Sys2Proof.Machine
end

section
/-! ExtentsAreCopiedAndCommitted: the engine's look for the next extent, the fetches of a copy, and where its programs land (chapter 5.3). -/

namespace Sys2Proof.Machine

variable {s : State} {r : Round} {c : Copy} {n : Nat}

/-! ### The extents of a stripe (R90) -/

/-- A site gives the place and the leaf base of its extent in the list it was found in. -/
theorem sitesIn_place {k : Key} {v : Version} {i b : Nat} {es : List Extent} {x : Site} (h : x ∈ sitesIn n k v i b es) :
    x.key = k ∧ x.version = v.number ∧ x.serial = v.serial ∧ x.extent.stripe = n ∧
    ∃ j, x.index = i + j ∧ es[j]? = some x.extent ∧ x.leafBase = b + leavesIn (es.take j) := by
  induction es generalizing i b with
  | nil => cases h
  | cons e es ih =>
    have later (h : x ∈ sitesIn n k v (i + 1) (b + e.count) es) : x.key = k ∧ x.version = v.number ∧ x.serial = v.serial ∧
        x.extent.stripe = n ∧ ∃ j, x.index = i + j ∧ (e :: es)[j]? = some x.extent ∧
          x.leafBase = b + leavesIn ((e :: es).take j) := by
      obtain ⟨hk, hv, hs, hn, j, hi, hj, hb⟩ := ih h
      refine ⟨hk, hv, hs, hn, j + 1, by omega, by simpa using hj, ?_⟩
      rw [hb]
      simp [leavesIn, Nat.add_assoc]
    simp only [sitesIn] at h
    split at h
    · rename_i hn
      rcases List.mem_cons.1 h with rfl | h
      · exact ⟨rfl, rfl, rfl, hn, 0, rfl, rfl, rfl⟩
      · exact later h
    · exact later h

theorem sitesIn_of_extent {k : Key} {v : Version} {i b : Nat} {es : List Extent} {e : Extent} (he : e ∈ es) (hn : e.stripe = n) :
    ∃ x ∈ sitesIn n k v i b es, x.extent = e := by
  induction es generalizing i b with
  | nil => cases he
  | cons y es ih =>
    simp only [sitesIn]
    rcases List.mem_cons.1 he with rfl | he
    · rw [if_pos hn]
      exact ⟨_, List.mem_cons_self, rfl⟩
    · obtain ⟨x, hx, hxe⟩ := ih (i := i + 1) (b := b + y.count) he
      refine ⟨x, ?_, hxe⟩
      split
      · exact List.mem_cons_of_mem _ hx
      · exact hx

theorem sites_of_extent {e : Extent} (he : e ∈ s.catalogExtents) (hn : e.stripe = n) : ∃ x ∈ s.sites n, x.extent = e := by
  obtain ⟨o, ho, he⟩ := List.mem_flatMap.1 he
  obtain ⟨v, hv, he⟩ := List.mem_flatMap.1 he
  obtain ⟨x, hx, hxe⟩ := sitesIn_of_extent (k := o.2.key) (v := v) (i := 0) (b := 0) he hn
  exact ⟨x, List.mem_flatMap.2 ⟨o, ho, List.mem_flatMap.2 ⟨v, hv, hx⟩⟩, hxe⟩

theorem lowestSite_eq_none {l : List Site} (h : lowestSite l = none) : l = [] := by
  cases l with
  | nil => rfl
  | cons e l =>
    simp only [lowestSite] at h
    split at h
    · cases h
    · split at h <;> cases h

theorem lowestSite_least {l : List Site} {b : Site} (h : lowestSite l = some b) : ∀ x ∈ l, b.extent.first ≤ x.extent.first := by
  induction l generalizing b with
  | nil => cases h
  | cons y l ih =>
    cases hb : lowestSite l with
    | none =>
      obtain rfl := lowestSite_eq_none hb
      cases h
      simp
    | some z =>
      have hz := ih hb
      simp only [lowestSite, hb] at h
      split at h <;> cases h <;> simp only [List.mem_cons, forall_eq_or_imp]
      · rename_i hle
        exact ⟨Nat.le_refl _, fun x hx => hle.trans (hz x hx)⟩
      · rename_i hgt
        exact ⟨Nat.le_of_not_le hgt, hz⟩

/-! ### The look (R90) -/

theorem live_of_movable (h : s.movable n = true) : (s.stripe n).live ≠ 0 := Nat.pos_iff_ne_zero.1 (movable_iff.1 h).2.1

theorem lookNext_of_unmovable (h : (s.stripe r.victim).live = 0 ∨ s.movable r.victim = false) : lookNext r s = s.putRound none := by
  unfold lookNext
  exact if_pos (by simpa using h)

theorem lookNext_of_guard (hm : s.movable r.victim = true) (hg : s.store.guardAsserted = true) :
    lookNext r s = s.putRound (some { r with copy := none }) := by
  simp [lookNext, hm, live_of_movable hm, hg]

theorem lookNext_of_site {t : Site} (hm : s.movable r.victim = true) (hg : s.store.guardAsserted = false)
    (ht : lowestSite (s.sites r.victim) = some t) : lookNext r s = s.putRound (some { r with copy := some (copyOf t) }) := by
  simp [lookNext, hm, live_of_movable hm, hg, ht]

/-- A copy as the look begins it for the victim's extent with the lowest first leaf. -/
structure Begun (s : State) (victim : Nat) (c : Copy) : Prop where
  stripe : c.source.stripe = victim
  lowest : ∀ e ∈ s.catalogExtents, e.stripe = victim → c.source.first ≤ e.first
  version : ∃ x ∈ s.catalog.objects, ∃ v ∈ x.2.versions, c.key = x.2.key ∧ c.version = v.number ∧ c.serial = v.serial ∧
    v.extents[c.index]? = some c.source ∧ c.leafBase = leavesIn (v.extents.take c.index)

theorem begun_of_lowestSite {t : Site} (h : lowestSite (s.sites n) = some t) : Begun s n (copyOf t) := by
  obtain ⟨x, hx, ht⟩ := List.mem_flatMap.1 (lowestSite_mem h)
  obtain ⟨v, hv, ht⟩ := List.mem_flatMap.1 ht
  obtain ⟨hkey, hversion, hserial, hstripe, j, hindex, hextent, hbase⟩ := sitesIn_place ht
  rw [Nat.zero_add] at hindex hbase
  subst hindex
  refine ⟨hstripe, fun e he hn => ?_, x, hx, v, hv, hkey, hversion, hserial, hextent, hbase⟩
  obtain ⟨y, hy, rfl⟩ := sites_of_extent he hn
  exact lowestSite_least h y hy

theorem lookNext_begins (hm : s.movable r.victim = true) (hg : s.store.guardAsserted = false)
    (he : ∃ e ∈ s.catalogExtents, e.stripe = r.victim) :
    ∃ t, lookNext r s = s.putRound (some { r with copy := some (copyOf t) }) ∧ Begun s r.victim (copyOf t) := by
  cases h : lowestSite (s.sites r.victim) with
  | none =>
    obtain ⟨e, he, hn⟩ := he
    obtain ⟨x, hx, -⟩ := sites_of_extent he hn
    exact absurd (lowestSite_eq_none h) (List.ne_nil_of_mem hx)
  | some t => exact ⟨t, lookNext_of_site hm hg h, begun_of_lowestSite h⟩

theorem engineOnce_of_paused (hr : s.relocation.round = some { r with copy := none }) (hg : s.store.guardAsserted = true) :
    engineOnce s = s := by
  simp only [engineOnce, hr, hg, if_true]

/-! ### The fetches of a copy (R91, R93) -/

theorem mapCopy_of_copy (g : Copy → Copy) (hr : s.relocation.round = some { r with copy := some c }) :
    mapCopy g s = s.putRound (some { r with copy := some (g c) }) := by
  simp only [mapCopy, hr, Option.map_some]

theorem copy_of_round (hr : s.relocation.round = some { r with copy := some c }) : s.copy = some c := by
  simp [State.copy, hr]

/-- A copy with a SOUND sheet body in its buffer. -/
def fetchedCopy (w : Wing) (body : List Octet) (c : Copy) : Copy :=
  match w with
  | .low => { c with low := body, step := .fetchHigh, request := .pending }
  | .high => { c with high := body, step := .program, request := .none }

/-- The sheet that a completed fetch brings. -/
def deliveredSheet (w : Wing) (delivered : Option Sheet) (op : FetchOp) (s : State) : Sheet :=
  delivered.getD (s.sheetAt op.stripe op.place w)

section Fetching

variable {w : Wing} {op : FetchOp} {other : Option FetchOp} {delivered : Option Sheet}
  (hw : s.store.wings = match w with | .low => Wings.split (some op) other | .high => Wings.split other (some op))
  (hop : op.owner = .relocation) (hr : s.relocation.round = some { r with copy := some c })
include hw hop hr

/-- A SOUND sheet of the copy enters its buffer, and the next request follows. -/
theorem exec_fetch_sound (h : sound op.key op.version op.leaf w (deliveredSheet w delivered op s) = true) :
    exec (.sheetFetchComplete w delivered) s = .next (conclude ((fetchIdle w other s).putRound
      (some { r with copy := some (fetchedCopy w (deliveredSheet w delivered op s).body c) }))) := by
  have fetched : fetchDone w delivered op (fetchIdle w other s)
      = copyFetched w (deliveredSheet w delivered op s).body (fetchIdle w other s) := by
    rw [fetchDone_eq]
    refine (if_pos h).trans ?_
    rw [soundFetch, hop]
    rfl
  rw [exec_sheetFetchComplete delivered hw, fetched, copyFetched, mapCopy_of_copy _ (s := fetchIdle w other s) hr]
  rfl

/-- A DAMAGED sheet of the copy marks its version and ends the round. -/
theorem exec_fetch_damaged {o : Object} {v : Version}
    (h : sound op.key op.version op.leaf w (deliveredSheet w delivered op s) = false) (ho : s.object c.key = some o)
    (hv : s.held c.key c.version c.serial = some v) (hg : v.damaged = false) (hflag : s.control.settings.damageAction = .flag) :
    exec (.sheetFetchComplete w delivered) s = .next (conclude ((notifyAll .damageFound deskAndBench ((fetchIdle w other s).putObject
      (mapVersion c.version c.serial (fun v => { v with damaged := true }) o))).putRound none)) := by
  have fetched : fetchDone w delivered op (fetchIdle w other s) = damagedFetch op (fetchIdle w other s) := by
    rw [fetchDone_eq]
    exact if_neg (Bool.eq_false_iff.1 h)
  have copying : (fetchIdle w other s).copy = some c := copy_of_round hr
  rw [exec_sheetFetchComplete delivered hw, fetched]
  simp only [damagedFetch, hop, copying, reportDamage, markDamaged_eq (s := fetchIdle w other s) ho hv hg]
  rw [damageAction_flag]
  rw [putRound_control, notifyAll_control]
  exact hflag

end Fetching

/-! ### The place of a copy (R92) -/

theorem frontStripe_of_opened {f : Front} (ho : Table.Ordered s.store.stripes) (h : ∀ k, (s.stripe k).state = .opened f ↔ k = n) :
    s.frontStripe f = some (n, s.stripe n) := by
  cases hf : s.frontStripe f with
  | none => exact absurd ((h n).2 rfl) (frontStripe_none hf n)
  | some e =>
    obtain ⟨hq, hs⟩ := frontStripe_some ho hf
    obtain rfl := (h e.1).1 (hq ▸ hs)
    rw [hq]

theorem frontStripe_eq_none {f : Front} (ho : Table.Ordered s.store.stripes) (h : ∀ k, (s.stripe k).state ≠ .opened f) :
    s.frontStripe f = none := by
  cases hf : s.frontStripe f with
  | none => rfl
  | some e =>
    obtain ⟨hq, hs⟩ := frontStripe_some ho hf
    exact absurd (hq ▸ hs) (h e.1)

theorem openStripe_stripe {f : Front} {m : Nat} {rest : List Nat} (ho : Table.Ordered s.store.stripes)
    (hq : s.store.freeQueue = m :: rest) :
    (openStripe f s).stripe = Function.update s.stripe m (openedStripe f s.today (s.stripe m)) := by
  rw [openStripe_cons hq]
  exact stripe_mapStripe (s := { s with store.freeQueue := rest }) ho m _

/-- The stripe that a front without one opens is the one it then holds. -/
theorem openStripe_frontStripe {f : Front} {m : Nat} {rest : List Nat} (ho : Table.Ordered s.store.stripes)
    (hq : s.store.freeQueue = m :: rest) (h : ∀ k, (s.stripe k).state ≠ .opened f) :
    (openStripe f s).frontStripe f = some (m, openedStripe f s.today (s.stripe m)) := by
  have stripe := openStripe_stripe (f := f) ho hq
  have ordered : Table.Ordered (openStripe f s).store.stripes := by
    rw [openStripe_cons hq]; exact ordered_mapStripe (s := { s with store.freeQueue := rest }) ho _ _
  rw [frontStripe_of_opened (n := m) ordered fun k => ?_, stripe, Function.update_self]
  rw [stripe, Function.update_apply]
  split
  · simp [openedStripe, *]
  · simp [h k, *]

section Placing

variable (hp : s.programInFlight .relocate = false) (hs : s.isStalled .relocate = false)
include hp hs

theorem presentCopy_of_ready (r : Round) (c : Copy) : presentCopy r c s = placedCopy r c (closedFront c s) := by
  rw [presentCopy_eq, hp, hs]
  rfl

/-- An extent that fits the front's stripe is placed at its first unwritten leaf. -/
theorem presentCopy_of_fits {t : Stripe} (hf : s.frontStripe .relocate = some (n, t)) (hfit : t.written + c.source.count ≤ 96) :
    presentCopy r c s = presentAt r c n t s := by
  have hopen : closedFront c s = s := by
    have : ¬ (c.copied = 0 ∧ Config.leavesPerStripe - t.written < c.source.count) := fun h => by
      have hlt : 96 - t.written < c.source.count := h.2
      omega
    simp only [closedFront, hf, if_neg this]
  rw [presentCopy_of_ready hp hs, hopen]
  simp only [placedCopy, hf]

/-- An extent that does not fit the front's stripe closes it, and is placed at the start of the next free one. -/
theorem presentCopy_of_short {m : Nat} {rest : List Nat} (ho : Table.Ordered s.store.stripes) (hc : c.copied = 0)
    (hf : ∀ k, (s.stripe k).state = .opened .relocate ↔ k = n) (hfull : (s.stripe n).written ≤ 96)
    (hshort : 96 < (s.stripe n).written + c.source.count) (hq : s.store.freeQueue = m :: rest) :
    presentCopy r c s = presentAt r c m (openedStripe .relocate s.today ((s.mapStripe n fun t => { t with state := .full }).stripe m))
      (openStripe .relocate (s.mapStripe n fun t => { t with state := .full })) := by
  generalize hu : s.mapStripe n (fun t => { t with state := .full }) = u
  have hclosed : closedFront c s = u := by
    have : c.copied = 0 ∧ Config.leavesPerStripe - (s.stripe n).written < c.source.count :=
      ⟨hc, by show 96 - _ < _; omega⟩
    simp only [closedFront, frontStripe_of_opened ho hf, if_pos this, hu]
  have hou : Table.Ordered u.store.stripes := hu ▸ ordered_mapStripe ho _ _
  have hqu : u.store.freeQueue = m :: rest := by rw [← hu]; exact hq
  have hnone : ∀ k, (u.stripe k).state ≠ .opened .relocate := fun k => by
    rw [← hu, stripe_mapStripe ho, Function.update_apply]
    split
    · simp
    · rename_i hk
      exact fun h => hk ((hf k).1 h)
  have hmay : u.mayOpen .relocate = true := by simp [State.mayOpen, hqu]
  have htoday : u.today = s.today := by rw [← hu]; rfl
  rw [presentCopy_of_ready hp hs, hclosed]
  simp only [placedCopy, frontStripe_eq_none hou hnone, hmay, if_true, openStripe_frontStripe hou hqu hnone, htoday]

/-- What an extent leaves that did not fit the stripe `n` and starts the free stripe `m` (R14, R18). -/
structure PlacedNext (r : Round) (c : Copy) (n m : Nat) (rest : List Nat) (s t : State) : Prop where
  round : t.relocation.round = some { r with copy := some { c with dest := some (m, 0), request := .pending } }
  closed : t.stripe n = { s.stripe n with state := .full }
  queue : t.store.freeQueue = rest
  opened : t.stripe m = openedStripe .relocate s.today (s.stripe m)

theorem placedNext {m : Nat} {rest : List Nat} (ho : Table.Ordered s.store.stripes) (hc : c.copied = 0) (hd : c.dest = none)
    (hf : ∀ k, (s.stripe k).state = .opened .relocate ↔ k = n) (hfull : (s.stripe n).written ≤ 96)
    (hshort : 96 < (s.stripe n).written + c.source.count) (hq : s.store.freeQueue = m :: rest) (hne : m ≠ n) :
    PlacedNext r c n m rest s (presentCopy r c s) := by
  have closed := stripe_mapStripe ho n fun t => { t with state := .full }
  rw [presentCopy_of_short hp hs ho hc hf hfull hshort hq, closed, Function.update_of_ne hne]
  generalize hu : s.mapStripe n (fun t => { t with state := .full }) = u at closed
  have hqu : u.store.freeQueue = m :: rest := by rw [← hu]; exact hq
  have opened := openStripe_stripe (f := .relocate) (s := u) (hu ▸ ordered_mapStripe ho _ _) hqu
  refine ⟨?_, ?_, ?_, ?_⟩
  · rw [presentAt, hd]; rfl
  · show (openStripe .relocate u).stripe n = _
    rw [opened, Function.update_of_ne hne.symm, closed, Function.update_self]
  · show (openStripe .relocate u).store.freeQueue = _
    rw [openStripe_cons hqu]; rfl
  · show (openStripe .relocate u).stripe m = _
    rw [opened, Function.update_self, closed, Function.update_of_ne hne, ← hu]; rfl

/-- With no stripe to place an extent in, the front stalls. -/
theorem presentCopy_of_empty (ho : Table.Ordered s.store.stripes) (hf : ∀ k, (s.stripe k).state ≠ .opened .relocate)
    (hq : s.store.freeQueue = []) : presentCopy r c s = stall .relocate s := by
  have hnone := frontStripe_eq_none ho hf
  have hopen : closedFront c s = s := by simp only [closedFront, hnone]
  have hmay : s.mayOpen .relocate = false := by simp [State.mayOpen, hq]
  rw [presentCopy_of_ready hp hs, hopen]
  simp only [placedCopy, hnone, hmay, Bool.false_eq_true, if_false]

end Placing

end Sys2Proof.Machine
end

section
/-! ExtentsAreCopiedAndCommitted: what a completed program makes of the copy that it belongs to, and the statement (chapter 5.3). -/

namespace Sys2Proof.Machine

variable {s t : State} {r : Round} {c : Copy} {op : ProgramOp}

/-! ### A program of the copy completes (R91, R92, R94) -/

/-- The copy when the fetch of its next leaf is presented. -/
def nextLeafCopy (c : Copy) : Copy :=
  { c with copied := c.copied + 1, low := [], high := [], step := .fetchLow, request := .pending }

/-- The copy begun anew. -/
def anewCopy (c : Copy) : Copy :=
  { c with copied := 0, dest := none, low := [], high := [], step := .fetchLow, request := .pending }

theorem copyValid_of_catalog (h : t.catalog = s.catalog) (c : Copy) : t.copyValid c = s.copyValid c := by
  unfold State.copyValid
  rw [held_of_catalog h]

theorem copyWritten_of_more (hr : s.relocation.round = some { r with copy := some c }) (hmore : c.copied + 1 ≠ c.source.count)
    (hv : s.copyValid c = true) : copyWritten s = s.putRound (some { r with copy := some (nextLeafCopy c) }) := by
  simp only [copyWritten, hr, if_neg hmore]
  exact if_pos hv

/-- The last leaf ends the copy, which has been committed where the catalog still holds its version and extent. -/
theorem copyWritten_of_last (hr : s.relocation.round = some { r with copy := some c }) (hlast : c.copied + 1 = c.source.count) :
    ∃ x, copyWritten s = (commitCopy c s).putRound x := by
  obtain ⟨x, hx, -⟩ := lookNext_fresh { r with copy := none } (commitCopy c s)
  refine ⟨x, ?_⟩
  simp only [copyWritten, hr, if_pos hlast]
  exact hx

theorem copyFailed_of_valid (hr : s.relocation.round = some { r with copy := some c }) (hv : s.copyValid c = true) :
    copyFailed s = s.putRound (some { r with copy := some (anewCopy c) }) := by
  simp only [copyFailed, hr]
  exact if_pos hv

/-! ### The commit (R92) -/

/-- A change that keeps a version's number and serial is found under them. -/
theorem held_putObject_changed {k : Key} {number serial : Nat} {g : Version → Version} {o : Object} {v : Version}
    (hg : ∀ v, (g v).number = v.number ∧ (g v).serial = v.serial) (ho : s.object k = some o) (hk : o.key = k)
    (hv : s.held k number serial = some v) : (s.putObject (mapVersion number serial g o)).held k number serial = some (g v) := by
  have found : o.versions.find? (fun v => v.number == number && v.serial == serial) = some v := by
    unfold State.held at hv; rwa [ho] at hv
  have named := List.find?_some found
  have object : (s.putObject (mapVersion number serial g o)).object k = some (mapVersion number serial g o) := by
    subst hk
    exact tget_tput_self _ _ _
  have same : (fun v : Version => v.number == number && v.serial == serial)
      ∘ (fun v => if v.number = number ∧ v.serial = serial then g v else v)
      = fun v => v.number == number && v.serial == serial := by
    funext v
    by_cases h : v.number = number ∧ v.serial = serial <;> simp [h, hg v]
  unfold State.held
  rw [object]
  show List.find? _ (o.versions.map _) = _
  rw [List.find?_map, same, found, Option.map_some, if_pos (by simpa using named)]

theorem liveRises_live (n k m : Nat) (ho : Table.Ordered s.store.stripes) :
    ((liveRises n k s).stripe m).live = (s.stripe m).live + if m = n then k else 0 := by
  rw [liveRises, stripe_mapStripe ho, Function.update_apply]
  split <;> simp [*]

theorem liveFalls_live (n k m : Nat) (ho : Table.Ordered s.store.stripes) :
    ((liveFalls n k s).stripe m).live = (s.stripe m).live - if m = n then k else 0 := by
  rw [liveFalls, stripe_mapStripe ho, Function.update_apply]
  split <;> simp [*]

theorem commitCopy_of_valid {d : Nat × Nat} {o : Object} (hv : s.copyValid c = true) (hd : c.dest = some d)
    (ho : s.object c.key = some o) : commitCopy c s = liveFalls c.source.stripe c.source.count (liveRises d.1 c.source.count
      (s.putObject (mapVersion c.version c.serial (replaceExtent c.index ⟨d.1, d.2, c.source.count⟩) o))) := by
  simp only [commitCopy, hd, hv, if_true, commit, ho]

theorem commitCopy_of_invalid (hv : s.copyValid c = false) : commitCopy c s = s := by
  unfold commitCopy
  split <;> simp [hv]

/-- A commit replaces the version's extent in its place. -/
theorem commitCopy_held {d : Nat × Nat} {o : Object} {v : Version} (hc : s.copyValid c = true) (hd : c.dest = some d)
    (ho : s.object c.key = some o) (hk : o.key = c.key) (hv : s.held c.key c.version c.serial = some v) :
    (commitCopy c s).held c.key c.version c.serial
      = some { v with extents := v.extents.set c.index ⟨d.1, d.2, c.source.count⟩ } := by
  rw [commitCopy_of_valid hc hd ho]
  exact held_putObject_changed (g := replaceExtent c.index ⟨d.1, d.2, c.source.count⟩) (fun _ => ⟨rfl, rfl⟩) ho hk hv

/-- A commit moves the live leaves of the extent. -/
theorem commitCopy_live {d : Nat × Nat} {o : Object} (hs : Table.Ordered s.store.stripes) (hc : s.copyValid c = true)
    (hd : c.dest = some d) (ho : s.object c.key = some o) (n : Nat) :
    ((commitCopy c s).stripe n).live = (s.stripe n).live + (if n = d.1 then c.source.count else 0)
      - (if n = c.source.stripe then c.source.count else 0) := by
  rw [commitCopy_of_valid hc hd ho]
  generalize hu : s.putObject (mapVersion c.version c.serial (replaceExtent c.index ⟨d.1, d.2, c.source.count⟩) o) = u
  have ordered : Table.Ordered u.store.stripes := by rw [← hu]; exact hs
  have same : u.stripe n = s.stripe n := by rw [← hu]; rfl
  have risen : Table.Ordered (liveRises d.1 c.source.count u).store.stripes := ordered_mapStripe ordered _ _
  rw [liveFalls_live _ _ _ risen, liveRises_live _ _ _ ordered, same]

/-! ### The statement -/

theorem feedWritten_of_relocate (hc : op.ceased = false) (hf : op.front = .relocate) : feedWritten op s = copyWritten s := by
  unfold feedWritten
  rw [hc, hf]
  rfl

/-- A program WRITTEN reaches its feeder with every live count as it was. -/
theorem programRecorded_kept (op : ProgramOp) (ho : Table.Ordered s.store.stripes) : LiveKept s (programRecorded op s) := by
  have recorded : LiveKept s (writeLeaf op { s with store.wings := .split none none, store.mark := none }) := .of_stripes ho rfl
  refine recorded.trans ⟨ordered_mapStripe recorded.ordered _ _, fun n => ?_⟩
  rw [programRecorded, stripe_mapStripe recorded.ordered, Function.update_apply]
  split
  · rename_i h; rw [h]; rfl
  · rfl

/-- The state in which a program FAILED reaches its feeder. -/
def programLost (op : ProgramOp) (s : State) : State :=
  (loseLeaf op.stripe op.place { s with store.wings := .split none none, store.mark := none }).mapStripe op.stripe failedStripe

theorem exec_programFailed (hw : s.store.wings = .both (.program op)) (hc : op.ceased = false) (hf : op.front = .relocate) :
    exec .leafProgramFailed s = .next (conclude (copyFailed (programLost op s))) := by
  rw [exec_leafProgramFailed hw, programFailed, feedFailed, hc, hf]
  rfl

/-- Settles O58: the look by `lookNext`'s outcomes, a fetch by the verdict on its sheet, a first program by the room that the front's stripe
has, and a completed program by whether it is the copy's last. -/
theorem extentsAreCopiedAndCommitted : Obligations.ExtentsAreCopiedAndCommitted := by
  refine ⟨fun s r => ?_, fun s r c w op other delivered hw hop hr => ?_, fun s r c ho hp hs hc hd => ?_,
    fun s op r c hw hf hn hr ho => ?_⟩
  · refine ⟨lookNext_of_unmovable, lookNext_of_guard, engineOnce_of_paused, fun hm hg he => ?_⟩
    obtain ⟨t, ht, hb⟩ := lookNext_begins hm hg he
    exact ⟨copyOf t, ht, hb.stripe, hb.lowest, hb.version, rfl, rfl, rfl, rfl⟩
  · refine ⟨exec_fetch_sound hw hop hr, fun o v hbad ho hk hv hg hflag =>
      ⟨_, exec_fetch_damaged hw hop hr hbad ho hv hg hflag, rfl, ?_, fun q hq => notifyAll_pending hq⟩⟩
    refine (held_of_catalog ?_ _ _ _).trans (held_putObject_changed (s := fetchIdle w other s)
      (g := fun v => { v with damaged := true }) (fun _ => ⟨rfl, rfl⟩) ho hk hv)
    rw [putRound_catalog, notifyAll_catalog]
  · refine ⟨fun n t hf hfit => ?_, fun n m rest hf hfull hshort hq hne => ?_, presentCopy_of_empty hp hs ho⟩
    · rw [presentCopy_of_fits hp hs hf hfit, presentAt, hd]
    · have h := placedNext (r := r) hp hs ho hc hd hf hfull hshort hq hne
      exact ⟨h.round, h.closed, h.queue, h.opened⟩
  · have kept := programRecorded_kept op ho
    have written : exec .leafProgramWritten s = .next (conclude (copyWritten (programRecorded op s))) := by
      rw [exec_programWritten hw, feedWritten_of_relocate hn hf]
    have same : (programRecorded op s).copyValid c = s.copyValid c := copyValid_of_catalog rfl c
    refine ⟨fun hmore hv => ⟨_, written, ?_⟩, fun d o v hlast hv hd ho hk hh => ⟨_, written, ?_⟩,
      fun hlast hv => ⟨_, written, ?_⟩, fun hv => ⟨_, exec_programFailed hw hn hf, ?_⟩⟩
    · rw [copyWritten_of_more (s := programRecorded op s) hr hmore (same.trans hv)]
      exact ⟨rfl, rfl, kept.live⟩
    · obtain ⟨x, hx⟩ := copyWritten_of_last (s := programRecorded op s) hr hlast
      rw [hx]
      refine ⟨commitCopy_held (s := programRecorded op s) (same.trans hv) hd ho hk hh, fun n => ?_⟩
      rw [← kept.live n]
      exact commitCopy_live (s := programRecorded op s) kept.ordered (same.trans hv) hd ho n
    · obtain ⟨x, hx⟩ := copyWritten_of_last (s := programRecorded op s) hr hlast
      rw [hx, commitCopy_of_invalid (same.trans hv)]
      exact ⟨rfl, kept.live⟩
    · rw [copyFailed_of_valid (s := programLost op s) hr ((copyValid_of_catalog rfl c).trans hv)]
      exact ⟨rfl, rfl⟩

end Sys2Proof.Machine
end

section
/-! CorrectionStretchesTheProfile: the correction of one octet by where it lies under the profile, and of a sheet (chapter 6.4). -/

namespace Sys2Proof.Machine

variable {k p x y : Nat} {g h : Octet}

/-! ### One octet (R104) -/

/-- The tone strictly between the limits of a profile, before it is made an octet. -/
def stretchedTone (k p x : Nat) : Nat := ((x - k) * 510 + (p - k)) / (2 * (p - k))

theorem one_le_stretchedTone (hp : p ≤ 255) (hk : k < x) (hx : x < p) : 1 ≤ stretchedTone k p x :=
  (Nat.le_div_iff_mul_le (by omega)).2 (by omega)

theorem stretchedTone_le (hp : p ≤ 255) (hk : k < x) (hx : x < p) : stretchedTone k p x ≤ 254 :=
  Nat.le_of_lt_succ (Nat.div_lt_of_lt_mul (by omega))

theorem stretchedTone_mono (h : x ≤ y) : stretchedTone k p x ≤ stretchedTone k p y :=
  Nat.div_le_div_right (by omega)

theorem correct_of_dark (hg : g.toNat ≤ k) : correct k p g = 0#8 := if_pos hg

theorem correct_of_light (hg : k < g.toNat) (hp : p ≤ g.toNat) : correct k p g = 255#8 := by
  rw [correct, if_neg (Nat.not_le.2 hg), if_pos hp]

theorem correct_of_between (hp : p ≤ 255) (hk : k < g.toNat) (hg : g.toNat < p) : (correct k p g).toNat = stretchedTone k p g.toNat := by
  have small : stretchedTone k p g.toNat < 2 ^ 8 := Nat.lt_of_le_of_lt (stretchedTone_le hp hk hg) (by decide)
  rw [correct, if_neg (Nat.not_le.2 hk), if_neg (Nat.not_le.2 hg)]
  exact (BitVec.toNat_ofNat _ _).trans (Nat.mod_eq_of_lt small)

/-- The correction keeps the order of the octets: the dark ones come to the least octet, the light ones to the greatest, and between the
limits the tones keep their order. -/
theorem correct_mono (hp : p ≤ 255) (hgh : g.toNat ≤ h.toNat) : (correct k p g).toNat ≤ (correct k p h).toNat := by
  rcases Nat.lt_or_ge k g.toNat with hk | dark
  · have above : k < h.toNat := Nat.lt_of_lt_of_le hk hgh
    rcases Nat.lt_or_ge h.toNat p with below | light
    · rw [correct_of_between hp hk (Nat.lt_of_le_of_lt hgh below), correct_of_between hp above below]
      exact stretchedTone_mono hgh
    · rw [correct_of_light above light]
      exact Nat.le_of_lt_succ (correct k p g).isLt
  · rw [correct_of_dark dark]
    exact Nat.zero_le _

/-! ### A sheet (R105) -/

variable {s : State} {q : Pass} {st : Stream} {b : SheetBuffer}

@[simp] theorem endPassSource_passes (s : State) : (endPassSource s).passes = s.passes := by
  obtain ⟨x, hx⟩ := endPassSource_rest s
  rw [hx]

/-- The octets of a send sheet that lie in the body. -/
def sheetInBody (st : Stream) (b : SheetBuffer) : List Octet :=
  b.body.take (min Config.sheetOctets (st.length - b.sheet * Config.sheetOctets))

/-- In CORRECT the sheet taken is corrected into the output leaf, whether or not it is the source's last. -/
theorem passTake_of_correct {kp : Nat × Nat} (hq : s.passes.active = some q) (hc : q.phase = .correct) (hl : q.leafComplete = false)
    (hkp : q.profile = some kp) (hs : s.streams.passSource = some st) (hb : st.send = some b) :
    (passTake s).passes.active.map (·.leaf) = some (q.leaf ++ (sheetInBody st b).map (correct kp.1 kp.2)) := by
  simp only [passTake, hq, hs, hb, hc, hl, hkp, Bool.false_eq_true, if_false, Option.getD_some]
  split
  · rfl
  · rw [endPassSource_passes]; rfl

/-- Settles O34: an octet lies at or below K, at or above P, or between them, and a pass in CORRECT takes its sheet by
`passTake_of_correct`. -/
theorem correctionStretchesTheProfile : Obligations.CorrectionStretchesTheProfile := by
  intro k p hd hp
  refine ⟨fun g dark => correct_of_dark dark, fun g light => correct_of_light (by omega) light, fun g hk hg => ?_,
    fun g h hgh => correct_mono hp hgh, fun s q st b hq hc hl hkp hs hb => ?_⟩
  · rw [correct_of_between hp hk hg]
    exact ⟨rfl, one_le_stretchedTone hp hk hg, stretchedTone_le hp hk hg⟩
  · rw [passTake_of_correct hq hc hl hkp hs hb]
    rfl

end Sys2Proof.Machine
end

section
/-! SurveysEndInAProfile: the bins that the profile is made of, and the two ways in which a survey ends (chapter 6.3). -/

namespace Sys2Proof.Machine

/-! ### The bins (R103) -/

/-- The first number found from the end of a range is the largest of the range. -/
theorem find?_reverse_range {p : Nat → Bool} {n i j : Nat} (h : (List.range n).reverse.find? p = some j) (hj : j < i) (hi : i < n) :
    p i = false := by
  induction n with
  | zero => exact absurd hi (Nat.not_lt_zero i)
  | succ n ih =>
    rw [List.range_succ, List.reverse_concat, List.find?_cons] at h
    split at h
    · cases h
      omega
    · rename_i last
      rcases Nat.lt_succ_iff_lt_or_eq.1 hi with inner | rfl
      · exact ih h inner
      · exact last

/-- With the bins' sum past TL, the low bin is the smallest up to which they pass it. -/
theorem lowBin_spec {bins : List Nat} {tl : Nat} (hl : bins.length = 64) (h : tl < bins.sum) :
    lowBin bins tl < 64 ∧ tl < (bins.take (lowBin bins tl + 1)).sum ∧ ∀ b < lowBin bins tl, (bins.take (b + 1)).sum ≤ tl := by
  have whole : tl < (bins.take (63 + 1)).sum := by rwa [List.take_of_length_le (by omega)]
  have found : ((List.range 64).find? (fun b => tl < (bins.take (b + 1)).sum)).isSome = true :=
    List.find?_isSome.2 ⟨63, by simp, decide_eq_true whole⟩
  obtain ⟨i, hi⟩ := Option.isSome_iff_exists.1 found
  have low : lowBin bins tl = i := by rw [lowBin, hi, Option.getD_some]
  obtain ⟨past, inRange, first⟩ := List.find?_range_eq_some.1 hi
  rw [low]
  exact ⟨List.mem_range.1 inRange, of_decide_eq_true past, fun b hb => by simpa using first b hb⟩

/-- With the bins' sum past TH, the high bin is the largest from which they pass it. -/
theorem highBin_spec {bins : List Nat} {th : Nat} (hl : bins.length = 64) (h : th < bins.sum) :
    highBin bins th < 64 ∧ th < (bins.drop (highBin bins th)).sum ∧ ∀ b, highBin bins th < b → (bins.drop b).sum ≤ th := by
  have found : ((List.range 64).reverse.find? (fun b => th < (bins.drop b).sum)).isSome = true :=
    List.find?_isSome.2 ⟨0, by simp, decide_eq_true h⟩
  obtain ⟨j, hj⟩ := Option.isSome_iff_exists.1 found
  have high : highBin bins th = j := by rw [highBin, hj, Option.getD_some]
  rw [high]
  refine ⟨by simpa using List.mem_of_find?_eq_some hj, by simpa using List.find?_some hj, fun b hb => ?_⟩
  rcases Nat.lt_or_ge b 64 with inside | outside
  · simpa using find?_reverse_range hj hb inside
  · rw [List.drop_eq_nil_of_le (by omega)]
    exact Nat.zero_le th

/-! ### The end of the active pass (R102, R108, R112) -/

/-- The histogram once its pass has ended. -/
def stoppedHistogram (h : Histogram) : Histogram := if h.state = .counting then { h with state := .partialCount } else h

theorem stoppedHistogram_not_counting (h : Histogram) : (stoppedHistogram h).state ≠ .counting := by
  unfold stoppedHistogram
  split
  · exact nofun
  · assumption

theorem stoppedHistogram_of_not_counting {h : Histogram} (hs : h.state ≠ .counting) : stoppedHistogram h = h := if_neg hs

theorem stopActive_passes (created : Bool) (s : State) : (stopActive created s).passes
    = { s.passes with active := none, output := [], histogram := stoppedHistogram s.passes.histogram } := by
  have detached : (unstall .restore (detachFeeder .restore (endPassSource s))).passes = s.passes := by
    obtain ⟨w, hw, -⟩ := detachFeeder_wings .restore (endPassSource s)
    rw [unstall_passes, hw]
    exact endPassSource_passes s
  unfold stopActive
  simp only
  generalize unstall .restore (detachFeeder .restore (endPassSource s)) = u at detached
  have dead : (if created = true then u else extentsDie u.passes.output u).passes = s.passes := by
    split
    · exact detached
    · obtain ⟨⟨x, hx⟩, -⟩ := extentsDie_stripesOnly u.passes.output u
      rw [hx]
      exact detached
  rw [dead]
  rfl

theorem endActive_passes (p : Pass) (o : PassOutcome) (c : Option PassCause) (s : State) : (endActive p o c s).passes
    = { s.passes with active := none, output := [], histogram := stoppedHistogram s.passes.histogram,
                      result := resultOf p o c (stoppedHistogram s.passes.histogram) } := by
  rw [endActive, recordResult, notify_passes, stopActive_passes]

/-! ### The end of a survey (R103) -/

@[simp] theorem readersRise_passes (es : List Extent) (s : State) : (readersRise es s).passes = s.passes := by
  obtain ⟨x, hx⟩ := readersRise_store es s
  rw [hx]

@[simp] theorem readersFall_passes (es : List Extent) (s : State) : (readersFall es s).passes = s.passes := by
  obtain ⟨x, hx⟩ := readersFall_store es s
  rw [hx]

variable {s : State} {q : Pass} {kp : Nat × Nat}

/-- The state in which a survey's profile is judged. -/
def surveyed (q : Pass) (kp : Nat × Nat) (s : State) : State :=
  { s with passes.histogram.state := .complete, passes.active := some { q with profile := some kp } }

theorem surveyEnds_of_flat (st : Stream) (hkp : profileOf s.passes.histogram q.low q.high = kp) (hf : kp.2 < kp.1 + 32) :
    surveyEnds q st s = endActive { q with profile := some kp } .flat none (surveyed q kp s) := by
  subst hkp
  exact if_pos hf

theorem surveyEnds_passes_of_span (st : Stream) (hkp : profileOf s.passes.histogram q.low q.high = kp) (hf : kp.1 + 32 ≤ kp.2) :
    (surveyEnds q st s).passes
      = { (surveyed q kp s).passes with active := some { q with profile := some kp, phase := .correct } } := by
  subst hkp
  generalize hu : surveyed q (profileOf s.passes.histogram q.low q.high) s = u
  have handed : (readersFall st.snapshot (readersRise st.snapshot u)).passes = u.passes := by simp
  rw [← handed, ← hu]
  exact congrArg State.passes (if_neg (Nat.not_lt.2 hf))

/-- Settles O35: the profile is that of `lowBin_spec` and `highBin_spec`, and a survey ends by the span that it leaves. -/
theorem surveysEndInAProfile : Obligations.SurveysEndInAProfile := by
  refine ⟨fun h low high htl hth hl => ?_, fun q st s => ?_⟩
  · obtain ⟨hi, hlow, hlowest⟩ := lowBin_spec hl htl
    obtain ⟨hj, hhigh, hhighest⟩ := highBin_spec hl hth
    exact ⟨_, _, rfl, hi, hj, hlow, hlowest, hhigh, hhighest⟩
  · intro kp t
    have flat (hf : kp.2 < kp.1 + 32) : t.passes = _ :=
      (congrArg State.passes (surveyEnds_of_flat st rfl hf)).trans (endActive_passes _ _ _ _)
    have span (hf : kp.1 + 32 ≤ kp.2) : t.passes = _ := surveyEnds_passes_of_span st rfl hf
    refine ⟨?_, fun hf => ?_, fun hf => ?_⟩
    · rcases Nat.lt_or_ge kp.2 (kp.1 + 32) with hf | hf
      · rw [flat hf]
        exact stoppedHistogram_of_not_counting (h := { s.passes.histogram with state := .complete }) nofun
      · rw [span hf]
        rfl
    · rw [flat hf]
      exact ⟨rfl, rfl, rfl⟩
    · rw [span hf]
      exact ⟨rfl, rfl⟩

end Sys2Proof.Machine
end

section
/-! PassesAreQueuedAndCancelled: the checks and the id of a pass submitted, and the passes that a cancellation ends (chapters 6.1, 6.2,
6.5 and 6.6). -/

namespace Sys2Proof.Machine

variable {s : State} {pick : Pass → Bool} {q : Pass} {a b : List Pass}

/-! ### SUBMIT_PASS (R99, R100) -/

theorem passArguments_of_inRange {source : Source} {mode stride low high k p : Nat} {m : PassMode} (hm : passModeOf mode = some m)
    (hstride : stride = 1 ∨ stride = 4 ∨ stride = 16 ∨ stride = 64) (hlow : low ≤ 100) (hhigh : high ≤ 100)
    (hsource : ∀ n, source = .number n → n ≤ 255) (hprofile : m = .manual → p ≤ 255 ∧ k + 32 ≤ p) :
    passArguments source mode stride low high k p = some m := by
  have strided : stride ∈ [1, 4, 16, 64] := by simpa using hstride
  cases m with
  | survey => cases source <;> simp [passArguments, hm, strided, hlow, hhigh, hsource]
  | manual =>
    obtain ⟨hp, hspan⟩ := hprofile rfl
    cases source <;> simp [passArguments, hm, strided, hlow, hhigh, hsource, hp, hspan]

theorem passChecks_of_passed {w : WireKey} {source : Source} {e : Edition} {o : Object} {v : Version}
    (hseen : s.seeObject .bench w = .ok (e, o)) (hpublished : e.state = .published) (hchosen : o.choose source = .ok v)
    (hformat : o.format = .grey8) (hversions : o.versions.length < 4) (hlast : o.lastNumber < 255) :
    s.passChecks w source = .ok (o, v) := by
  have room : ¬(Config.versionsPerObject ≤ o.versions.length ∨ 255 ≤ o.lastNumber) :=
    not_or.2 ⟨Nat.not_le.2 hversions, Nat.not_le.2 hlast⟩
  simp only [State.passChecks, hseen, hpublished, hchosen, hformat, ne_eq, not_true_eq_false, if_false, if_neg room]

/-- The id given is the first from the counter's value upward that no pass holds. -/
theorem nextPassId_of_first {d : Nat} (hd : d < 256) (hfree : (s.passes.nextId + d) % 256 ∉ s.passIds)
    (hheld : ∀ i < d, (s.passes.nextId + i) % 256 ∈ s.passIds) : s.nextPassId = (s.passes.nextId + d) % 256 := by
  have first : (List.range 256).find? ((fun i => !s.passIds.contains i) ∘ fun i => (s.passes.nextId + i) % 256) = some d :=
    List.find?_range_eq_some.2 ⟨by simpa using hfree, List.mem_range.2 hd, fun i hi => by simpa using hheld i hi⟩
  rw [State.nextPassId, List.find?_map, first]
  rfl

section Submitting

variable {w : WireKey} {source : Source} {mode stride low high k p : Nat} {m : PassMode} {o : Object} {v : Version}
  (hargs : passArguments source mode stride low high k p = some m) (hchecks : s.passChecks w source = .ok (o, v))
  (hmode : s.control.mode = .normal)

include hargs hchecks hmode

theorem submitPass_of_room (hroom : s.passes.queue.length < 4) : submitPass w source mode stride low high k p s
    = ({ s with
          passes.queue := s.passes.queue ++ [submittedPass s.nextPassId o.key source m stride low high k p]
          passes.nextId := (s.nextPassId + 1) % 256 },
       ⟨.accepted, be 1 s.nextPassId ++ be 1 s.passes.queue.length⟩) := by
  have room : ¬Config.passQueue ≤ s.passes.queue.length := Nat.not_le.2 hroom
  simp only [submitPass, hargs, hchecks, hmode, reduceCtorEq, if_false, if_neg room]

theorem submitPass_of_full (hfull : 4 ≤ s.passes.queue.length) :
    submitPass w source mode stride low high k p s = deny .queueFull s := by
  have full : Config.passQueue ≤ s.passes.queue.length := hfull
  simp only [submitPass, hargs, hchecks, hmode, reduceCtorEq, if_false, if_pos full]

end Submitting

/-- The record made for a pass submitted carries the profile of a MANUAL pass alone. -/
theorem submittedPass_eq (id : Nat) (key : Key) (source : Source) (m : PassMode) (stride low high k p : Nat) :
    submittedPass id key source m stride low high k p
      = { id := id, key := key, source := source, bound := none, mode := m, stride := stride, low := low, high := high,
          profile := (if m = .manual then some (k, p) else none), phase := .queued, newNumber := none, leaf := [], written := 0,
          register := 0xFFFFFFFF#32, request := .none } := by
  cases m <;> rfl

/-! ### CANCEL_PASS (R108, R109, R112) -/

theorem cancelPass_of_held {id : Nat} (h : id ∈ s.passIds) :
    cancelPass id s = (abortPasses (fun q => q.id == id) .cancelled s, plain .ok) :=
  if_pos (List.contains_iff_mem.2 h)

theorem cancelPass_of_unheld {id : Nat} (h : id ∉ s.passIds) : cancelPass id s = deny .notFound s :=
  if_neg fun held => h (List.contains_iff_mem.1 held)

theorem abortQueued_of_unpicked (c : PassCause) (h : ∀ x ∈ s.passes.queue, pick x = false) : abortQueued pick c s = s := by
  have none : s.passes.queue.filter pick = [] := List.filter_eq_nil_iff.2 fun x hx => by simp [h x hx]
  have all : s.passes.queue.filter (fun x => !pick x) = s.passes.queue := List.filter_eq_self.2 fun x hx => by simp [h x hx]
  rw [abortQueued, none, all]
  rfl

/-- One queued pass picked leaves the queue and writes the result slot. -/
theorem abortQueued_of_one (c : PassCause) (hq : s.passes.queue = a ++ q :: b) (hpick : pick q = true)
    (hrest : ∀ x ∈ a ++ b, pick x = false) :
    abortQueued pick c s = recordResult q .aborted (some c) { s with passes.queue := a ++ b } := by
  have ha : ∀ x ∈ a, pick x = false := fun x hx => hrest x (List.mem_append_left b hx)
  have hb : ∀ x ∈ b, pick x = false := fun x hx => hrest x (List.mem_append_right a hx)
  have gone : s.passes.queue.filter pick = [q] := by
    rw [hq, List.filter_append, List.filter_cons_of_pos hpick, List.filter_eq_nil_iff.2 fun x hx => by simp [ha x hx],
      List.filter_eq_nil_iff.2 fun x hx => by simp [hb x hx]]
    rfl
  have stay : s.passes.queue.filter (fun x => !pick x) = a ++ b := by
    rw [hq, List.filter_append, List.filter_cons_of_neg (by simp [hpick]), List.filter_eq_self.2 fun x hx => by simp [ha x hx],
      List.filter_eq_self.2 fun x hx => by simp [hb x hx]]
  rw [abortQueued, gone, stay]
  rfl

theorem abortPasses_of_active_unpicked (c : PassCause) (h : ∀ x ∈ s.passes.active, pick x = false) :
    abortPasses pick c s = abortQueued pick c s := by
  unfold abortPasses
  split
  · rename_i x hx
    rw [h x hx]
    rfl
  · rfl

theorem abortPasses_of_active_picked (c : PassCause) (hq : s.passes.active = some q) (hpick : pick q = true) :
    abortPasses pick c s = abortQueued pick c (endActive q .aborted (some c) s) := by
  simp only [abortPasses, hq, hpick, if_true]

/-- Beside the passes, the end of the active pass frees its source and leaves the ports' streams and the catalog. -/
theorem endActive_frame (p : Pass) (o : PassOutcome) (c : Option PassCause) (s : State) :
    (endActive p o c s).streams = { s.streams with passSource := none } ∧ (endActive p o c s).catalog = s.catalog := by
  obtain ⟨x, h, hx⟩ := stopActive_rest (o == .created) s
  rw [endActive, hx]
  exact ⟨rfl, rfl⟩

theorem mem_passIds_of_queue (h : q ∈ s.passes.queue) : q.id ∈ s.passIds := by
  rw [passIds_eq]
  exact List.mem_append_left _ (List.mem_map_of_mem h)

theorem mem_passIds_of_active (h : s.passes.active = some q) : q.id ∈ s.passIds := by
  rw [passIds_eq, h]
  exact List.mem_append_right _ (List.mem_singleton_self q.id)

/-- Settles O33: a submission by the room in the queue, a cancellation by whether its pass is queued, active or neither. -/
theorem passesAreQueuedAndCancelled : Obligations.PassesAreQueuedAndCancelled := by
  refine ⟨fun f w source mode stride low high k p d m e o v s hadm hmode hm hstride hlow hhigh hsource hprofile hseen hpub hchosen hformat
    hversions hlast => ?_, fun f id s hadm => ⟨fun a q b hq hid hrest hactive => ?_, fun q hactive hid hqueue => ?_, fun hnone => ?_⟩⟩
  · have args := passArguments_of_inRange hm hstride hlow hhigh hsource hprofile
    have checks := passChecks_of_passed hseen hpub hchosen hformat hversions hlast
    refine ⟨fun hroom hd hfree hheld => ?_,
      fun hfull => congrArg _ (serveSettling_of_rule hadm (submitPass_of_full args checks hmode hfull))⟩
    have rule := submitPass_of_room args checks hmode hroom
    rw [nextPassId_of_first hd hfree hheld, submittedPass_eq] at rule
    exact congrArg _ (serveSettling_of_rule hadm rule)
  · subst hid
    have held : q.id ∈ s.passIds := mem_passIds_of_queue (by rw [hq]; exact List.mem_append_right a List.mem_cons_self)
    refine ⟨_, congrArg _ (serveSettling_of_rule hadm (cancelPass_of_held held)), ?_⟩
    rw [abortPasses_of_active_unpicked _ fun x hx => beq_false_of_ne (hactive x hx),
      abortQueued_of_one _ hq (beq_self_eq_true q.id) fun x hx => beq_false_of_ne (hrest x hx)]
    exact ⟨rfl, rfl, rfl, rfl, rfl, rfl, rfl, rfl, rfl, rfl⟩
  · subst hid
    refine ⟨_, congrArg _ (serveSettling_of_rule hadm (cancelPass_of_held (mem_passIds_of_active hactive))), ?_⟩
    have ended := endActive_passes q .aborted (some .cancelled) s
    obtain ⟨streams, catalog⟩ := endActive_frame q .aborted (some .cancelled) s
    have queued : ∀ x ∈ (endActive q .aborted (some .cancelled) s).passes.queue, (x.id == q.id) = false := by
      rw [ended]
      exact fun x hx => beq_false_of_ne (hqueue x hx)
    rw [abortPasses_of_active_picked _ hactive (beq_self_eq_true q.id), abortQueued_of_unpicked _ queued, ended, streams, catalog]
    exact ⟨rfl, rfl, rfl, rfl, rfl, rfl, stoppedHistogram_not_counting _, rfl, rfl, rfl⟩
  · exact congrArg _ (serveSettling_of_rule hadm (cancelPass_of_unheld hnone))

end Sys2Proof.Machine
end

section
/-! The requests of chapter 7 as they are answered, one equation per case of each rule: OPEN_ACCOUNT, CREDIT_ACCOUNT, the contributors, the
tariffs, and the rights judgement. -/

namespace Sys2Proof.Machine

variable {s : State} {id tariffClass limit amount share : Nat}

/-! ### Ranges -/

theorem accountId_iff : accountId id = true ↔ 1 ≤ id ∧ id ≤ 255 := by simp [accountId]

theorem contributorId_iff : contributorId id = true ↔ 1 ≤ id ∧ id ≤ 1023 := by simp [contributorId]

theorem accountTerms_iff : (accountId id && termsInRange tariffClass limit) = true ↔
    (1 ≤ id ∧ id ≤ 255) ∧ tariffClass ≤ 3 ∧ limit ≤ Config.maxBalance := by
  simp [accountId, termsInRange]

/-! ### OPEN_ACCOUNT and CREDIT_ACCOUNT (R115, R116) -/

theorem openAccount_of_misfit (h : ¬((1 ≤ id ∧ id ≤ 255) ∧ tariffClass ≤ 3 ∧ limit ≤ Config.maxBalance)) :
    openAccount id tariffClass limit s = deny .badArgument s := by
  rw [← accountTerms_iff] at h
  rw [openAccount, if_pos (by simpa only [Bool.not_eq_true', Bool.not_eq_true] using h)]

theorem openAccount_of_used (h : (1 ≤ id ∧ id ≤ 255) ∧ tariffClass ≤ 3 ∧ limit ≤ Config.maxBalance)
    (used : (s.account id).state ≠ .unused) : openAccount id tariffClass limit s = deny .alreadyExists s := by
  rw [openAccount, accountTerms_iff.2 h, if_neg (by simp), if_pos used]

theorem openAccount_of_unused (h : (1 ≤ id ∧ id ≤ 255) ∧ tariffClass ≤ 3 ∧ limit ≤ Config.maxBalance)
    (unused : (s.account id).state = .unused) :
    openAccount id tariffClass limit s = (s.putAccount id (openedAccount tariffClass limit), plain .ok) := by
  rw [openAccount, accountTerms_iff.2 h, if_neg (by simp), if_neg (not_not.2 unused)]

/-- Settles O36, by the cases of OPEN_ACCOUNT's rule. -/
theorem openAccountOpensTheRecord : Obligations.OpenAccountOpensTheRecord := by
  intro f id tariffClass limit s hadm
  exact ⟨fun h => congrArg _ (serve_of_rule hadm (openAccount_of_misfit h)),
    fun h used => congrArg _ (serve_of_rule hadm (openAccount_of_used h used)),
    fun h unused => congrArg _ (serve_of_rule hadm (openAccount_of_unused h unused))⟩

theorem creditable_iff : (accountId id && decide (1 ≤ amount) && decide (amount ≤ Config.maxBalance)) = true ↔
    (1 ≤ id ∧ id ≤ 255) ∧ 1 ≤ amount ∧ amount ≤ Config.maxBalance := by
  simp [accountId, and_assoc]

section Credit

variable (h : (1 ≤ id ∧ id ≤ 255) ∧ 1 ≤ amount ∧ amount ≤ Config.maxBalance)

theorem creditAccount_of_misfit (h : ¬((1 ≤ id ∧ id ≤ 255) ∧ 1 ≤ amount ∧ amount ≤ Config.maxBalance)) :
    creditAccount id amount s = deny .badArgument s := by
  rw [← creditable_iff] at h
  rw [creditAccount, if_pos (by simpa only [Bool.not_eq_true', Bool.not_eq_true] using h)]

include h

theorem creditAccount_of_unused (unused : (s.account id).state = .unused) : creditAccount id amount s = deny .notFound s := by
  rw [creditAccount, creditable_iff.2 h, if_neg (by simp), if_pos unused]

theorem creditAccount_of_overflow (used : (s.account id).state ≠ .unused)
    (excess : (Config.maxBalance : Int) < (s.account id).balance + amount) : creditAccount id amount s = deny .overflow s := by
  rw [creditAccount, creditable_iff.2 h, if_neg (by simp), if_neg used, if_pos excess]

theorem creditAccount_of_room (used : (s.account id).state ≠ .unused)
    (room : (s.account id).balance + amount ≤ (Config.maxBalance : Int)) : creditAccount id amount s
      = (s.putAccount id { s.account id with balance := (s.account id).balance + amount },
        ⟨.ok, beInt 5 ((s.account id).balance + amount)⟩) := by
  rw [creditAccount, creditable_iff.2 h, if_neg (by simp), if_neg used, if_neg (Int.not_lt.2 room)]

end Credit

/-- Settles O37, by the cases of CREDIT_ACCOUNT's rule. -/
theorem creditAccountRaisesTheBalance : Obligations.CreditAccountRaisesTheBalance := by
  intro f id amount s hadm
  exact ⟨fun h => congrArg _ (serve_of_rule hadm (creditAccount_of_misfit h)),
    fun h unused => congrArg _ (serve_of_rule hadm (creditAccount_of_unused h unused)),
    fun h used excess => congrArg _ (serve_of_rule hadm (creditAccount_of_overflow h used excess)),
    fun h used room => congrArg _ (serve_of_rule hadm (creditAccount_of_room h used room))⟩

/-! ### SET_ACCOUNT, REINSTATE_ACCOUNT and CLOSE_ACCOUNT (R117 to R119) -/

theorem setAccount_of_misfit (h : ¬((1 ≤ id ∧ id ≤ 255) ∧ tariffClass ≤ 3 ∧ limit ≤ Config.maxBalance)) :
    setAccount id tariffClass limit s = deny .badArgument s := by
  rw [← accountTerms_iff] at h
  rw [setAccount, if_pos (by simpa only [Bool.not_eq_true', Bool.not_eq_true] using h)]

theorem setAccount_of_unused (h : (1 ≤ id ∧ id ≤ 255) ∧ tariffClass ≤ 3 ∧ limit ≤ Config.maxBalance)
    (unused : (s.account id).state = .unused) : setAccount id tariffClass limit s = deny .notFound s := by
  rw [setAccount, accountTerms_iff.2 h, if_neg (by simp), if_pos unused]

theorem setAccount_of_used (h : (1 ≤ id ∧ id ≤ 255) ∧ tariffClass ≤ 3 ∧ limit ≤ Config.maxBalance)
    (used : (s.account id).state ≠ .unused) : setAccount id tariffClass limit s
      = (s.putAccount id { s.account id with tariffClass := tariffClass, limit := appliedLimit (s.account id) limit },
        ⟨.ok, be 1 tariffClass ++ be 5 (appliedLimit (s.account id) limit)⟩) := by
  rw [setAccount, accountTerms_iff.2 h, if_neg (by simp), if_neg used]

/-- The applied limit is the greater of the requested limit and held − balance (R117). -/
theorem appliedLimit_eq (a : Account) (requested : Nat) : (appliedLimit a requested : Int) = max (requested : Int) (a.held - a.balance) := by
  unfold appliedLimit
  omega

/-- An account whose balance, held and figures are 0 and clear has nothing but its state and its terms. -/
theorem settled_iff (a : Account) : a.settled = true ↔
    a = { Account.formatted with state := a.state, tariffClass := a.tariffClass, limit := a.limit } := by
  obtain ⟨state, tariffClass, balance, limit, held, orders, pages, photos, charged, overflow⟩ := a
  simp [Account.settled, Account.formatted, and_assoc]

section Records

variable (h : 1 ≤ id ∧ id ≤ 255)

theorem reinstateAccount_of_misfit (h : ¬(1 ≤ id ∧ id ≤ 255)) : reinstateAccount id s = deny .badArgument s := by
  rw [← accountId_iff] at h
  rw [reinstateAccount, if_pos (by simpa only [Bool.not_eq_true', Bool.not_eq_true] using h)]

theorem closeAccount_of_misfit (h : ¬(1 ≤ id ∧ id ≤ 255)) : closeAccount id s = deny .badArgument s := by
  rw [← accountId_iff] at h
  rw [closeAccount, if_pos (by simpa only [Bool.not_eq_true', Bool.not_eq_true] using h)]

theorem suspendAccount_of_misfit (h : ¬(1 ≤ id ∧ id ≤ 255)) : suspendAccount id s = deny .badArgument s := by
  rw [← accountId_iff] at h
  rw [suspendAccount, if_pos (by simpa only [Bool.not_eq_true', Bool.not_eq_true] using h)]

include h

theorem reinstateAccount_of_suspended (hs : (s.account id).state = .suspended) :
    reinstateAccount id s = (s.putAccount id { s.account id with state := .opened }, plain .ok) := by
  simp [reinstateAccount, accountId_iff.2 h, hs]

theorem reinstateAccount_of_opened (hs : (s.account id).state = .opened) : reinstateAccount id s = deny .wrongState s := by
  simp [reinstateAccount, accountId_iff.2 h, hs]

theorem reinstateAccount_of_unused (hs : (s.account id).state = .unused) : reinstateAccount id s = deny .notFound s := by
  simp [reinstateAccount, accountId_iff.2 h, hs]

theorem closeAccount_of_settled (used : (s.account id).state ≠ .unused) (hs : (s.account id).settled = true) :
    closeAccount id s = (s.putAccount id Account.formatted, plain .ok) := by
  simp [closeAccount, accountId_iff.2 h, used, hs]

theorem closeAccount_of_unsettled (used : (s.account id).state ≠ .unused) (hs : (s.account id).settled = false) :
    closeAccount id s = deny .wrongState s := by
  simp [closeAccount, accountId_iff.2 h, used, hs]

theorem closeAccount_of_unused (hs : (s.account id).state = .unused) : closeAccount id s = deny .notFound s := by
  simp [closeAccount, accountId_iff.2 h, hs]

theorem suspendAccount_of_suspended (hs : (s.account id).state = .suspended) : suspendAccount id s = deny .wrongState s := by
  simp [suspendAccount, accountId_iff.2 h, hs]

theorem suspendAccount_of_unused (hs : (s.account id).state = .unused) : suspendAccount id s = deny .notFound s := by
  simp [suspendAccount, accountId_iff.2 h, hs]

theorem suspendAccount_of_opened (hs : (s.account id).state = .opened) : suspendAccount id s
    = (releaseOrders (fun _ o => o.account == id) .suspended (s.portStreams .counter).queue.tail
        (s.putAccount id { s.account id with state := .suspended }),
      ⟨.ok, be 1 ((s.portStreams .counter).queue.tail.filter (fun st => st.orders id)).length⟩) := by
  simp [suspendAccount, accountId_iff.2 h, hs]

end Records

/-! ### Contributors (R122 to R124) -/

section Contributors

variable (h : 1 ≤ id ∧ id ≤ 1023)

include h

theorem registerContributor_of_unused (hs : (s.contributor id).state = .unused) :
    registerContributor id s = (s.putContributor id { s.contributor id with state := .active, share := 0 }, plain .ok) := by
  simp [registerContributor, contributorId_iff.2 h, hs]

theorem registerContributor_of_used (hs : (s.contributor id).state ≠ .unused) : registerContributor id s = deny .alreadyExists s := by
  simp [registerContributor, contributorId_iff.2 h, hs]

theorem setContributorState_of_used {code : Nat} {st : ContributorState} (hc : settableStateOf code = some st)
    (hs : (s.contributor id).state ≠ .unused) : setContributorState id code s
      = (s.putContributor id { s.contributor id with state := st }, ⟨.ok, contributorOctets { s.contributor id with state := st }⟩) := by
  simp [setContributorState, contributorId_iff.2 h, hc, hs]

theorem setContributorState_of_unused {code : Nat} {st : ContributorState} (hc : settableStateOf code = some st)
    (hs : (s.contributor id).state = .unused) : setContributorState id code s = deny .notFound s := by
  simp [setContributorState, contributorId_iff.2 h, hc, hs]

theorem setShare_of_used (hx : share ≤ 1000) (hs : (s.contributor id).state ≠ .unused) : setShare id share s
    = (s.putContributor id { s.contributor id with share := share }, ⟨.ok, contributorOctets { s.contributor id with share := share }⟩) := by
  simp [setShare, contributorId_iff.2 h, hx, hs]

theorem setShare_of_unused (hx : share ≤ 1000) (hs : (s.contributor id).state = .unused) : setShare id share s = deny .notFound s := by
  simp [setShare, contributorId_iff.2 h, hx, hs]

end Contributors

theorem setContributorState_of_other {code : Nat} (hc : settableStateOf code = none) :
    setContributorState id code s = deny .badArgument s := by
  simp [setContributorState, hc]

theorem setShare_of_excess (hx : 1000 < share) : setShare id share s = deny .badArgument s := by
  simp [setShare, Nat.not_le.2 hx]

theorem settableStateOf_none {code : Nat} (ha : code ≠ 2) (hb : code ≠ 3) : settableStateOf code = none := by
  unfold settableStateOf
  split
  · exact absurd rfl ha
  · exact absurd rfl hb
  · rfl

/-- Settles O39, by the cases of the three rules. -/
theorem contributorsAreRegisteredAndSet : Obligations.ContributorsAreRegisteredAndSet := by
  intro f id s low high
  have h : 1 ≤ id ∧ id ≤ 1023 := ⟨low, high⟩
  refine ⟨fun hadm => ⟨fun hs => congrArg _ (serve_of_rule hadm (registerContributor_of_unused h hs)),
      fun hs => congrArg _ (serve_of_rule hadm (registerContributor_of_used h hs)), fun code st hcode => ?_,
      fun code ha hb => congrArg _ (serve_of_rule hadm (setContributorState_of_other (settableStateOf_none ha hb)))⟩,
    fun hadm share => ⟨fun hx hs => congrArg _ (serve_of_rule hadm (setShare_of_used h hx hs)),
      fun hx hs => congrArg _ (serve_of_rule hadm (setShare_of_unused h hx hs)),
      fun hx => congrArg _ (serve_of_rule hadm (setShare_of_excess hx))⟩⟩
  have hc : settableStateOf code = some st := by
    rcases hcode with ⟨rfl, rfl⟩ | ⟨rfl, rfl⟩ <;> rfl
  exact ⟨fun hs => congrArg _ (serve_of_rule hadm (setContributorState_of_used h hc hs)),
    fun hs => congrArg _ (serve_of_rule hadm (setContributorState_of_unused h hc hs))⟩

/-! ### Tariffs (R125, R126) -/

theorem requestedCell_of_fitting {base q minimum : Nat} (hb : base ≤ 1000000) (hq : q = 1 ∨ q = 10 ∨ q = 100 ∨ q = 1000)
    (hm : minimum ≤ 1000000) : requestedCell 1 base q minimum = some ⟨true, base, q, minimum⟩ :=
  if_pos ⟨hb, by simpa using hq, hm⟩

theorem requestedCell_of_misfit {base q minimum : Nat}
    (h : ¬(base ≤ 1000000 ∧ (q = 1 ∨ q = 10 ∨ q = 100 ∨ q = 1000) ∧ minimum ≤ 1000000)) : requestedCell 1 base q minimum = none :=
  if_neg (by simpa using h)

theorem setTariff_of_cell {kind usage action base q minimum : Nat} {k : Kind} {u : Usage} {v : TariffCell} (hk : kindOf kind = some k)
    (hu : usageOf usage = some u) (hc : tariffClass ≤ 3) (hv : requestedCell action base q minimum = some v) :
    setTariff kind usage tariffClass action base q minimum s = (s.putCell k u tariffClass v, ⟨.ok, cellOctets v⟩) := by
  simp [setTariff, hk, hu, hv, Nat.not_lt.2 hc]

theorem setTariff_of_no_cell {kind usage action base q minimum : Nat} (hv : requestedCell action base q minimum = none) :
    setTariff kind usage tariffClass action base q minimum s = deny .badArgument s := by
  unfold setTariff
  rw [hv]
  split
  · rename_i h; cases h
  · rfl

/-- Cells of different kinds, usages or classes have different numbers. -/
theorem cellIndex_inj {k k' : Kind} {u u' : Usage} {c c' : Nat} (hc : c ≤ 3) (hc' : c' ≤ 3) :
    cellIndex k u c = cellIndex k' u' c' ↔ k = k' ∧ u = u' ∧ c = c' := by
  have kinds : kindCode k - 1 = kindCode k' - 1 ↔ k = k' := by cases k <;> cases k' <;> decide
  have usages : usageCode u - 1 = usageCode u' - 1 ↔ u = u' := by cases u <;> cases u' <;> decide
  have bound : usageCode u - 1 ≤ 3 := by cases u <;> decide
  have bound' : usageCode u' - 1 ≤ 3 := by cases u' <;> decide
  rw [← kinds, ← usages, cellIndex, cellIndex]
  omega

/-- A cell that is put is read back, and no other cell changes. -/
theorem cell_putCell {k k' : Kind} {u u' : Usage} {c c' : Nat} (v : TariffCell) (hc : c ≤ 3) (hc' : c' ≤ 3)
    (ho : Table.Ordered s.ledger.tariffs) :
    (s.putCell k u c v).cell k' u' c' = if k' = k ∧ u' = u ∧ c' = c then v else s.cell k' u' c' := by
  split
  · rename_i h
    obtain ⟨rfl, rfl, rfl⟩ := h
    exact tgetD_tset_self _ ho _ _
  · rename_i h
    exact tgetD_tset_ne _ _ _ _ _ (fun e => h ((cellIndex_inj hc' hc).1 e))

theorem globalsInRange_iff {m0 m1 m2 m3 r p : Nat} : Globals.inRange ⟨m0, m1, m2, m3, r, p⟩ = true ↔
    (∀ m ∈ [m0, m1, m2, m3], 100 ≤ m ∧ m ≤ 5000) ∧ r ≤ 1000000 ∧ p ≤ 1000 := by
  simp [Globals.inRange, multiplierInRange, and_assoc]

/-- Settles O40: a cell is the one asked for and is read back alone (`cell_putCell`), and the globals are taken where all are in range. -/
theorem tariffsTakeTheirValues : Obligations.TariffsTakeTheirValues := by
  intro f s hadm
  refine ⟨fun kind usage tariffClass base q minimum k u hk hu hc => ⟨fun hb hq hm => ?_, fun h => ?_, ?_, fun v k' u' c hc' ho => ?_⟩,
    fun m0 m1 m2 m3 r p => ⟨fun h => ?_, fun h => ?_⟩⟩
  · exact congrArg _ (serve_of_rule hadm (setTariff_of_cell hk hu hc (requestedCell_of_fitting hb hq hm)))
  · exact congrArg _ (serve_of_rule hadm (setTariff_of_no_cell (requestedCell_of_misfit h)))
  · exact congrArg _ (serve_of_rule hadm (setTariff_of_cell hk hu hc rfl))
  · exact cell_putCell v hc hc' ho
  · exact congrArg _ (serve_of_rule hadm (if_pos (globalsInRange_iff.2 h)))
  · exact congrArg _ (serve_of_rule hadm (if_neg (fun g => h (globalsInRange_iff.1 g))))

/-! ### The rights judgement (R127) -/

/-- The photo of an entry that is not vacant. -/
def State.photoOf (s : State) (t : Placement) (ph : Object) : Prop := t.vacant = false ∧ s.object t.photo = some ph

/-- Whether an entry is not vacant and its photo is picked. -/
def State.picks (s : State) (pick : Object → Bool) (t : Placement) : Bool := !t.vacant && (s.object t.photo).any pick

theorem picks_iff {pick : Object → Bool} {t : Placement} : s.picks pick t = true ↔ ∃ ph, s.photoOf t ph ∧ pick ph = true := by
  simp only [State.picks, State.photoOf, Bool.and_eq_true, Bool.not_eq_true', Option.any_eq_true, and_assoc, exists_and_left]

theorem picks_eq_false_iff {pick : Object → Bool} {t : Placement} :
    s.picks pick t = false ↔ ∀ ph, s.photoOf t ph → pick ph = false := by
  rw [Bool.eq_false_iff, ne_eq, picks_iff]
  simp only [not_exists, not_and, Bool.not_eq_true]

theorem firstEntry_eq (pick : Object → Bool) (ts : List Placement) :
    s.firstEntry pick ts = (ts.findIdx? (s.picks pick)).map (· + 1) := by
  have same : (fun t : Placement => !t.vacant && (match s.object t.photo with | some o => pick o | none => false)) = s.picks pick :=
    funext fun t => by
      unfold State.picks
      cases s.object t.photo <;> rfl
  rw [← same]
  rfl

theorem firstEntry_none_iff {pick : Object → Bool} {ts : List Placement} :
    s.firstEntry pick ts = none ↔ ∀ t ∈ ts, ∀ ph, s.photoOf t ph → pick ph = false := by
  rw [firstEntry_eq, Option.map_eq_none_iff, List.findIdx?_eq_none_iff]
  exact forall₂_congr fun t _ => picks_eq_false_iff

/-- The first entry that is picked stands behind entries that are not. -/
theorem firstEntry_of_first {pick : Object → Bool} {a b : List Placement} {t : Placement} {ph : Object} (ht : s.photoOf t ph)
    (hp : pick ph = true) (ha : ∀ x ∈ a, ∀ y, s.photoOf x y → pick y = false) : s.firstEntry pick (a ++ t :: b) = some (a.length + 1) := by
  have before : a.findIdx? (s.picks pick) = none := List.findIdx?_eq_none_iff.2 fun x hx => picks_eq_false_iff.2 (ha x hx)
  have here : s.picks pick t = true := picks_iff.2 ⟨ph, ht, hp⟩
  rw [firstEntry_eq, List.findIdx?_append, before, List.findIdx?_cons, here]
  simp

theorem barred_iff {c : Nat} : s.barred c = true ↔ c ≠ 0 ∧ (s.contributor c).state = .barred := by
  simp [State.barred]

theorem reprint_iff {r : Rights} : r = .reprint ↔ r ≠ .noReprint := by cases r <;> simp

theorem noReprint_beq {r : Rights} (h : r = .reprint) : (r == .noReprint) = false := by rw [h]; rfl

section Judgement

variable {o : Object}

theorem judgeRights_of_noReprint (h : o.rights = .noReprint) : s.judgeRights o = some ⟨1, none⟩ := if_pos h

variable (h : o.rights = .reprint)

include h

theorem judgeRights_of_barred (hb : s.barred o.contributor = true) : s.judgeRights o = some ⟨2, none⟩ := by
  rw [State.judgeRights, if_neg (reprint_iff.1 h), if_pos hb]

/-- Once the object itself passes, its placements are judged. -/
theorem judgeRights_of_entries (hb : ¬s.barred o.contributor = true) : s.judgeRights o
    = match s.firstEntry (fun ph => ph.rights == .noReprint) o.placements with
      | some i => some ⟨3, some i⟩
      | none => (s.firstEntry (fun ph => s.barred ph.contributor) o.placements).map (fun i => ⟨4, some i⟩) := by
  rw [State.judgeRights, if_neg (reprint_iff.1 h), if_neg hb]
  cases s.firstEntry (fun ph => ph.rights == .noReprint) o.placements with
  | some i => rfl
  | none => cases s.firstEntry (fun ph => s.barred ph.contributor) o.placements <;> rfl

end Judgement

theorem judgeRights_of_third {o : Object} (h : o.rights = .reprint) (hb : ¬s.barred o.contributor = true) {i : Nat}
    (hi : s.firstEntry (fun ph => ph.rights == .noReprint) o.placements = some i) : s.judgeRights o = some ⟨3, some i⟩ := by
  rw [judgeRights_of_entries h hb, hi]

theorem judgeRights_of_fourth {o : Object} (h : o.rights = .reprint) (hb : ¬s.barred o.contributor = true)
    (none : s.firstEntry (fun ph => ph.rights == .noReprint) o.placements = none) :
    s.judgeRights o = (s.firstEntry (fun ph => s.barred ph.contributor) o.placements).map (fun i => ⟨4, some i⟩) := by
  rw [judgeRights_of_entries h hb, none]

/-- An object passes exactly if none of the four cases is met. -/
theorem judgeRights_none_iff {o : Object} : s.judgeRights o = none ↔ o.rights = .reprint ∧ ¬s.barred o.contributor = true ∧
    s.firstEntry (fun ph => ph.rights == .noReprint) o.placements = none ∧
    s.firstEntry (fun ph => s.barred ph.contributor) o.placements = none := by
  by_cases h : o.rights = .reprint
  · by_cases hb : s.barred o.contributor = true
    · simp [judgeRights_of_barred h hb, hb]
    · cases hf : s.firstEntry (fun ph => ph.rights == .noReprint) o.placements with
      | some i => simp [judgeRights_of_third h hb hf]
      | none => simp [judgeRights_of_fourth h hb hf, h, hb]
  · have failed : s.judgeRights o = some ⟨1, none⟩ := judgeRights_of_noReprint (by simpa [reprint_iff] using h)
    simp [failed, h]

/-- Settles O41: the judgement's cases in the order of its table, each by the first entry that meets it (`firstEntry_of_first`). -/
theorem rightsJudgementNamesTheFirstCase : Obligations.RightsJudgementNamesTheFirstCase := by
  intro o s barred photo
  have unbarred : ∀ c, ¬barred c → ¬s.barred c = true := fun c h b => h (barred_iff.1 b)
  have barred_false : ∀ c, ¬barred c → s.barred c = false := fun c h => Bool.eq_false_iff.2 (unbarred c h)
  refine ⟨judgeRights_of_noReprint, fun h hb => judgeRights_of_barred h (barred_iff.2 hb), fun h hb a t b ph hp ht hr ha => ?_,
    fun h hb free a t b ph hp ht hr ha => ?_, ?_⟩
  · refine judgeRights_of_third h (unbarred _ hb) ?_
    rw [hp]
    exact firstEntry_of_first ht (by rw [hr]; rfl) fun x hx y hy => noReprint_beq (ha x hx y hy)
  · have none : s.firstEntry (fun ph => ph.rights == .noReprint) o.placements = none :=
      firstEntry_none_iff.2 fun x hx y hy => noReprint_beq (free x hx y hy)
    rw [judgeRights_of_fourth h (unbarred _ hb) none, hp,
      firstEntry_of_first ht (barred_iff.2 hr) fun x hx y hy => barred_false _ (ha x hx y hy)]
    rfl
  · rw [judgeRights_none_iff, firstEntry_none_iff, firstEntry_none_iff]
    refine and_congr_right fun _ => and_congr (not_congr barred_iff) ⟨fun ⟨free, clear⟩ x hx y hy => ⟨?_, ?_⟩, fun all => ⟨?_, ?_⟩⟩
    · exact reprint_iff.2 (beq_eq_false_iff_ne.1 (free x hx y hy))
    · exact fun b => Bool.eq_false_iff.1 (clear x hx y hy) (barred_iff.2 b)
    · exact fun x hx y hy => noReprint_beq (all x hx y hy).1
    · exact fun x hx y hy => barred_false _ (all x hx y hy).2

end Sys2Proof.Machine
end

section
/-! StepKeepsMoney: the books and the bookings, as plain data, and what `MoneyOk` says of them (R114, R120, R135, R153). -/

namespace Sys2Proof.Machine

variable {s t u : State}

/-! ### Figures summed over a table -/

/-- A figure of a table's records, summed. -/
def tsum {α : Type} (g : α → Nat) (l : Table α) : Nat := (l.map (fun e => g e.2)).sum

section Sums

variable {α : Type} {g : α → Nat} {d : α} {l : Table α}

theorem tsum_cons (e : Nat × α) (l : Table α) : tsum g (e :: l) = g e.2 + tsum g l := List.sum_cons

/-- A record that changes counts in place of what it was, where an unlisted record counts nothing. -/
theorem tsum_tput (hd : g d = 0) (ho : Table.Ordered l) (k : Nat) (v : α) : tsum g (tput l k v) + g (tgetD d l k) = tsum g l + g v := by
  induction l with
  | nil => simp [tput, tgetD, tget, tsum, hd]
  | cons e l ih =>
    obtain ⟨j, w⟩ := e
    obtain ⟨after, ho⟩ := ordered_cons.1 ho
    unfold tput
    by_cases hk : k < j
    · have fresh : tget ((j, w) :: l) k = none := tget_none_of_lt fun e he => by
        rcases List.mem_cons.1 he with rfl | he
        · exact hk
        · exact hk.trans (after e he)
      simp only [if_pos hk, tsum_cons, tgetD, fresh, Option.getD_none, hd]
      omega
    · by_cases hj : j = k
      · simp only [if_neg hk, if_pos hj, tsum_cons, tgetD, tget, Option.getD_some]
        omega
      · have rest := ih ho
        have here : tgetD d ((j, w) :: l) k = tgetD d l k := by simp only [tgetD, tget, if_neg hj]
        simp only [if_neg hk, if_neg hj, tsum_cons, here]
        omega

/-- A record that is taken away no longer counts. -/
theorem tsum_tdel (hd : g d = 0) (l : Table α) (k : Nat) : tsum g (tdel l k) + g (tgetD d l k) = tsum g l := by
  induction l with
  | nil => simp [tdel, tgetD, tget, tsum, hd]
  | cons e l ih =>
    obtain ⟨j, w⟩ := e
    unfold tdel
    by_cases hj : j = k
    · simp only [if_pos hj, tsum_cons, tgetD, tget, Option.getD_some]
      omega
    · have here : tgetD d ((j, w) :: l) k = tgetD d l k := by simp only [tgetD, tget, if_neg hj]
      simp only [if_neg hj, tsum_cons, here]
      omega

theorem tsum_tset [DecidableEq α] (hd : g d = 0) (ho : Table.Ordered l) (k : Nat) (v : α) :
    tsum g (tset d l k v) + g (tgetD d l k) = tsum g l + g v := by
  unfold tset
  split
  · rename_i hv
    rw [hv, hd]
    exact tsum_tdel hd l k
  · exact tsum_tput hd ho k v

/-- Every record changes. -/
theorem tsum_tmapD [DecidableEq α] (hd : g d = 0) (f : α → α) (l : Table α) : tsum g (tmapD d f l) = tsum (g ∘ f) l := by
  induction l with
  | nil => rfl
  | cons e l ih =>
    have split : tmapD d f (e :: l) = if f e.2 = d then tmapD d f l else (e.1, f e.2) :: tmapD d f l := by
      unfold tmapD
      rw [List.filterMap_cons]
      split <;> rename_i h <;> split at h <;> simp_all
    rw [split, tsum_cons, ← ih]
    split
    · rename_i h; simp [h, hd]
    · exact tsum_cons _ _

theorem tsum_le {f : α → Nat} (h : ∀ a, f a ≤ g a) (l : Table α) : tsum f l ≤ tsum g l := by
  induction l with
  | nil => exact Nat.le_refl _
  | cons e l ih => rw [tsum_cons, tsum_cons]; exact Nat.add_le_add (h e.2) ih

theorem tsum_zero (h : ∀ a, g a = 0) (l : Table α) : tsum g l = 0 := by
  induction l with
  | nil => rfl
  | cons e l ih => rw [tsum_cons, ih, h]

end Sums

/-- A value that is read in a table is a listed one or the unlisted one. -/
theorem tgetD_mem {α : Type} {P : α → Prop} {d : α} {l : Table α} (hd : P d) (h : ∀ e ∈ l, P e.2) (k : Nat) : P (tgetD d l k) := by
  unfold tgetD
  cases hk : tget l k with
  | none => exact hd
  | some v => exact h (k, v) (mem_of_tget hk)

/-! ### The books -/

/-- The accounts, the contributors, the pool's rate and the house revenue. -/
structure Books where
  accounts : Table Account
  contributors : Table Contributor
  pool : Nat
  revenue : Nat

/-- The books of a state. -/
def State.books (s : State) : Books :=
  { accounts := s.ledger.accounts, contributors := s.ledger.contributors, pool := s.ledger.globals.p, revenue := s.billing.revenue }

namespace Books

/-- The record of an account. -/
def account (b : Books) (id : Nat) : Account := tgetD Account.formatted b.accounts id

/-- The record of a contributor. -/
def contributor (b : Books) (id : Nat) : Contributor := tgetD Contributor.formatted b.contributors id

/-- The books with the record of an account replaced. -/
def putAccount (b : Books) (id : Nat) (a : Account) : Books := { b with accounts := tset Account.formatted b.accounts id a }

/-- The books with the record of a contributor replaced. -/
def putContributor (b : Books) (id : Nat) (c : Contributor) : Books :=
  { b with contributors := tset Contributor.formatted b.contributors id c }

end Books

/-- What `MoneyOk` says of one account record. -/
structure Account.Sound (a : Account) : Prop where
  unused : a.state = .unused → a.charged = 0
  limit : -(a.limit : Int) ≤ a.balance - a.held
  widths : a.limit ≤ Config.maxBalance ∧ a.balance ≤ Config.maxBalance

theorem Account.Sound.formatted : Account.formatted.Sound := by constructor <;> decide

/-- The clauses of `MoneyOk` on the books, of which `owed` has been charged and not yet been paid out. -/
structure Books.Ok (owed : Nat) (b : Books) : Prop where
  accounts : Table.Canonical Account.formatted b.accounts
  ids : ∀ e ∈ b.accounts, 1 ≤ e.1 ∧ e.1 ≤ 255
  contributors : Table.Canonical Contributor.formatted b.contributors
  shares : ∀ e ∈ b.contributors, e.2.share ≤ 1000
  pool : b.pool ≤ 1000
  records : ∀ id ≤ 255, (b.account id).Sound
  exposure : tsum (fun a => a.charged + a.held) b.accounts ≤ Config.maxExposure
  balance : tsum (·.charged) b.accounts = b.revenue + tsum (·.accrual) b.contributors + owed

namespace Books.Ok

variable {b : Books} {owed owed' id : Nat}

theorem share_le (k : b.Ok owed) (id : Nat) : (b.contributor id).share ≤ 1000 :=
  tgetD_mem (P := fun c : Contributor => c.share ≤ 1000) (Nat.zero_le _) k.shares id

theorem account_putAccount (k : b.Ok owed) (id : Nat) (a : Account) (j : Nat) :
    (b.putAccount id a).account j = if j = id then a else b.account j := by
  split
  · rename_i h; subst h; exact tgetD_tset_self _ k.accounts.1 _ _
  · rename_i h; exact tgetD_tset_ne _ _ _ _ _ h

/-- An account's record changes, within the exposure that there may be, and what it is charged more is owed. -/
theorem putAccount (k : b.Ok owed) (hid : 1 ≤ id ∧ id ≤ 255) {a : Account} (sound : a.Sound)
    (room : tsum (fun a => a.charged + a.held) b.accounts + (a.charged + a.held)
      ≤ Config.maxExposure + ((b.account id).charged + (b.account id).held))
    (charge : owed' + (b.account id).charged = owed + a.charged) : (b.putAccount id a).Ok owed' := by
  have exposed := tsum_tset (g := fun a : Account => a.charged + a.held) (d := Account.formatted) rfl k.accounts.1 id a
  have charged := tsum_tset (g := fun a : Account => a.charged) (d := Account.formatted) rfl k.accounts.1 id a
  refine { k with
    accounts := canonical_tset _ k.accounts id a, ids := fun e he => ?_, records := fun j hj => ?_, exposure := ?_, balance := ?_ }
  · rcases mem_tset he with rfl | he
    · exact hid
    · exact k.ids e he
  · rw [k.account_putAccount]
    split
    · exact sound
    · exact k.records j hj
  · simp only [Books.account, Books.putAccount] at room ⊢
    omega
  · have balance := k.balance
    simp only [Books.account, Books.putAccount] at charge balance ⊢
    omega

/-- A contributor's record changes, and what it accrues more is owed no longer. -/
theorem putContributor (k : b.Ok owed) {c : Contributor} (share : c.share ≤ 1000)
    (paid : owed' + c.accrual = owed + (b.contributor id).accrual) : (b.putContributor id c).Ok owed' := by
  have accrued := tsum_tset (g := fun c : Contributor => c.accrual) (d := Contributor.formatted) rfl k.contributors.1 id c
  refine { k with contributors := canonical_tset _ k.contributors id c, shares := fun e he => ?_, balance := ?_ }
  · rcases mem_tset he with rfl | he
    · exact share
    · exact k.shares e he
  · have balance := k.balance
    simp only [Books.contributor, Books.putContributor] at paid balance ⊢
    omega

/-- The house takes what is owed. -/
theorem takeRevenue (k : b.Ok owed) : Books.Ok 0 { b with revenue := b.revenue + owed } :=
  { k with balance := by have balance := k.balance; simp only; omega }

end Books.Ok

/-! ### The bookings -/

/-- What a stream's kind holds of an account. -/
def feeOf (account : Nat) : StreamKind → Nat
  | .order o => if o.account = account then o.breakdown.fee else 0
  | _ => 0

/-- What a queue's streams hold of an account. -/
def feesOf (account : Nat) (l : List (Nat × StreamKind)) : Nat := (l.map (fun x => feeOf account x.2)).sum

/-- Who waits in the ports' queues, whether the part works, and whether it is in START. -/
structure Bookings where
  running : Bool
  inStart : Bool
  ports : PerPort (List (Nat × StreamKind))

/-- The bookings of a state. -/
def State.bookings (s : State) : Bookings :=
  { running := s.running, inStart := s.control.mode == .start,
    ports := ⟨queueView s.streams.ports.desk, queueView s.streams.ports.bench, queueView s.streams.ports.counter⟩ }

/-- An order is on an account's record, and its breakdown is balanced. -/
structure OrderPart.Sound (o : OrderPart) : Prop where
  account : 1 ≤ o.account ∧ o.account ≤ 255
  balanced : o.breakdown.balanced

/-- The clauses of `MoneyOk` on the bookings: orders wait at the counter port alone, each is sound and has a name of its own, and none
waits in START. -/
structure Bookings.Ok (q : Bookings) : Prop where
  idle : q.running = false → q.inStart = true
  orders : ∀ p, ∀ x ∈ q.ports.get p, ∀ o, x.2 = .order o → p = .counter ∧ o.Sound
  names : (q.ports.counter.map (·.1)).Nodup
  start : q.inStart = true → q.ports.counter = []

/-- The clauses of `MoneyOk` that tie the books to the bookings: outside START held is what the orders hold, and an UNUSED account holds
nothing. -/
def Reserved (b : Books) (q : Bookings) : Prop :=
  q.inStart = false → ∀ id ≤ 255, (b.account id).held = feesOf id q.ports.counter ∧
    ((b.account id).state = .unused → (b.account id).held = 0)

theorem bookings_get (s : State) (p : Port) : s.bookings.ports.get p = queueView (s.portStreams p) := by cases p <;> rfl

theorem mem_queueView {ps : PortStreams} {st : Stream} (h : st ∈ ps.queue) : (st.id, st.kind) ∈ queueView ps :=
  List.mem_map_of_mem (f := fun st : Stream => (st.id, st.kind)) h

theorem queueView_ids (ps : PortStreams) : (queueView ps).map (·.1) = ps.queue.map (·.id) := by
  rw [queueView, List.map_map]; rfl

theorem feesIn_eq (account : Nat) (ps : PortStreams) : feesIn account ps.queue = feesOf account (queueView ps) := by
  rw [feesIn, feesOf, queueView, List.map_map]
  refine congrArg List.sum (List.map_congr_left fun st _ => ?_)
  simp only [Function.comp_apply]
  cases st.kind <;> rfl

/-- The clauses of `MoneyOk`: on the books, on the bookings, and on both. -/
theorem moneyOk_iff : MoneyOk s ↔ s.books.Ok 0 ∧ s.bookings.Ok ∧ Reserved s.books s.bookings := by
  have mode : s.bookings.inStart = true ↔ s.control.mode = .start := beq_iff_eq
  have outside : s.bookings.inStart = false ↔ s.control.mode ≠ .start := beq_eq_false_iff_ne
  have empty : s.bookings.ports.counter = [] ↔ s.streams.ports.counter.queue = [] := List.map_eq_nil_iff
  have ids : s.bookings.ports.counter.map (·.1) = s.streams.ports.counter.queue.map (·.id) := queueView_ids _
  have fees : ∀ id, feesOf id s.bookings.ports.counter = feesIn id s.streams.ports.counter.queue := fun id => (feesIn_eq id _).symm
  have none : ∀ ps : PortStreams, (∀ st ∈ ps.queue, st.isOrder = false) ↔ ∀ x ∈ queueView ps, ∀ o, x.2 ≠ .order o := fun ps => by
    simp only [queueView, List.forall_mem_map, Stream.isOrder]
    refine forall₂_congr fun st _ => ?_
    cases st.kind <;> simp
  have sound : ∀ ps : PortStreams, (∀ st ∈ ps.queue, soundOrder st) ↔ ∀ x ∈ queueView ps, ∀ o, x.2 = .order o → o.Sound := fun ps => by
    simp only [queueView, List.forall_mem_map, soundOrder]
    refine forall₂_congr fun st _ => ?_
    cases st.kind with
    | order o =>
      constructor
      · rintro ⟨low, high, balanced⟩ _ ⟨⟩
        exact ⟨⟨low, high⟩, balanced⟩
      · intro h
        obtain ⟨⟨low, high⟩, balanced⟩ := h o rfl
        exact ⟨low, high, balanced⟩
    | _ => exact ⟨fun _ _ h => (nomatch h), fun _ => trivial⟩
  constructor
  · rintro ⟨idle, accounts, aids, contributors, shares, pool, desk, bench, orders, names, start, held, unused, unheld, limits, widths,
      exposure, books⟩
    refine ⟨⟨accounts, aids, contributors, shares, pool, fun id h => ⟨unused id h, limits id h, widths id h⟩, exposure, books⟩,
      ⟨fun h => mode.2 (idle h), fun p x hx o ho => ?_, ids ▸ names, fun h => empty.2 (start (mode.1 h))⟩, fun m id h => ?_⟩
    · cases p with
      | desk => exact absurd ho ((none _).1 desk x hx o)
      | bench => exact absurd ho ((none _).1 bench x hx o)
      | counter => exact ⟨rfl, (sound _).1 orders x hx o ho⟩
    · exact ⟨(held (outside.1 m) id h).trans (fees id).symm, unheld (outside.1 m) id h⟩
  · rintro ⟨k, q, r⟩
    have away : ∀ p, p ≠ .counter → ∀ x ∈ s.bookings.ports.get p, ∀ o, x.2 ≠ .order o :=
      fun p hp x hx o ho => hp (q.orders p x hx o ho).1
    exact ⟨fun h => mode.1 (q.idle h), k.accounts, k.ids, k.contributors, k.shares, k.pool, (none _).2 (away .desk nofun),
      (none _).2 (away .bench nofun), (sound _).2 fun x hx o ho => (q.orders .counter x hx o ho).2, ids ▸ q.names,
      fun h => empty.1 (q.start (mode.2 h)), fun m id h => ((r (outside.2 m) id h).1.trans (fees id)), fun id h => (k.records id h).unused,
      fun m id h => (r (outside.2 m) id h).2, fun id h => (k.records id h).limit, fun id h => (k.records id h).widths, k.exposure, k.balance⟩

end Sys2Proof.Machine
end

section
/-! StepKeepsMoney: the changes that touch no money, the accounts that change alone, and the orders that come, are charged and are
released (R117, R120, R143, R144). -/

namespace Sys2Proof.Machine

variable {s t u : State}

/-! ### Changes that touch no money -/

/-- The books and the bookings stay as they are. -/
structure MoneyKept (s t : State) : Prop where
  books : t.books = s.books
  bookings : t.bookings = s.bookings

theorem MoneyOk.kept (k : MoneyOk s) (h : MoneyKept s t) : MoneyOk t := by
  rw [moneyOk_iff] at k ⊢
  rw [h.books, h.bookings]
  exact k

namespace MoneyKept

theorem aside (hb : t.books = s.books) (hq : t.bookings = s.bookings) : MoneyKept s t := ⟨hb, hq⟩

theorem refl : MoneyKept s s := ⟨rfl, rfl⟩

theorem of_eq (h : t = s) : MoneyKept s t := h ▸ refl

theorem trans (h : MoneyKept s t) (k : MoneyKept t u) : MoneyKept s u := ⟨k.books.trans h.books, k.bookings.trans h.bookings⟩

/-- The quiet part of the state holds the books, and the bookings but for the mode. -/
theorem of_quiet (h : t.quiet = s.quiet) (m : t.control.mode = .start ↔ s.control.mode = .start) : MoneyKept s t := by
  have ledger : t.ledger = s.ledger := congrArg QuietView.ledger h
  have billing : t.billing = s.billing := congrArg QuietView.billing h
  have powered : t.control.powered = s.control.powered := congrArg QuietView.powered h
  have line : t.control.resetLine = s.control.resetLine := congrArg QuietView.resetLine h
  have desk : queueView t.streams.ports.desk = queueView s.streams.ports.desk := congrArg QuietView.deskQueue h
  have bench : queueView t.streams.ports.bench = queueView s.streams.ports.bench := congrArg QuietView.benchQueue h
  have counter : queueView t.streams.ports.counter = queueView s.streams.ports.counter := congrArg QuietView.counterQueue h
  have mode : (t.control.mode == .start) = (s.control.mode == .start) := Bool.eq_iff_iff.2 (by simpa only [beq_iff_eq] using m)
  exact ⟨by rw [State.books, State.books, ledger, billing],
    by rw [State.bookings, State.bookings, State.running, State.running, powered, line, mode, desk, bench, counter]⟩

/-- What the blocks do in the quiet part of the state. -/
theorem of_works (h : t.quiet = s.quiet) (w : Works True s t) : MoneyKept s t := of_quiet h w.mode

/-- A change that is seen in neither the books nor the bookings comes first. -/
theorem behind (h : MoneyKept t u) (hb : t.books = s.books) (hq : t.bookings = s.bookings) : MoneyKept s u := (aside hb hq).trans h

theorem refuse (p : Port) (tag : Octet) (st : Status) (s : State) : MoneyKept s (refuse p tag st s) := by
  unfold Machine.refuse; simp only; split <;> exact aside rfl rfl

theorem transmit (p : Port) (s : State) : MoneyKept s (transmit p s) := by
  obtain ⟨l, h⟩ := transmit_links p s
  rw [h]; exact aside rfl rfl

theorem transmitAll (s : State) : MoneyKept s (transmitAll s) := by
  obtain ⟨l, h⟩ := transmitAll_links s
  rw [h]; exact aside rfl rfl

theorem readersFall (es : List Extent) (s : State) : MoneyKept s (readersFall es s) := of_works (readersFall_quiet es s) (readersFall_works es s)

/-- The mode at the end of an event is START if it was. -/
theorem settle (s : State) : MoneyKept s (settle s) := by
  refine of_quiet (settle_quiet s) ?_
  unfold Machine.settle
  split
  · exact Iff.rfl
  · rename_i m
    have presented := ((((settleBlocks_works (loose := True) m fun _ => .inl trivial).trans (presentStream_works .desk _)).trans
      (presentStream_works .bench _)).trans (presentStream_works .counter _)).trans (presentSource_works _)
    refine Iff.trans ?_ presented.mode
    generalize presentSource (presentStream .counter (presentStream .bench (presentStream .desk (settleBlocks s)))) = x
    have same : ((arbitrate x).control.mode == .start) = (x.control.mode == .start) := congrArg Holdings.inStart (arbitrate_holdings x)
    rw [← beq_iff_eq, same, beq_iff_eq]

theorem conclude (s : State) : MoneyKept s (conclude s) :=
  ((settle s).trans (of_works (judgeConditions_quiet _) (judgeConditions_works _))).trans (transmitAll _)

end MoneyKept

/-! ### One account changes -/

namespace Reserved

variable {b : Books} {q q' : Bookings} {id owed : Nat} {a : Account}

/-- An account's record changes with the orders that it holds. -/
theorem exchange (r : Reserved b q) (k : b.Ok owed) (mode : q'.inStart = q.inStart)
    (here : q.inStart = false → a.held = feesOf id q'.ports.counter ∧ (a.state = .unused → a.held = 0))
    (others : ∀ j ≠ id, feesOf j q'.ports.counter = feesOf j q.ports.counter) : Reserved (b.putAccount id a) q' := by
  intro m j hj
  rw [mode] at m
  rw [k.account_putAccount]
  split
  · rename_i h; subst h; exact here m
  · rename_i h; rw [others j h]; exact r m j hj

end Reserved

/-- Outside START. -/
theorem bookings_inStart (m : s.control.mode ≠ .start) : s.bookings.inStart = false := beq_eq_false_iff_ne.2 m

namespace MoneyOk

/-- What is held of an account outside START. -/
theorem held_eq (k : MoneyOk s) (m : s.control.mode ≠ .start) {id : Nat} (h : id ≤ 255) :
    (s.account id).held = feesOf id s.bookings.ports.counter := ((moneyOk_iff.1 k).2.2 (bookings_inStart m) id h).1

theorem sound (k : MoneyOk s) {id : Nat} (h : id ≤ 255) : (s.account id).Sound := (moneyOk_iff.1 k).1.records id h

/-- An account's terms or its balance change, and neither what it holds nor what it was charged. -/
theorem putAccount (k : MoneyOk s) (m : s.control.mode ≠ .start) {id : Nat} (hid : 1 ≤ id ∧ id ≤ 255) {a : Account} (sound : a.Sound)
    (held : a.held = (s.account id).held) (charged : a.charged = (s.account id).charged) (unheld : a.state = .unused → a.held = 0) :
    MoneyOk (s.putAccount id a) := by
  obtain ⟨books, bookings, reserved⟩ := moneyOk_iff.1 k
  have room : tsum (fun a => a.charged + a.held) s.books.accounts + (a.charged + a.held)
      ≤ Config.maxExposure + ((s.books.account id).charged + (s.books.account id).held) := by
    have exposure := books.exposure
    have same : s.books.account id = s.account id := rfl
    rw [same, held, charged]
    omega
  refine moneyOk_iff.2 ⟨books.putAccount hid sound room (by rw [charged]; rfl), bookings,
    reserved.exchange books rfl (fun _ => ⟨?_, unheld⟩) fun _ _ => rfl⟩
  rw [held]
  exact k.held_eq m hid.2

/-- A contributor's record changes, and not what it has accrued. -/
theorem putContributor (k : MoneyOk s) {id : Nat} {c : Contributor} (share : c.share ≤ 1000)
    (accrual : c.accrual = (s.contributor id).accrual) : MoneyOk (s.putContributor id c) := by
  obtain ⟨books, bookings, reserved⟩ := moneyOk_iff.1 k
  exact moneyOk_iff.2 ⟨books.putContributor share (by rw [accrual]; rfl), bookings, reserved⟩

end MoneyOk

/-! ### Orders come and go -/

theorem feesOf_append (j : Nat) (a b : List (Nat × StreamKind)) : feesOf j (a ++ b) = feesOf j a + feesOf j b := by
  simp [feesOf]

theorem feesOf_singleton (j : Nat) (x : Nat × StreamKind) : feesOf j [x] = feeOf j x.2 := by simp [feesOf]

/-- The one entry of an id leaves a queue. -/
theorem feesOf_filter {l : List (Nat × StreamKind)} {i : Nat} {x : StreamKind} (d : (l.map (·.1)).Nodup) (h : (i, x) ∈ l) (j : Nat) :
    feesOf j (l.filter (fun y => y.1 != i)) + feeOf j x = feesOf j l := by
  induction l with
  | nil => cases h
  | cons y l ih =>
    obtain ⟨fresh, d⟩ := List.nodup_cons.1 d
    have split : feesOf j (y :: l) = feeOf j y.2 + feesOf j l := List.sum_cons
    rw [split]
    rcases List.mem_cons.1 h with rfl | h
    · have others : l.filter (fun y => y.1 != i) = l := List.filter_eq_self.2 fun y hy => by
        simpa using fun e : y.1 = i => fresh (List.mem_map.2 ⟨y, hy, e⟩)
      rw [List.filter_cons_of_neg (by simp), others, Nat.add_comm]
    · have other : y.1 ≠ i := fun e => fresh (List.mem_map.2 ⟨(i, x), h, e.symm⟩)
      have kept : feesOf j ((y :: l).filter (fun y => y.1 != i)) = feeOf j y.2 + feesOf j (l.filter (fun y => y.1 != i)) := by
        rw [List.filter_cons_of_pos (by simpa using other)]; exact List.sum_cons
      rw [kept, Nat.add_assoc, ih d h]

theorem feeOf_self (o : OrderPart) : feeOf o.account (.order o) = o.breakdown.fee := if_pos rfl

theorem feeOf_other {o : OrderPart} {j : Nat} (h : j ≠ o.account) : feeOf j (.order o) = 0 := if_neg (Ne.symm h)

/-- A stream that is no order holds nothing. -/
theorem feeOf_of_read {x : StreamKind} (no : ∀ o, x ≠ .order o) (j : Nat) : feeOf j x = 0 := by
  cases x with
  | order o => exact absurd rfl (no o)
  | _ => rfl

/-- The bookings with those of a port replaced. -/
def Bookings.putPort (q : Bookings) (p : Port) (l : List (Nat × StreamKind)) : Bookings := { q with ports := q.ports.set p l }

theorem putPortStreams_bookings (p : Port) (ps : PortStreams) (s : State) :
    (s.putPortStreams p ps).bookings = s.bookings.putPort p (queueView ps) := by cases p <;> rfl

/-- The bookings without the streams of one id. -/
def Bookings.without (q : Bookings) (p : Port) (i : Nat) : Bookings := q.putPort p ((q.ports.get p).filter (fun x => x.1 != i))

theorem queueView_filter (i : Nat) (ps : PortStreams) (ended : List Stream) :
    queueView ⟨ps.queue.filter (fun x => x.id != i), ended⟩ = (queueView ps).filter (fun x => x.1 != i) := by
  rw [queueView, queueView, List.filter_map]; rfl

theorem Bookings.putPort_counter (q : Bookings) (p : Port) (l : List (Nat × StreamKind)) :
    (q.putPort p l).ports.counter = if p = .counter then l else q.ports.counter := by cases p <;> rfl

namespace Bookings.Ok

variable {q : Bookings} {p : Port} {l : List (Nat × StreamKind)}

/-- A port's streams change: orders stay at the counter port, sound and with names of their own, and none comes in START. -/
theorem putPort (k : q.Ok) (orders : ∀ x ∈ l, ∀ o, x.2 = .order o → p = .counter ∧ o.Sound)
    (names : p = .counter → (l.map (·.1)).Nodup) (start : p = .counter → q.inStart = true → l = []) : (q.putPort p l).Ok := by
  refine { k with orders := fun r => ?_, names := ?_, start := fun m => ?_ }
  · rw [Bookings.putPort, PerPort.get_set]
    split
    · rename_i h; subst h; exact orders
    · exact k.orders r
  · rw [putPort_counter]
    split
    · rename_i h; exact names h
    · exact k.names
  · rw [putPort_counter]
    split
    · rename_i h; exact start h m
    · exact k.start m

theorem without (k : q.Ok) (p : Port) (i : Nat) : (q.without p i).Ok := by
  refine k.putPort (fun x hx => k.orders p x (List.mem_filter.1 hx).1) (fun h => ?_) fun h m => ?_
  · subst h; exact k.names.sublist (List.filter_sublist.map _)
  · subst h; rw [show q.ports.get .counter = [] from k.start m]; rfl

end Bookings.Ok

/-- The bookings with a stream at the end of a port's queue. -/
def Bookings.join (q : Bookings) (p : Port) (x : Nat × StreamKind) : Bookings := q.putPort p (q.ports.get p ++ [x])

theorem feesOf_join (q : Bookings) (p : Port) (x : Nat × StreamKind) (j : Nat) :
    feesOf j (q.join p x).ports.counter = feesOf j q.ports.counter + if p = .counter then feeOf j x.2 else 0 := by
  rw [Bookings.join, Bookings.putPort_counter]
  split
  · rename_i h; subst h; rw [feesOf_append, feesOf_singleton]; rfl
  · rfl

/-- Outside START a stream joins under a free id, an order at the counter port alone. -/
theorem Bookings.Ok.join {q : Bookings} (k : q.Ok) (m : q.inStart = false) {p : Port} {x : Nat × StreamKind}
    (free : x.1 ∉ (q.ports.get p).map (·.1)) (order : ∀ o, x.2 = .order o → p = .counter ∧ o.Sound) : (q.join p x).Ok := by
  refine k.putPort (fun y hy o ho => ?_) (fun hp => ?_) fun _ started => absurd (m.symm.trans started) (by simp)
  · rcases List.mem_append.1 hy with hy | hy
    · exact k.orders p y hy o ho
    · cases List.mem_singleton.1 hy; exact order o ho
  · subst hp
    rw [List.map_append, List.nodup_append]
    refine ⟨k.names, List.nodup_singleton _, ?_⟩
    rintro i hi j hj rfl
    have here : i = x.1 := List.mem_singleton.1 hj
    exact free (here ▸ hi)

/-- A stream that is accepted joins its port's queue, and the books stay. -/
theorem acceptStream_money (p : Port) (st : Stream) (s : State) :
    (acceptStream p st s).books = s.books ∧ (acceptStream p st s).bookings = s.bookings.join p (st.id, st.kind) := by
  obtain ⟨x, hx⟩ := acceptStream_rest p st s
  rw [hx]
  refine ⟨rfl, ?_⟩
  rw [putPortStreams_bookings, Bookings.join, bookings_get]
  exact congrArg (s.bookings.putPort p) List.map_append

/-- A stream that ends leaves its port's queue, and the books stay. -/
theorem endStream_money (p : Port) (st : Stream) (x : StreamKind) (final : Option Status) (s : State) :
    (endStream p st x final s).books = s.books ∧ (endStream p st x final s).bookings = s.bookings.without p st.id := by
  have detached : MoneyKept s (if st.fetch = .inFlight then detachFetcher (.stream p) s else s) := by
    split
    · exact .of_works (detachFetcher_quiet _ s) (detachFetcher_works _ (by simp) s)
    · exact .refl
  have fallen := detached.trans (.readersFall st.snapshot _)
  unfold endStream
  simp only
  generalize readersFall st.snapshot (if st.fetch = .inFlight then detachFetcher (.stream p) s else s) = u at fallen
  rw [← fallen.books, ← fallen.bookings]
  cases final <;>
    exact ⟨rfl, by rw [putPortStreams_bookings, queueView_filter, Bookings.without, bookings_get]⟩

namespace MoneyOk

/-- A stream that is no order ends. -/
theorem endStream (k : MoneyOk s) {p : Port} {st : Stream} (h : p = .counter → (st.id, st.kind) ∈ queueView (s.portStreams p))
    (no : ∀ o, st.kind ≠ .order o) (x : StreamKind) (final : Option Status) : MoneyOk (endStream p st x final s) := by
  obtain ⟨books, bookings, reserved⟩ := moneyOk_iff.1 k
  obtain ⟨hb, hq⟩ := endStream_money p st x final s
  rw [moneyOk_iff, hb, hq]
  refine ⟨books, bookings.without p st.id, fun m id hid => ?_⟩
  have fees : feesOf id (s.bookings.without p st.id).ports.counter = feesOf id s.bookings.ports.counter := by
    rw [Bookings.without, Bookings.putPort_counter]
    split
    · rename_i hp
      subst hp
      have left := feesOf_filter bookings.names (h rfl) id
      rwa [feeOf_of_read no] at left
    · rfl
  rw [fees]
  exact reserved m id hid

/-- Where an order waits: at the counter port, outside START, with its fee held of its account. -/
theorem order_waits (k : MoneyOk s) {p : Port} {i : Nat} {o : OrderPart} (h : (i, .order o) ∈ queueView (s.portStreams p)) :
    p = .counter ∧ o.Sound ∧ s.control.mode ≠ .start ∧
      feesOf o.account (s.bookings.without p i).ports.counter + o.breakdown.fee = (s.account o.account).held ∧
      ∀ j ≠ o.account, feesOf j (s.bookings.without p i).ports.counter = feesOf j s.bookings.ports.counter := by
  obtain ⟨-, bookings, -⟩ := moneyOk_iff.1 k
  rw [← bookings_get] at h
  obtain ⟨rfl, sound⟩ := bookings.orders p _ h o rfl
  have m : s.control.mode ≠ .start := fun m => by
    have nobody : s.bookings.ports.get .counter = [] := bookings.start (beq_iff_eq.2 m)
    rw [nobody] at h
    cases h
  have left := feesOf_filter bookings.names h
  refine ⟨rfl, sound, m, ?_, fun j hj => ?_⟩
  · rw [k.held_eq m sound.account.2, ← left, feeOf_self]; rfl
  · rw [← left j, feeOf_other hj]; rfl

/-- An order is released: held falls by its fee, and it leaves the queue (R144). -/
theorem releaseOrder (k : MoneyOk s) {p : Port} {st : Stream} {o : OrderPart} (h : (st.id, .order o) ∈ queueView (s.portStreams p))
    (c : ReleaseCause) (e : Bool) : MoneyOk (releaseOrder p st o c e s) := by
  obtain ⟨books, bookings, reserved⟩ := moneyOk_iff.1 k
  obtain ⟨rfl, sound, m, here, others⟩ := k.order_waits h
  obtain ⟨hb, hq⟩ := endStream_money .counter st (.order { o with cause := some c }) (if e then some .released else none)
    (heldFalls o.account o.breakdown.fee s)
  have record : (s.account o.account).Sound := books.records _ sound.account.2
  have exposure := books.exposure
  have same : s.books.account o.account = s.account o.account := rfl
  unfold Machine.releaseOrder
  rw [moneyOk_iff, hb, hq]
  refine ⟨Books.Ok.putAccount (owed' := 0) books sound.account ⟨record.unused, ?_, record.widths⟩ ?_ rfl, bookings.without .counter st.id,
    reserved.exchange books rfl (fun started => ⟨?_, fun unused => ?_⟩) others⟩
  · have limit := record.limit
    simp only
    omega
  · simp only [same]
    omega
  · simp only
    exact Nat.sub_eq_of_eq_add here.symm
  · have none := (reserved started o.account sound.account.2).2 unused
    rw [same] at none
    simp only [none, Nat.zero_sub]

theorem cutStream (k : MoneyOk s) {p : Port} {st : Stream} (h : (st.id, st.kind) ∈ queueView (s.portStreams p)) (x : Status)
    (c : ReleaseCause) : MoneyOk (cutStream p st x c s) := by
  unfold Machine.cutStream; split
  · rename_i o ho
    exact k.releaseOrder (ho ▸ h) c true
  · rename_i no
    exact k.endStream (fun _ => h) no _ _

/-- An order is accepted: its fee is held, and it joins the counter port's queue under a free id (R140). -/
theorem acceptOrder (k : MoneyOk s) (m : s.control.mode ≠ .start) {a id : Nat} {q : Sale} (ha : 1 ≤ a ∧ a ≤ 255)
    (opened : (s.account a).state = .opened) (balanced : q.breakdown.balanced) (free : id ∉ (s.portStreams .counter).queue.map (·.id))
    (granted : s.reservable (s.account a) q.breakdown.fee = true) : MoneyOk (acceptOrder a id q s) := by
  obtain ⟨books, bookings, reserved⟩ := moneyOk_iff.1 k
  simp only [State.reservable, Bool.and_eq_true, decide_eq_true_eq] at granted
  obtain ⟨limit, exposure⟩ := granted
  obtain ⟨hb, hq⟩ := acceptStream_money .counter (newStream id (.order ⟨a, q.breakdown, none⟩) q.object.key q.version 0 q.version.length)
    (s.putAccount a { s.account a with held := (s.account a).held + q.breakdown.fee })
  have same : s.books.account a = s.account a := rfl
  have exposed : tsum (fun a => a.charged + a.held) s.books.accounts = s.exposure := rfl
  have joined := feesOf_join s.bookings .counter (id, .order ⟨a, q.breakdown, none⟩)
  have record := k.sound ha.2
  rw [← queueView_ids, ← bookings_get] at free
  unfold Machine.acceptOrder
  rw [moneyOk_iff, hb, hq]
  refine ⟨Books.Ok.putAccount (owed' := 0) books ha ⟨record.unused, ?_, record.widths⟩ ?_ rfl,
    bookings.join (bookings_inStart m) free fun o ho => ?_,
    reserved.exchange books rfl (fun _ => ⟨?_, fun unused => ?_⟩) fun j hj => ?_⟩
  · simp only
    omega
  · simp only [same, exposed]
    omega
  · cases ho; exact ⟨rfl, ha, balanced⟩
  · simp only [k.held_eq m ha.2]
    exact ((joined a).trans (congrArg _ (feeOf_self ⟨a, q.breakdown, none⟩))).symm
  · rw [opened] at unused
    cases unused
  · exact (joined j).trans (congrArg _ (feeOf_other (o := ⟨a, q.breakdown, none⟩) hj))

/-- A stream that is no order is accepted. -/
theorem acceptStream (k : MoneyOk s) (m : s.control.mode ≠ .start) {p : Port} {st : Stream} (no : ∀ o, st.kind ≠ .order o)
    (free : st.id ∉ (s.portStreams p).queue.map (·.id)) : MoneyOk (acceptStream p st s) := by
  obtain ⟨books, bookings, reserved⟩ := moneyOk_iff.1 k
  obtain ⟨hb, hq⟩ := acceptStream_money p st s
  rw [← queueView_ids, ← bookings_get] at free
  rw [moneyOk_iff, hb, hq]
  refine ⟨books, bookings.join (bookings_inStart m) free fun o ho => absurd ho (no o), fun started id hid => ?_⟩
  rw [feesOf_join, feeOf_of_read no, ite_self]
  exact reserved started id hid

end MoneyOk

end Sys2Proof.Machine
end

section
/-! StepKeepsMoney: the streams of a whole queue end, an order is charged, a period closes, and a sale's breakdown is balanced (R135, R143,
R147, R156). -/

namespace Sys2Proof.Machine

variable {s t : State}

/-! ### Queues -/

theorem endStream_queueView (p : Port) (st : Stream) (x : StreamKind) (final : Option Status) (s : State) :
    queueView ((endStream p st x final s).portStreams p) = (queueView (s.portStreams p)).filter (fun y => y.1 != st.id) := by
  rw [← bookings_get, (endStream_money p st x final s).2, Bookings.without, Bookings.putPort, PerPort.get_set_self, bookings_get]

/-- One stream of a queue ends at a link reset. -/
def resetStream (p : Port) (st : Stream) (s : State) : State :=
  match st.kind with
  | .order o => releaseOrder p st o .cancelStream false s
  | x => endStream p st x none s

theorem resetStreams_eq (p : Port) (s : State) : resetStreams p s
    = ((s.portStreams p).queue.foldl (fun s st => resetStream p st s) s).putPortStreams p ⟨[], []⟩ := rfl

theorem resetStream_queueView (p : Port) (st : Stream) (s : State) :
    queueView ((resetStream p st s).portStreams p) = (queueView (s.portStreams p)).filter (fun y => y.1 != st.id) := by
  unfold resetStream
  split
  · exact endStream_queueView p st _ _ (heldFalls _ _ s)
  · exact endStream_queueView _ _ _ _ _

namespace MoneyOk

/-- A port's streams change: the counter port's in what the bookings do not show, another port's with no order among them. -/
theorem putPortStreams (k : MoneyOk s) {p : Port} {ps : PortStreams} (same : p = .counter → queueView ps = queueView (s.portStreams p))
    (no : p ≠ .counter → ∀ x ∈ queueView ps, ∀ o, x.2 ≠ .order o) : MoneyOk (s.putPortStreams p ps) := by
  by_cases hp : p = .counter
  · refine k.kept (.aside rfl ?_)
    rw [putPortStreams_bookings, same hp, ← bookings_get, Bookings.putPort, PerPort.set_get]
  · obtain ⟨books, bookings, reserved⟩ := moneyOk_iff.1 k
    rw [moneyOk_iff, putPortStreams_bookings]
    refine ⟨books, bookings.putPort (fun x hx o ho => absurd ho (no hp x hx o)) (fun h => absurd h hp) (fun h => absurd h hp), ?_⟩
    rwa [Reserved, Bookings.putPort_counter, if_neg hp]

theorem names_nodup (k : MoneyOk s) : ((s.portStreams .counter).queue.map (·.id)).Nodup := k.names

/-- The orders that a predicate picks among streams of the queue are released one after the other (R147, R148). -/
theorem releaseOrders (pick : Stream → OrderPart → Bool) (c : ReleaseCause) {sts : List Stream} (d : (sts.map (·.id)).Nodup)
    (h : ∀ st ∈ sts, (st.id, st.kind) ∈ queueView (s.portStreams .counter)) (k : MoneyOk s) : MoneyOk (releaseOrders pick c sts s) := by
  induction sts generalizing s with
  | nil => exact k
  | cons st sts ih =>
    obtain ⟨fresh, d⟩ := List.nodup_cons.1 d
    have here := h st List.mem_cons_self
    have later : ∀ x ∈ sts, (x.id, x.kind) ∈ queueView (s.portStreams .counter) := fun x hx => h x (List.mem_cons_of_mem _ hx)
    unfold Machine.releaseOrders at ih ⊢
    rw [List.foldl_cons]
    split
    · rename_i o ho
      split
      · refine ih d (fun x hx => ?_) (k.releaseOrder (ho ▸ here) c true)
        have other : x.id ≠ st.id := fun e => fresh (List.mem_map.2 ⟨x, hx, e⟩)
        rw [Machine.releaseOrder, endStream_queueView]
        exact List.mem_filter.2 ⟨later x hx, by simpa using other⟩
      · exact ih d later k
    · exact ih d later k

/-- One stream of a queue ends at a link reset (R81, R150). -/
theorem resetStream (k : MoneyOk s) {p : Port} {st : Stream} (h : p = .counter → (st.id, st.kind) ∈ queueView (s.portStreams p))
    (order : ∀ o, st.kind = .order o → p = .counter) : MoneyOk (resetStream p st s) := by
  unfold Machine.resetStream
  split
  · rename_i o ho; exact k.releaseOrder (ho ▸ h (order o ho)) _ _
  · rename_i no; exact k.endStream h no _ _

/-- The streams of a whole queue end one after the other. -/
theorem resetQueue (k : MoneyOk s) {p : Port} {sts : List Stream}
    (h : p = .counter → queueView (s.portStreams p) = sts.map (fun st => (st.id, st.kind)))
    (orders : ∀ st ∈ sts, ∀ o, st.kind = .order o → p = .counter) : MoneyOk (sts.foldl (fun s st => Machine.resetStream p st s) s) ∧
      (p = .counter → queueView ((sts.foldl (fun s st => Machine.resetStream p st s) s).portStreams p) = []) := by
  induction sts generalizing s with
  | nil => exact ⟨k, h⟩
  | cons st sts ih =>
    have k' := k.resetStream (fun hp => (h hp) ▸ List.mem_cons_self) (orders st List.mem_cons_self)
    refine ih k' (fun hp => ?_) fun x hx => orders x (List.mem_cons_of_mem _ hx)
    subst hp
    have distinct := k.names_nodup
    rw [← queueView_ids, h rfl, List.map_cons, List.map_cons, List.nodup_cons] at distinct
    rw [resetStream_queueView, h rfl, List.map_cons, List.filter_cons_of_neg (by simp)]
    refine List.filter_eq_self.2 fun y hy => ?_
    simpa using fun e : y.1 = st.id => distinct.1 (List.mem_map.2 ⟨y, hy, e⟩)

theorem order_port (k : MoneyOk s) {p : Port} {st : Stream} (h : st ∈ (s.portStreams p).queue) {o : OrderPart} (ho : st.kind = .order o) :
    p = .counter ∧ o.Sound := by
  have here := mem_queueView h
  rw [← bookings_get] at here
  exact (moneyOk_iff.1 k).2.1.orders p _ here o ho

theorem resetStreams (k : MoneyOk s) (p : Port) : MoneyOk (resetStreams p s) := by
  obtain ⟨ended, empty⟩ := k.resetQueue (p := p) (sts := (s.portStreams p).queue) (fun _ => rfl) fun st hst o ho => (k.order_port hst ho).1
  rw [resetStreams_eq]
  exact ended.putPortStreams (fun hp => (empty hp).symm) fun _ x hx => absurd hx List.not_mem_nil

end MoneyOk

/-! ### The charge (R143) -/

/-- The parts of an order are paid to its contributors. -/
theorem foldl_accrue {parts : List (Nat × Nat)} {owed : Nat} (k : s.books.Ok (owed + (parts.map (·.2)).sum)) :
    (parts.foldl (fun s e => accrue e s) s).books.Ok owed ∧
      (parts.foldl (fun s e => accrue e s) s).ledger.accounts = s.ledger.accounts := by
  induction parts generalizing s with
  | nil => exact ⟨k, rfl⟩
  | cons e parts ih =>
    have paid : (accrue e s).books.Ok (owed + (parts.map (·.2)).sum) := by
      refine Books.Ok.putContributor k (k.share_le e.1) ?_
      simp only [List.map_cons, List.sum_cons]
      show _ + ((s.contributor e.1).accrual + e.2) = _ + (s.contributor e.1).accrual
      omega
    exact ih paid

theorem countPhotoOrder_books {owed : Nat} (id : Nat) (k : s.books.Ok owed) : (countPhotoOrder id s).books.Ok owed ∧
    (countPhotoOrder id s).ledger.accounts = s.ledger.accounts := by
  unfold countPhotoOrder
  split
  · exact ⟨k, rfl⟩
  · exact ⟨Books.Ok.putContributor k (k.share_le id) rfl, rfl⟩

/-- A charge moves a fee that is held to what was charged, and pays it out to the contributors and the house. -/
theorem chargeOrder_books {o : OrderPart} (k : s.books.Ok 0) (sound : o.Sound) (held : o.breakdown.fee ≤ (s.account o.account).held)
    (unheld : (s.account o.account).state = .unused → (s.account o.account).held = 0) : (chargeOrder o s).books.Ok 0 ∧
      (chargeOrder o s).books.accounts
        = (s.books.putAccount o.account (chargedAccount o.breakdown (s.account o.account))).accounts := by
  have record := k.records _ sound.account.2
  have same : s.books.account o.account = s.account o.account := rfl
  have exposure := k.exposure
  have balanced : o.breakdown.house + (o.breakdown.parts.map (·.2)).sum = o.breakdown.fee := sound.balanced
  rw [same] at record
  have charged : (s.putAccount o.account (chargedAccount o.breakdown (s.account o.account))).books.Ok
      (o.breakdown.house + (o.breakdown.parts.map (·.2)).sum) := by
    refine Books.Ok.putAccount (owed := 0) k sound.account ⟨fun unused => ?_, ?_, record.widths.1, ?_⟩ ?_ ?_
    · have none := unheld unused
      have free := record.unused unused
      simp only [chargedAccount]
      omega
    · have limit := record.limit
      simp only [chargedAccount]
      omega
    · have width := record.widths.2
      simp only [chargedAccount]
      omega
    · simp only [chargedAccount, same]
      omega
    · simp only [chargedAccount, same]
      omega
  obtain ⟨paid, paidAccounts⟩ := foldl_accrue charged
  obtain ⟨counted, countedAccounts⟩ := countPhotoOrder_books (photoContributor o.breakdown) paid
  exact ⟨counted.takeRevenue, countedAccounts.trans paidAccounts⟩

namespace MoneyOk

/-- An order is charged and leaves the queue (R143). -/
theorem chargeOrder (k : MoneyOk s) {p : Port} {st : Stream} {o : OrderPart} (h : (st.id, .order o) ∈ queueView (s.portStreams p))
    (x : StreamKind) (final : Option Status) : MoneyOk (Machine.endStream p st x final (chargeOrder o s)) := by
  obtain ⟨books, bookings, reserved⟩ := moneyOk_iff.1 k
  obtain ⟨rfl, sound, m, here, others⟩ := k.order_waits h
  have unheld := (reserved (bookings_inStart m) o.account sound.account.2).2
  obtain ⟨charged, accounts⟩ := chargeOrder_books books sound (by omega) unheld
  obtain ⟨hb, hq⟩ := endStream_money .counter st x final (Machine.chargeOrder o s)
  have waiting : (Machine.chargeOrder o s).bookings = s.bookings := by
    obtain ⟨l, b, hc⟩ := Narrows.chargeOrder_rest o s
    rw [hc]; rfl
  rw [moneyOk_iff, hb, hq, waiting]
  refine ⟨charged, bookings.without .counter st.id, ?_⟩
  have exchanged : Reserved (s.books.putAccount o.account (chargedAccount o.breakdown (s.account o.account)))
      (s.bookings.without .counter st.id) := by
    refine reserved.exchange books rfl (fun _ => ⟨?_, fun unused => ?_⟩) others
    · simp only [chargedAccount]
      exact Nat.sub_eq_of_eq_add here.symm
    · have none : (s.account o.account).held = 0 := unheld unused
      simp only [chargedAccount, none, Nat.zero_sub]
  intro started id hid
  rw [Books.account, accounts]
  exact exchanged started id hid

theorem completeStream (k : MoneyOk s) {p : Port} {st : Stream} (h : (st.id, st.kind) ∈ queueView (s.portStreams p)) :
    MoneyOk (completeStream p st s) := by
  unfold Machine.completeStream
  split
  · rename_i o ho; exact k.chargeOrder (ho ▸ h) _ _
  · rename_i no
    refine endStream ?_ ?_ no _ _
    · exact k.kept (.aside rfl rfl)
    · exact fun _ => h

/-- The octets of a data frame are counted, and its stream goes on or completes (R74, R75). -/
theorem creditFrame (k : MoneyOk s) (p : Port) (id n : Nat) : MoneyOk (creditFrame p id n s) := by
  unfold Machine.creditFrame
  simp only
  split
  · rename_i st hst
    have here := List.mem_of_find?_eq_some hst
    have replaced : MoneyOk (s.putPortStreams p { s.portStreams p with queue := (s.portStreams p).queue.map (replaceStream (advance n st)) }) := by
      refine k.putPortStreams (fun hp => ?_) fun hp x hx o ho => ?_
      · subst hp
        rw [queueView, queueView, List.map_map]
        refine List.map_congr_left fun x hx => ?_
        simp only [Function.comp_apply, replaceStream, Narrows.advance_id]
        split
        · rename_i same
          rw [List.inj_on_of_nodup_map k.names_nodup hx here same, Narrows.advance_id, advance_kind]
        · rfl
      · obtain ⟨y, hy, rfl⟩ := List.mem_map.1 hx
        obtain ⟨z, hz, rfl⟩ := List.mem_map.1 hy
        simp only [replaceStream] at ho
        split at ho
        · rw [advance_kind] at ho; exact hp (k.order_port here ho).1
        · exact hp (k.order_port hz ho).1
    split
    · refine replaced.completeStream ?_
      rw [portStreams_putPortStreams_self]
      refine mem_queueView (List.mem_map.2 ⟨st, here, ?_⟩)
      rw [replaceStream, Narrows.advance_id, if_pos rfl]
    · exact replaced
  · exact k.putPortStreams (fun _ => rfl) fun hp x hx o ho => by
      obtain ⟨y, hy, rfl⟩ := List.mem_map.1 hx
      exact hp (k.order_port hy ho).1

/-! ### A period closes (R155, R156) -/

/-- The figures of a period are cleared together: what was charged, and what the house and the contributors received. -/
theorem closeAttempt (k : MoneyOk s) : MoneyOk (closeAttempt s) := by
  obtain ⟨books, bookings, reserved⟩ := moneyOk_iff.1 k
  unfold Machine.closeAttempt
  simp only
  split
  · have records : ∀ id, (takeClose s).books.account id = (s.books.account id).cleared := fun id => tgetD_tmapD books.accounts.1 rfl id
    refine moneyOk_iff.2 ⟨⟨canonical_tmapD _ Account.cleared books.accounts.1, fun e he => ?_,
      canonical_tmapD _ Contributor.cleared books.contributors.1, fun e he => ?_, books.pool, fun id h => ?_, ?_, ?_⟩, bookings,
      fun m id h => ?_⟩
    · obtain ⟨x, hx, rfl⟩ := listed_tmapD he; exact books.ids x hx
    · obtain ⟨x, hx, rfl⟩ := listed_tmapD he; exact books.shares x hx
    · show ((takeClose s).books.account id).Sound
      rw [records]
      have record := books.records id h
      exact ⟨fun _ => rfl, record.limit, record.widths⟩
    · refine Nat.le_trans (le_of_eq (tsum_tmapD (d := Account.formatted) rfl Account.cleared _)) (Nat.le_trans (tsum_le (fun a => ?_) _) books.exposure)
      simp only [Function.comp_apply, Account.cleared]
      omega
    · refine (tsum_tmapD (d := Account.formatted) rfl Account.cleared _).trans ((tsum_zero (fun _ => rfl) _).trans ?_)
      have paid : tsum (·.accrual) (tmapD Contributor.formatted Contributor.cleared s.books.contributors) = 0 :=
        (tsum_tmapD (d := Contributor.formatted) rfl Contributor.cleared _).trans (tsum_zero (fun _ => rfl) _)
      exact (congrArg (fun x => 0 + x + 0) paid).symm
    · show ((takeClose s).books.account id).held = _ ∧ (((takeClose s).books.account id).state = _ → ((takeClose s).books.account id).held = 0)
      rw [records]
      exact reserved m id h
  · exact k.kept (.aside rfl rfl)

end MoneyOk

/-! ### A sale's breakdown (R133 to R135) -/

theorem firsts_nodup (l : List Nat) : (firsts l).Nodup := by
  induction l with
  | nil => exact List.nodup_nil
  | cons x l ih => exact List.nodup_cons.2 ⟨fun h => by simpa using (List.mem_filter.1 h).2, ih.filter _⟩

theorem mem_firsts {l : List Nat} {x : Nat} : x ∈ firsts l ↔ x ∈ l := by
  induction l with
  | nil => exact Iff.rfl
  | cons y l ih =>
    by_cases h : x = y
    · simp [firsts, h]
    · simp [firsts, h, ih]

/-- Each sharing entry is counted once. -/
theorem sum_count_firsts (l : List Nat) : ((firsts l).map (fun c => l.count c)).sum = l.length := by
  have perm : (firsts l).Perm l.dedup :=
    (List.perm_ext_iff_of_nodup (firsts_nodup l) (List.nodup_dedup l)).2 fun x => mem_firsts.trans List.mem_dedup.symm
  rw [(perm.map _).sum_eq, List.sum_map_count_dedup_eq_length]

theorem poolParts_sum_le (pool : Nat) (sharing : List Nat) : ((poolParts pool sharing).map (·.2)).sum ≤ pool := by
  have shared : ((poolParts pool sharing).map (·.2)).sum = sharing.length * (pool / sharing.length) := by
    rw [poolParts, List.map_map, ← sum_count_firsts sharing, ← List.sum_map_mul_right]
    rfl
  rw [shared]
  exact Nat.mul_div_le _ _

/-- The contributors' parts stay within the royalty base. -/
theorem contributorParts_sum_le {p base : Nat} (hp : p ≤ 1000) {sharers : Sharers} (hs : ∀ c share, sharers = .photo c share → share ≤ 1000) :
    ((contributorParts p base sharers).map (·.2)).sum ≤ base := by
  have part : ∀ r ≤ 1000, base * r / 1000 ≤ base := fun r hr =>
    Nat.div_le_of_le_mul (by rw [Nat.mul_comm 1000]; exact Nat.mul_le_mul_left _ hr)
  cases sharers with
  | photo c share =>
    cases c with
    | zero => exact Nat.zero_le _
    | succ c => simpa [contributorParts] using part share (hs _ _ rfl)
  | page sharing => exact (poolParts_sum_le _ sharing).trans (part p hp)

/-- A breakdown's parts and its house share make up its fee (R135). -/
theorem feeBreakdown_balanced (i : FeeInputs) (hp : i.globals.p ≤ 1000) (hs : ∀ c share, i.sharers = .photo c share → share ≤ 1000) :
    (feeBreakdown i).balanced := by
  unfold feeBreakdown Breakdown.balanced
  simp only
  generalize uncapped (agedAmount (copyUnits i.copies i.cell.copyUnit * i.cell.base)
    (i.globals.multiplier (bandOf (ageOf i.today i.date)))) (surchargeOf i.globals i.origin) i.cell.minimum = whole
  refine Nat.sub_add_cancel ((contributorParts_sum_le hp hs).trans ?_)
  exact (Nat.min_le_right _ _).trans (Nat.sub_le _ _)

theorem MoneyOk.breakdown_balanced (k : MoneyOk s) (a : Account) (e : Edition) (o : Object) (u : Usage) (n : Nat) (v : Version) :
    (s.breakdown a e o u n v).balanced := by
  refine feeBreakdown_balanced _ k.pool fun c share h => ?_
  simp only [State.sharers] at h
  split at h
  · cases h; exact (moneyOk_iff.1 k).1.share_le _
  · cases h

theorem priceObject_breakdown {a : Nat} {e : Edition} {o : Object} {u : Usage} {n : Nat} {q : Sale}
    (h : s.priceObject a e o u n = .ok q) : ∃ v, q.breakdown = s.breakdown (s.account a) e o u n v := by
  unfold State.priceObject at h
  simp only at h
  split at h
  · cases h
  · split at h
    · cases h
    · split at h
      · cases h
      · cases h; exact ⟨_, rfl⟩

end Sys2Proof.Machine
end

section
/-! StepKeepsMoney: the rules of the requests, the events, and every command. -/

namespace Sys2Proof.Machine

variable {s t : State}

namespace MoneyOk

/-! ### Accounts, contributors and tariffs (R115 to R126) -/

theorem unheld_of_unused (k : MoneyOk s) (m : s.control.mode ≠ .start) {id : Nat} (h : id ≤ 255) (unused : (s.account id).state = .unused) :
    (s.account id).held = 0 := k.unheld m id h unused

theorem openAccount (k : MoneyOk s) (m : s.control.mode ≠ .start) (id c l : Nat) : MoneyOk (openAccount id c l s).1 := by
  by_cases h : (1 ≤ id ∧ id ≤ 255) ∧ c ≤ 3 ∧ l ≤ Config.maxBalance
  · by_cases hs : (s.account id).state = .unused
    · rw [openAccount_of_unused h hs]
      obtain ⟨hid, -, hl⟩ := h
      refine k.putAccount m hid ⟨nofun, ?_, hl, ?_⟩ (k.unheld_of_unused m hid.2 hs).symm ((k.sound hid.2).unused hs).symm nofun
      · simp [openedAccount, Account.formatted]
      · simp [openedAccount, Account.formatted, Config.maxBalance]
    · rw [openAccount_of_used h hs]; exact k
  · rw [openAccount_of_misfit h]; exact k

theorem creditAccount (k : MoneyOk s) (m : s.control.mode ≠ .start) (id n : Nat) : MoneyOk (creditAccount id n s).1 := by
  by_cases h : (1 ≤ id ∧ id ≤ 255) ∧ 1 ≤ n ∧ n ≤ Config.maxBalance
  · by_cases hs : (s.account id).state = .unused
    · rw [creditAccount_of_unused h hs]; exact k
    · by_cases room : (s.account id).balance + n ≤ (Config.maxBalance : Int)
      · rw [creditAccount_of_room h hs room]
        have record := k.sound h.1.2
        refine k.putAccount m h.1 ⟨record.unused, ?_, record.widths.1, room⟩ rfl rfl fun unused => absurd unused hs
        have limit := record.limit
        simp only
        omega
      · rw [creditAccount_of_overflow h hs (Int.not_le.1 room)]; exact k
  · rw [creditAccount_of_misfit h]; exact k

theorem setAccount (k : MoneyOk s) (m : s.control.mode ≠ .start) (id c l : Nat) : MoneyOk (setAccount id c l s).1 := by
  by_cases h : (1 ≤ id ∧ id ≤ 255) ∧ c ≤ 3 ∧ l ≤ Config.maxBalance
  · by_cases hs : (s.account id).state = .unused
    · rw [setAccount_of_unused h hs]; exact k
    · rw [setAccount_of_used h hs]
      have record := k.sound h.1.2
      have limit := record.limit
      have widths := record.widths
      have applied := appliedLimit_eq (s.account id) l
      refine k.putAccount m h.1 ⟨record.unused, ?_, ?_, widths.2⟩ rfl rfl fun unused => absurd unused hs
      · simp only
        omega
      · simp only
        omega
  · rw [setAccount_of_misfit h]; exact k

theorem reinstateAccount (k : MoneyOk s) (m : s.control.mode ≠ .start) (id : Nat) : MoneyOk (reinstateAccount id s).1 := by
  by_cases h : 1 ≤ id ∧ id ≤ 255
  · cases hs : (s.account id).state with
    | unused => rw [reinstateAccount_of_unused h hs]; exact k
    | opened => rw [reinstateAccount_of_opened h hs]; exact k
    | suspended =>
      rw [reinstateAccount_of_suspended h hs]
      have record := k.sound h.2
      exact k.putAccount m h ⟨nofun, record.limit, record.widths⟩ rfl rfl nofun
  · rw [reinstateAccount_of_misfit h]; exact k

theorem closeAccount (k : MoneyOk s) (m : s.control.mode ≠ .start) (id : Nat) : MoneyOk (closeAccount id s).1 := by
  by_cases h : 1 ≤ id ∧ id ≤ 255
  · by_cases hs : (s.account id).state = .unused
    · rw [closeAccount_of_unused h hs]; exact k
    · cases settled : (s.account id).settled with
      | true =>
        rw [closeAccount_of_settled h hs settled]
        have empty := (settled_iff _).1 settled
        exact k.putAccount m h .formatted (congrArg Account.held empty).symm (congrArg Account.charged empty).symm fun _ => rfl
      | false => rw [closeAccount_of_unsettled h hs settled]; exact k
  · rw [closeAccount_of_misfit h]; exact k

theorem suspendAccount (k : MoneyOk s) (m : s.control.mode ≠ .start) (id : Nat) : MoneyOk (suspendAccount id s).1 := by
  by_cases h : 1 ≤ id ∧ id ≤ 255
  · cases hs : (s.account id).state with
    | unused => rw [suspendAccount_of_unused h hs]; exact k
    | suspended => rw [suspendAccount_of_suspended h hs]; exact k
    | opened =>
      rw [suspendAccount_of_opened h hs]
      have record := k.sound h.2
      have suspended : MoneyOk (s.putAccount id { s.account id with state := .suspended }) :=
        k.putAccount m h ⟨nofun, record.limit, record.widths⟩ rfl rfl nofun
      refine releaseOrders _ _ ?_ (fun st hst => ?_) suspended
      · exact k.names_nodup.sublist ((List.tail_sublist _).map _)
      · exact mem_queueView (List.mem_of_mem_tail hst)
  · rw [suspendAccount_of_misfit h]; exact k

theorem contributor_share (k : MoneyOk s) (id : Nat) : (s.contributor id).share ≤ 1000 := (moneyOk_iff.1 k).1.share_le id

theorem registerContributor (k : MoneyOk s) (id : Nat) : MoneyOk (registerContributor id s).1 := by
  unfold Machine.registerContributor
  simp only
  iterate 2
    split
    · exact k
  exact k.putContributor (Nat.zero_le _) rfl

theorem setContributorState (k : MoneyOk s) (id x : Nat) : MoneyOk (setContributorState id x s).1 := by
  unfold Machine.setContributorState
  simp only
  split
  · exact k
  · iterate 2
      split
      · exact k
    exact k.putContributor (k.contributor_share id) rfl

theorem setShare (k : MoneyOk s) (id x : Nat) : MoneyOk (setShare id x s).1 := by
  unfold Machine.setShare
  simp only
  split
  · exact k
  · rename_i h
    split
    · exact k
    · simp only [Bool.not_eq_true', Bool.not_eq_false, Bool.and_eq_true, decide_eq_true_eq] at h
      exact k.putContributor h.2 rfl

theorem setTariff (k : MoneyOk s) (x u c a b n m : Nat) : MoneyOk (setTariff x u c a b n m s).1 := by
  unfold Machine.setTariff
  split
  · split
    · exact k
    · exact k.kept (.aside rfl rfl)
  · exact k

theorem setTariffGlobals (k : MoneyOk s) (g : Globals) : MoneyOk (setTariffGlobals g s).1 := by
  unfold Machine.setTariffGlobals
  split
  · rename_i h
    have pool : g.p ≤ 1000 := by
      simp only [Globals.inRange, Bool.and_eq_true, decide_eq_true_eq] at h
      exact h.2
    exact { k with pool := pool }
  · exact k

/-! ### Streams and orders (R71, R78, R139, R140, R147) -/

theorem readObject (k : MoneyOk s) (m : s.control.mode ≠ .start) (p : Port) (w : WireKey) (v : Source) (a b : Nat) :
    MoneyOk (readObject p w v a b s).1 := by
  unfold Machine.readObject
  iterate 4
    split
    · exact k
  split
  · exact k
  · rename_i id free
    exact k.acceptStream m nofun (ReadersOk.freeId_fresh free)

theorem placeOrder (k : MoneyOk s) (m : s.control.mode ≠ .start) {a : Nat} (ha : 1 ≤ a ∧ a ≤ 255) (opened : (s.account a).state = .opened)
    {q : Sale} (balanced : q.breakdown.balanced) : MoneyOk (s.placeOrder a q).1 := by
  unfold State.placeOrder
  simp only
  split
  · exact k
  · split
    · exact k
    · rename_i id free
      split
      · exact k
      · rename_i granted
        exact k.acceptOrder m ha opened balanced (ReadersOk.freeId_fresh free) (by simpa using granted)

theorem order (k : MoneyOk s) (m : s.control.mode ≠ .start) (a : Nat) (w : WireKey) (u n : Nat) : MoneyOk (order a w u n s).1 := by
  unfold Machine.order
  split
  · exact k
  · rename_i arguments
    split
    · exact k
    · exact k
    · rename_i opened
      split
      · exact k
      · iterate 2
          split
          · exact k
        split
        · exact k
        · rename_i q hq
          obtain ⟨v, hv⟩ := priceObject_breakdown hq
          exact k.placeOrder m (saleArguments_account arguments) opened (hv ▸ k.breakdown_balanced _ _ _ _ _ _)

theorem cancelStream (k : MoneyOk s) (p : Port) (id : Nat) : MoneyOk (cancelStream p id s).1 := by
  unfold Machine.cancelStream
  split
  · rename_i st hst
    exact k.cutStream (mem_queueView (List.mem_of_find?_eq_some hst)) _ _
  · split <;> exact k

theorem withdrawEdition (k : MoneyOk s) (p : Port) (h : Nat) : MoneyOk (withdrawEdition p h s).1 := by
  unfold Machine.withdrawEdition
  split
  · exact k
  · rename_i e _
    split
    · exact k
    · have told : MoneyOk (notifyAll .editionWithdrawn allPorts (s.putEdition h { e with state := .withdrawn })) :=
        k.kept ((MoneyKept.of_works (notifyAll_quiet _ _ _) (notifyAll_works _ _ _)).behind rfl rfl)
      have released := releaseOrders (fun st _ => st.key.handle == h) .withdrawn told.names_nodup (fun _ => mem_queueView) told
      exact released.kept (.of_works (abortPasses_quiet _ _ _) (abortPasses_works _ _ _))

/-! ### The links and the clock -/

theorem resetPort (k : MoneyOk s) (p : Port) : MoneyOk (resetPort p s) := by
  have silent : MoneyOk { s with links := s.links.set p { Link.reset with breakHeld := true } } := k.kept (.aside rfl rfl)
  have worked := (silent.resetStreams p).kept (.of_works (resetWork_quiet p _) (resetWork_works p _))
  exact worked.kept (.aside rfl rfl)

theorem holdInStart (k : MoneyOk s) (p : Port) : MoneyOk (holdInStart p s) := by
  unfold Machine.holdInStart
  split
  · exact k.kept (.of_works (holdFor_quiet p s) (holdFor_works p s))
  · exact k

theorem conclude (k : MoneyOk s) : MoneyOk (conclude s) := k.kept (.conclude s)

theorem markDay (k : MoneyOk s) : MoneyOk (markDay s) := by
  unfold Machine.markDay
  split
  · refine conclude ?_
    unfold acceptMark stepCountdown
    split
    · exact k.kept (.aside rfl rfl)
    · simp only
      split
      · refine closeAttempt ?_
        exact k.kept (.aside rfl rfl)
      · exact k.kept (.aside rfl rfl)
  · exact k

theorem riseTick (k : MoneyOk s) : MoneyOk (riseTick s) := by
  unfold Machine.riseTick
  simp only
  split
  · exact k.kept ((MoneyKept.of_works (notifyAll_quiet _ _ _) (notifyAll_works _ _ _)).behind rfl rfl)
  · exact k.kept (.aside rfl rfl)

theorem guardLine (k : MoneyOk s) (b : Bool) : MoneyOk (guardLine b s) := by
  have level : MoneyOk { s with store.guardAsserted := b } := k.kept (.aside rfl rfl)
  unfold Machine.guardLine
  simp only
  split
  · exact level.conclude
  · exact level

theorem answerFrame (k : MoneyOk s) (p : Port) (tag : Octet) (a b : Status) : MoneyOk (answerFrame p tag a b s) := by
  unfold Machine.answerFrame
  split
  · exact k
  · split
    · exact k.kept ((MoneyKept.refuse p tag b s).trans (.transmit p _))
    · exact k.kept ((MoneyKept.transmit p _).behind rfl rfl)

/-! ### The store's completions -/

theorem reportDamage (k : MoneyOk s) {key : Key} {number serial : Nat} {stop : State → State}
    (h : ∀ u, MoneyKept s u → MoneyOk u → MoneyOk (stop u)) : MoneyOk (reportDamage key number serial stop s) := by
  unfold Machine.reportDamage
  split
  · rename_i u hu
    have marked := MoneyKept.of_works (markDamaged_quiet hu) (markDamaged_works hu)
    exact (h u marked (k.kept marked)).kept (.of_works (damageAction_quiet _) (damageAction_works _))
  · exact h s .refl k

theorem damagedFetch (k : MoneyOk s) (op : FetchOp) : MoneyOk (damagedFetch op s) := by
  unfold Machine.damagedFetch
  split
  · exact k
  · rename_i p _
    split
    · exact k
    · rename_i st hst
      refine k.reportDamage fun u kept ku => ku.cutStream ?_ _ _
      rw [← bookings_get, kept.bookings, bookings_get]
      exact mem_queueView (List.mem_of_mem_head? hst)
  · split
    · exact k
    · refine k.reportDamage fun u _ ku => ku.kept (.of_works ?_ (passSourceDamaged_works u))
      unfold passSourceDamaged
      split
      · exact endActive_quiet _ _ _ u
      · exact endPassSource_quiet u
  · split
    · exact k
    · exact k.reportDamage fun _ _ ku => ku.kept (.aside rfl rfl)

theorem soundFetch (k : MoneyOk s) (op : FetchOp) (w : Wing) (body : List Octet) : MoneyOk (soundFetch op w body s) := by
  unfold Machine.soundFetch
  split
  · exact k
  · refine k.kept (.of_works (mapActive_quiet _ _ (fun st => ?_) s) (mapActive_works _ _ s))
    unfold takeSheet
    split <;> exact ⟨rfl, rfl⟩
  · exact k.kept (.aside rfl rfl)
  · exact k.kept (.of_quiet (copyFetched_quiet w body s) (steady_mode (mapCopy_steady _ s)))

/-- The holders of snapshots tell the mode. -/
theorem mode_of_readersKept (h : ReadersKept s t) : t.control.mode = .start ↔ s.control.mode = .start := by
  have same : (t.control.mode == .start) = (s.control.mode == .start) := congrArg Holders.inStart h.holders
  rw [← beq_iff_eq, same, beq_iff_eq]

theorem passWritten_mode (op : ProgramOp) (s : State) : (passWritten op s).control.mode = .start ↔ s.control.mode = .start := by
  unfold passWritten
  split
  · exact Iff.rfl
  · simp only
    split
    · exact (createVersion_works (loose := True) _ _).mode
    · exact Iff.rfl

theorem feedWritten (k : MoneyOk s) (op : ProgramOp) : MoneyOk (feedWritten op s) := by
  refine k.kept (.of_quiet (feedWritten_quiet op s) ?_)
  unfold Machine.feedWritten
  split
  · exact Iff.rfl
  · split
    · exact mode_of_readersKept (.intakeWritten op s)
    · exact passWritten_mode op s
    · exact mode_of_readersKept (.copyWritten s)

theorem feedFailed (k : MoneyOk s) (op : ProgramOp) : MoneyOk (feedFailed op s) := by
  refine k.kept (.of_quiet (feedFailed_quiet op s) ?_)
  unfold Machine.feedFailed
  split
  · exact Iff.rfl
  · split
    · exact Iff.rfl
    · unfold passFailed
      split <;> exact Iff.rfl
    · exact mode_of_readersKept (.copyFailed s)

theorem eraseDone (k : MoneyOk s) (n : Nat) : MoneyOk (eraseDone n s) := by
  have erased : MoneyOk { (eraseLeaves n s).mapStripe n erasedStripe with
      store.freeQueue := ((eraseLeaves n s).mapStripe n erasedStripe).store.freeQueue ++ [n] } := k.kept (.aside rfl rfl)
  exact erased.kept (.of_quiet (examineStalled_quiet _) (steady_mode (examineStalled_steady _)))

theorem eraseFailed (k : MoneyOk s) (n : Nat) : MoneyOk (eraseFailed n s) := by
  obtain ⟨x, i, hl, -⟩ := loseStripe_flash n s
  unfold Machine.eraseFailed
  rw [hl]
  have lost : MoneyOk (({ s with store.flash := x, store.lost := i } : State).mapStripe n (fun r => { r with state := .retired })) :=
    k.kept (.aside rfl rfl)
  exact lost.kept (.of_works (judgeRetire_quiet _) (judgeRetire_works _))

/-! ### The supply and start-up -/

/-- The supply of a part that does not work changes, and it is in START before and after. -/
theorem supplied (k : MoneyOk s) (off : s.running = false) (hb : t.books = s.books)
    (hq : t.bookings = { s.bookings with running := t.running, inStart := true }) : MoneyOk t := by
  obtain ⟨books, bookings, -⟩ := moneyOk_iff.1 k
  have m : s.bookings.inStart = true := bookings.idle off
  rw [moneyOk_iff, hb, hq]
  exact ⟨books, { bookings with idle := fun _ => rfl, start := fun _ => bookings.start m }, nofun⟩

/-- In START nobody waits. -/
theorem of_nobody (books : t.books.Ok 0) (hq : t.bookings = ⟨t.running, true, ⟨[], [], []⟩⟩) : MoneyOk t := by
  rw [moneyOk_iff, hq]
  have nobody : ∀ (p : Port) (x : Nat × StreamKind), x ∉ (PerPort.mk [] [] [] : PerPort (List (Nat × StreamKind))).get p :=
    fun p x => by cases p <;> exact List.not_mem_nil
  exact ⟨books, ⟨fun _ => rfl, fun p x hx => absurd hx (nobody p x), List.nodup_nil, fun _ => rfl⟩, nofun⟩

theorem loseVolatile (k : MoneyOk s) (p q : Bool) :
    MoneyOk { loseVolatile s with control.powered := p, control.resetLine := q } := by
  refine of_nobody ?_ rfl
  obtain ⟨x, i, h, -⟩ := cutOperation_flash s
  unfold Machine.loseVolatile
  rw [h]
  exact (moneyOk_iff.1 k).1

theorem format (m : s.control.mode = .start) : MoneyOk (format s) := by
  have books : (Machine.format s).books = State.reset.books := by simp only [State.books, Machine.format, State.reset]
  refine of_nobody (by rw [books]; exact (moneyOk_iff.1 moneyOk_reset).1) ?_
  simp only [State.bookings, Machine.format, m]
  rfl

/-- Recovery takes away what was held (R114). -/
theorem clearHeld (k : MoneyOk s) (m : s.control.mode = .start) :
    MoneyOk (clearHeld s) ∧ ∀ id, ((clearHeld s).account id).held = 0 := by
  obtain ⟨books, bookings, -⟩ := moneyOk_iff.1 k
  have records : ∀ id, (Machine.clearHeld s).account id = { s.account id with held := 0 } := fun id =>
    tgetD_tmapD (g := fun a : Account => { a with held := 0 }) books.accounts.1 rfl id
  have inStart : s.bookings.inStart = true := beq_iff_eq.2 m
  refine ⟨moneyOk_iff.2 ⟨⟨canonical_tmapD _ (fun a => { a with held := 0 }) books.accounts.1, fun e he => ?_, books.contributors,
    books.shares, books.pool, fun id h => ?_, ?_, ?_⟩, bookings, fun started => absurd (inStart.symm.trans started) (by simp)⟩,
    fun id => by rw [records]⟩
  · obtain ⟨x, hx, rfl⟩ := listed_tmapD (g := fun a : Account => { a with held := 0 }) (l := s.ledger.accounts) he
    exact books.ids x hx
  · show ((Machine.clearHeld s).account id).Sound
    rw [records]
    have record := k.sound h
    have limit := record.limit
    exact ⟨record.unused, by simp only; omega, record.widths⟩
  · refine Nat.le_trans (le_of_eq (tsum_tmapD (d := Account.formatted) rfl (fun a => { a with held := 0 }) _))
      (Nat.le_trans (tsum_le (fun a => ?_) _) books.exposure)
    simp only [Function.comp_apply]
    omega
  · exact (tsum_tmapD (g := fun a : Account => a.charged) (d := Account.formatted) rfl (fun a => { a with held := 0 }) _).trans books.balance

theorem recover (k : MoneyOk s) (m : s.control.mode = .start) : MoneyOk (recover s) ∧ ∀ id, ((recover s).account id).held = 0 := by
  obtain ⟨x, hx⟩ := recoverStore_rest s
  have stored : MoneyOk (recoverStore s) := by rw [hx]; exact k.kept (.aside rfl rfl)
  have catalog : Works True (recoverStore s) (recoverCatalog (recoverStore s)) :=
    .foldl _ (fun s (e : Nat × Edition) => recoverEdition_works e.1 e.2 s) _ _
  have outputs := catalog.trans (recoverOutputs_works _)
  have mode : (recoverOutputs (recoverCatalog (recoverStore s))).control.mode = .start := outputs.mode.2 (by rw [hx]; exact m)
  obtain ⟨cleared, held⟩ := (stored.kept (.of_works ((recoverOutputs_quiet _).trans (recoverCatalog_quiet _)) outputs)).clearHeld mode
  have left := leaveFull_quiet s.store.dirtyQueue.length (Machine.clearHeld (recoverOutputs (recoverCatalog (recoverStore s))))
  refine ⟨cleared.kept (.of_works left (leaveFull_works fun _ => .inl trivial)), fun id => ?_⟩
  have ledger : (Machine.recover s).ledger = _ := congrArg QuietView.ledger left
  rw [State.account, ledger]
  exact held id

/-- START ends with nothing held. -/
theorem leaveStart (k : MoneyOk s) (m : s.control.mode = .start) (running : s.running = true) (held : ∀ id, (s.account id).held = 0) :
    MoneyOk (leaveStart s) := by
  obtain ⟨books, bookings, -⟩ := moneyOk_iff.1 k
  obtain ⟨nts, cause, h⟩ := leaveStart_rest s
  have nobody : s.bookings.ports.counter = [] := bookings.start (beq_iff_eq.2 m)
  have left : (Machine.leaveStart s).bookings = { s.bookings with inStart := false } := by
    have mode : (s.leavingMode == .start) = false := by unfold State.leavingMode; split <;> rfl
    rw [h]
    simp only [State.bookings, mode]
    rfl
  rw [moneyOk_iff, left]
  rw [h]
  refine ⟨books, { bookings with idle := fun off => absurd (running.symm.trans off) (by simp), start := nofun }, fun _ id _ => ?_⟩
  rw [nobody]
  exact ⟨held id, fun _ => held id⟩

theorem startUpEnd (k : MoneyOk s) (m : s.control.mode = .start) (running : s.running = true) :
    MoneyOk (Machine.conclude (Machine.leaveStart (holdConditions (recoverOrFormat s)))) := by
  have clock : MoneyOk (restartClock s) := k.kept (.aside rfl rfl)
  have ready : MoneyOk (recoverOrFormat s) ∧ ∀ id, ((recoverOrFormat s).account id).held = 0 := by
    unfold recoverOrFormat
    split
    · exact clock.recover m
    · exact ⟨format m, fun _ => rfl⟩
  obtain ⟨-, restored⟩ := recoverOrFormat_acts (loose := True) (Sane.of_true s) m running
  have standing : MoneyOk (holdConditions (recoverOrFormat s)) := ready.1.kept (.aside rfl rfl)
  exact (standing.leaveStart restored.start restored.running ready.2).conclude

/-! ### Serving a request -/

theorem serveWith (k : MoneyOk s) {after : State → State} {ports : List Port} {inStart : Bool} {f : Frame} {rule : State → State × Answer}
    (ha : ∀ u, MoneyKept u (after u)) (hr : screen ports inStart f s = none → MoneyOk (rule s).1) :
    MoneyOk (serveWith after ports inStart f rule s) := by
  unfold Machine.serveWith
  split
  · exact k
  · split
    · exact k.kept ((MoneyKept.refuse _ _ _ s).trans (.transmit _ _))
    · split
      · exact k.kept ((MoneyKept.transmit _ _).behind rfl rfl)
      · rename_i passed
        exact (hr passed).kept ((ha _).behind rfl rfl)

theorem serve (k : MoneyOk s) {ports : List Port} {f : Frame} {rule : State → State × Answer}
    (hr : s.control.mode ≠ .start → MoneyOk (rule s).1) : MoneyOk (serve ports f rule s) :=
  k.serveWith (fun _ => .transmit _ _) fun passed => hr (mode_of_screen passed)

theorem serveSettling (k : MoneyOk s) {ports : List Port} {f : Frame} {rule : State → State × Answer}
    (hr : s.control.mode ≠ .start → MoneyOk (rule s).1) : MoneyOk (serveSettling ports f rule s) :=
  k.serveWith (fun _ => .conclude _) fun passed => hr (mode_of_screen passed)

/-- A request whose rule touches no money. -/
theorem served (k : MoneyOk s) {ports : List Port} {f : Frame} {rule : State → State × Answer}
    (h : s.control.mode ≠ .start → MoneyKept s (rule s).1) : MoneyOk (Machine.serve ports f rule s) := k.serve fun m => k.kept (h m)

theorem servedSettling (k : MoneyOk s) {ports : List Port} {f : Frame} {rule : State → State × Answer}
    (h : s.control.mode ≠ .start → MoneyKept s (rule s).1) : MoneyOk (Machine.serveSettling ports f rule s) :=
  k.serveSettling fun m => k.kept (h m)

theorem servedAlways (k : MoneyOk s) {f : Frame} {rule : State → State × Answer} (h : (rule s).1 = s) : MoneyOk (serveAlways f rule s) :=
  k.serveWith (fun _ => .transmit _ _) fun _ => h.symm ▸ k

end MoneyOk

end Sys2Proof.Machine
end

section
/-! StepKeepsMoney: every command. -/

namespace Sys2Proof.Machine

variable {s t : State}

theorem submitPass_quiet (w : WireKey) (x : Source) (a b c d e f : Nat) (s : State) : (submitPass w x a b c d e f s).1.quiet = s.quiet := by
  unfold submitPass
  split
  · rfl
  · split
    · rfl
    · iterate 2
        split
        · rfl
      rfl

theorem cancelPass_quiet (id : Nat) (s : State) : (cancelPass id s).1.quiet = s.quiet := by
  unfold cancelPass
  split
  · exact abortPasses_quiet _ _ s
  · rfl

namespace MoneyKept

/-! ### The requests that touch no money -/

theorem setPeriodLength (d : Nat) (s : State) : MoneyKept s (setPeriodLength d s).1 := by
  unfold Machine.setPeriodLength
  split <;> exact aside rfl rfl

theorem releaseStatements (n : Nat) (s : State) : MoneyKept s (releaseStatements n s).1 := by
  unfold Machine.releaseStatements
  simp only
  split <;> exact aside rfl rfl

theorem moveStatement (s : State) : MoneyKept s (moveStatement s) := by
  unfold Machine.moveStatement
  split <;> exact aside rfl rfl

theorem setClock (d m : Nat) (s : State) : MoneyKept s (setClock d m s).1 := by
  unfold Machine.setClock
  split <;> exact aside rfl rfl

theorem setOperating (a b c d e : Nat) (s : State) : MoneyKept s (setOperating a b c d e s).1 := by
  unfold Machine.setOperating
  split
  · exact refl
  · exact (of_works (judgeRetire_quiet _) (judgeRetire_works _)).behind rfl rfl

theorem resumeWrites (m : s.control.mode ≠ .start) : MoneyKept s (resumeWrites s).1 := by
  unfold Machine.resumeWrites
  split
  · exact refl
  · split
    · exact refl
    · refine (of_works (notifyAll_quiet _ _ _) (notifyAll_works _ _ _)).behind rfl ?_
      simp only [State.bookings, beq_eq_false_iff_ne.2 m]
      rfl

theorem deliver (x : Message) (p : Port) (s : State) : MoneyKept s (deliver x p s) := aside rfl rfl

theorem postMessage (p : Port) (b : BitVec 8) (x : List Octet) (s : State) : MoneyKept s (postMessage p b x s).1 := by
  unfold Machine.postMessage
  simp only
  iterate 2
    split
    · exact refl
  exact List.foldlRecOn (motive := MoneyKept s) _ _ refl fun _ kept _ _ => kept.trans (deliver _ _ _)

theorem takeMessage (p : Port) (s : State) : MoneyKept s (takeMessage p s).1 := by
  unfold Machine.takeMessage
  split <;> exact aside rfl rfl

theorem freeStream (p : Port) (id : Nat) (s : State) : MoneyKept s (freeStream p id s) := by
  refine aside rfl ?_
  unfold Machine.freeStream
  cases p <;> rfl

end MoneyKept

namespace MoneyOk

theorem of_next (k : MoneyOk s) (h : (.next s : Host.Outcome State Fault Refusal) = .next t) : MoneyOk t := by
  cases h; exact k

theorem exec {c : Instr} (k : MoneyOk s) (h : exec c s = .next t) : MoneyOk t := by
  cases c with
  | openEdition r d n => exact of_next (k.served fun _ => .of_works (openEdition_quiet _ _ _ s) (openEdition_works _ _ _ s)) h
  | beginObject r a b c d e g i ps =>
    exact of_next (k.served fun _ => .of_works (beginObject_quiet _ _ _ _ _ _ _ _ _ s) (beginObject_works _ _ _ _ _ _ _ _ _ s)) h
  | putChunk r n o d => exact of_next (k.servedSettling fun _ => .of_works (putChunk_quiet _ _ _ _ s) (putChunk_works _ _ _ _ s)) h
  | endObject r n x => exact of_next (k.servedSettling fun _ => .of_works (endObject_quiet _ _ _ s) (endObject_works _ _ _ s)) h
  | dropObject r n => exact of_next (k.servedSettling fun _ => .of_works (dropObject_quiet _ _ s) (dropObject_works _ _ s)) h
  | closeEdition r n x => exact of_next (k.servedSettling fun _ => .of_works (closeEdition_quiet _ _ _ s) (closeEdition_works _ _ _ s)) h
  | abandonEdition r n => exact of_next (k.servedSettling fun m => .of_works (abandonEdition_quiet _ _ s) (abandonEdition_works m _ _)) h
  | read r w v o l => exact of_next (k.serveSettling fun m => k.readObject m _ _ _ _ _) h
  | withdrawEdition r n => exact of_next (k.serveSettling fun _ => k.withdrawEdition _ _) h
  | reinstateEdition r n => exact of_next (k.served fun _ => .of_works (reinstateEdition_quiet _ _ s) (reinstateEdition_works _ _ s)) h
  | purgeEdition r n => exact of_next (k.servedSettling fun m => .of_works (purgeEdition_quiet _ _ s) (purgeEdition_works m _ _)) h
  | registerContributor r n => exact of_next (k.serve fun _ => k.registerContributor _) h
  | setContributorState r n x => exact of_next (k.serve fun _ => k.setContributorState _ _) h
  | setClock r d x => exact of_next (k.servedSettling fun _ => .setClock _ _ s) h
  | setOperating r a b c d e => exact of_next (k.servedSettling fun _ => .setOperating _ _ _ _ _ s) h
  | resumeWrites r => exact of_next (k.servedSettling fun m => .resumeWrites m) h
  | submitPass r w x m d l i n p =>
    exact of_next (k.servedSettling fun _ => .of_works (submitPass_quiet _ _ _ _ _ _ _ _ s) (submitPass_works _ _ _ _ _ _ _ _ s)) h
  | cancelPass r n => exact of_next (k.servedSettling fun _ => .of_works (cancelPass_quiet _ s) (cancelPass_works _ s)) h
  | passResult r => exact of_next (k.served fun _ => .refl) h
  | takeSurvey r => exact of_next (k.served fun _ => .refl) h
  | discardVersion r w n => exact of_next (k.servedSettling fun m => .of_works (discardVersion_quiet _ _ _ s) (discardVersion_works m _ _ _)) h
  | openAccount r a b c => exact of_next (k.serve fun m => k.openAccount m _ _ _) h
  | setAccount r a b c => exact of_next (k.serve fun m => k.setAccount m _ _ _) h
  | creditAccount r a b => exact of_next (k.serve fun m => k.creditAccount m _ _) h
  | suspendAccount r a => exact of_next (k.serveSettling fun m => k.suspendAccount m _) h
  | reinstateAccount r a => exact of_next (k.serve fun m => k.reinstateAccount m _) h
  | closeAccount r a => exact of_next (k.serve fun m => k.closeAccount m _) h
  | findAccount r a => exact of_next (k.served fun _ => .of_eq (findAccount_state a s)) h
  | setShare r a b => exact of_next (k.serve fun _ => k.setShare _ _) h
  | setTariff r x u c a b n m => exact of_next (k.serve fun _ => k.setTariff _ _ _ _ _ _ _) h
  | setTariffGlobals r a b c d x p => exact of_next (k.serve fun _ => k.setTariffGlobals _) h
  | setPeriodLength r d => exact of_next (k.served fun _ => .setPeriodLength _ s) h
  | quote r a w u n => exact of_next (k.served fun _ => .of_eq (quote_state a w u n s)) h
  | order r a w u n => exact of_next (k.serveSettling fun m => k.order m _ _ _ _) h
  | closePeriod r => exact of_next (k.serve fun _ => k.closeAttempt) h
  | takeStatements r => exact of_next (k.served fun _ => .of_eq (takeStatements_state s)) h
  | releaseStatements r n => exact of_next (k.served fun _ => .releaseStatements _ s) h
  | findEdition r n => exact of_next (k.served fun _ => .of_eq (findEdition_state _ n s)) h
  | findObject r w => exact of_next (k.served fun _ => .of_eq (findObject_state _ w s)) h
  | cancelStream r n => exact of_next (k.serveSettling fun _ => k.cancelStream _ _) h
  | status r => exact of_next (k.servedAlways rfl) h
  | identify r => exact of_next (k.servedAlways rfl) h
  | takeNotices r => exact of_next (k.served fun _ => .aside rfl rfl) h
  | setNoticeMask r x => exact of_next (k.served fun _ => .aside rfl rfl) h
  | postMessage r b x => exact of_next (k.served fun _ => .postMessage _ _ _ s) h
  | takeMessage r => exact of_next (k.served fun _ => .takeMessage _ s) h
  | unknownRequest p x c =>
    refine of_next ?_ h
    split
    · exact k
    · exact k.answerFrame _ _ _ _
  | badFrame p x => exact of_next (k.answerFrame _ _ _ _) h
  | busy p x m =>
    refine of_next ?_ h
    split
    · exact k.answerFrame _ _ _ _
    · exact k
  | replySent p =>
    refine of_next ?_ h
    split
    · exact k.kept ((MoneyKept.transmit p _).behind rfl rfl)
    · exact k
  | dataFrameSent p =>
    have freed : MoneyOk (freeTransmitter p s) := k.kept (.aside rfl rfl)
    refine of_next ?_ h
    split
    · exact (freed.creditFrame p _ _).conclude
    · exact k
  | endFrameSent p =>
    have freed : MoneyOk (freeTransmitter p s) := k.kept (.aside rfl rfl)
    refine of_next ?_ h
    split
    · exact (freed.kept (.freeStream p _ _)).conclude
    · exact k
  | sheetFetchComplete w d =>
    refine of_next ?_ h
    split
    · exact k
    · rename_i u taken
      obtain ⟨⟨a, b, rfl⟩, -⟩ := takeFetch_idle taken
      have idle : MoneyOk { s with store.wings := .split a b } := k.kept (.aside rfl rfl)
      refine conclude ?_
      unfold fetchDone
      simp only
      split
      · exact idle.soundFetch _ _ _
      · exact idle.damagedFetch _
  | leafProgramWritten =>
    refine of_next ?_ h
    split
    · exact k
    · rename_i u taken
      obtain ⟨-, rfl⟩ := takeProgram_some taken
      refine conclude (feedWritten ?_ _)
      exact k.kept (.aside rfl rfl)
  | leafProgramFailed =>
    refine of_next ?_ h
    split
    · exact k
    · rename_i u taken
      obtain ⟨-, rfl⟩ := takeProgram_some taken
      refine conclude (feedFailed ?_ _)
      exact k.kept (.aside rfl rfl)
  | stripeEraseComplete e =>
    refine of_next ?_ h
    split
    · exact k
    · rename_i n u taken
      obtain ⟨-, rfl⟩ := takeErase_some taken
      refine conclude ?_
      split
      · refine eraseDone ?_ n
        exact k.kept (.aside rfl rfl)
      · refine eraseFailed ?_ n
        exact k.kept (.aside rfl rfl)
  | dayMark => exact of_next k.markDay h
  | tick =>
    refine of_next ?_ h
    split
    · exact k.riseTick
    · exact k
  | clockSaturated =>
    refine of_next ?_ h
    split
    · exact k.riseTick
    · exact k
  | countdownExpiry =>
    refine of_next ?_ h
    split
    · exact k.markDay
    · exact k
  | storeGuardAsserted => exact of_next (k.guardLine true) h
  | storeGuardReleased => exact of_next (k.guardLine false) h
  | linkReset p =>
    refine of_next ?_ h
    split
    · exact ((k.resetPort p).holdInStart p).conclude
    · exact k
  | breakEnd p =>
    refine of_next ?_ h
    split
    · exact k.kept ((MoneyKept.transmit p _).behind rfl rfl)
    · exact k
  | powerLoss =>
    refine of_next ?_ h
    split
    · exact k.loseVolatile false (Machine.loseVolatile s).control.resetLine
    · exact k
  | resetLineAsserted =>
    refine of_next ?_ h
    split
    · exact k
    · exact k.loseVolatile (Machine.loseVolatile s).control.powered true
  | powerApplied =>
    refine of_next ?_ h
    split
    · exact k
    · rename_i off
      have still : s.running = false := by simp [State.running, off]
      have inStart : (s.control.mode == .start) = true := (moneyOk_iff.1 k).2.1.idle still
      simp only
      split
      · exact k.supplied still rfl (by simp only [State.bookings, inStart])
      · exact k.supplied still rfl rfl
  | resetLineReleased =>
    refine of_next ?_ h
    split
    · rename_i off
      have still : s.running = false := by simp [State.running, off]
      have inStart : (s.control.mode == .start) = true := (moneyOk_iff.1 k).2.1.idle still
      simp only
      split
      · exact k.supplied still rfl rfl
      · exact k.supplied still rfl (by simp only [State.bookings, inStart])
    · exact k
  | startUpEnd =>
    refine of_next ?_ h
    split
    · rename_i begun
      simp only [Bool.and_eq_true, beq_iff_eq] at begun
      exact k.startUpEnd begun.2 begun.1
    · exact k
  | statementMove =>
    refine of_next ?_ h
    split
    · exact k.kept ((MoneyKept.moveStatement s).trans (.aside rfl rfl))
    · exact k

end MoneyOk

/-- Settles O13: most of what a command does touches neither the books nor the bookings (`MoneyKept`); an order that is accepted, charged
or released changes both together (`MoneyOk.acceptOrder`, `MoneyOk.chargeOrder`, `MoneyOk.releaseOrder`), a close clears the figures on
both sides, and recovery takes away what was held. -/
theorem stepKeepsMoney : Obligations.StepKeepsMoney := by
  intro s t k h
  unfold step at h
  split at h
  · cases h; exact k
  · rename_i c rest _
    exact MoneyOk.exec (s := { s with pending := rest }) (k.kept (.aside rfl rfl)) h

end Sys2Proof.Machine
end

section
/-! SET_ACCOUNT, SUSPEND_ACCOUNT, REINSTATE_ACCOUNT and CLOSE_ACCOUNT as they are answered, and what the release of an account's orders
leaves (R117 to R119, R148). -/

namespace Sys2Proof.Machine

variable {s : State} {id : Nat} {st : Stream} {c : ReleaseCause}

/-! ### The orders of one account -/

theorem orders_iff : st.orders id = true ↔ ∃ o, st.kind = .order o ∧ o.account = id := by
  unfold Stream.orders
  split
  · rename_i o h
    simp [h]
  · rename_i h
    simpa using fun o e => absurd e (h o)

/-- A stream that is no order of an account holds nothing of it. -/
theorem feeOf_of_not_orders (h : st.orders id = false) : feeOf id st.kind = 0 := by
  by_cases order : ∃ o, st.kind = .order o
  · obtain ⟨o, ho⟩ := order
    rw [ho]
    exact feeOf_other fun e => absurd (orders_iff.2 ⟨o, ho, e.symm⟩) (by simp [h])
  · exact feeOf_of_read (fun o ho => order ⟨o, ho⟩) id

theorem feesIn_cons (id : Nat) (st : Stream) (sts : List Stream) : feesIn id (st :: sts) = feeOf id st.kind + feesIn id sts := by
  rw [feesIn, List.map_cons, List.sum_cons, ← feesIn]
  refine congrArg (· + feesIn id sts) ?_
  cases st.kind <;> rfl

/-- An account's orders among streams are released one after the other. -/
def releaseOf (id : Nat) (c : ReleaseCause) (sts : List Stream) (s : State) : State := releaseOrders (fun _ o => o.account == id) c sts s

theorem releaseOf_cons_of_order {o : OrderPart} (ho : st.kind = .order o) (hid : o.account = id) (sts : List Stream) (s : State) :
    releaseOf id c (st :: sts) s = releaseOf id c sts (releaseOrder .counter st o c true s) := by
  rw [releaseOf, releaseOrders, List.foldl_cons]
  simp only [ho, hid, beq_self_eq_true, if_true]
  rfl

theorem releaseOf_cons_of_other (h : st.orders id = false) (sts : List Stream) (s : State) :
    releaseOf id c (st :: sts) s = releaseOf id c sts s := by
  rw [releaseOf, releaseOrders, List.foldl_cons]
  split
  · rename_i o ho
    have other : (o.account == id) = false := by
      rw [beq_eq_false_iff_ne]
      exact fun e => absurd (orders_iff.2 ⟨o, ho, e⟩) (by simp [h])
    simp only [other]
    rfl
  · rfl

/-- A record in use that is put is read back, whatever the table. -/
theorem account_putAccount_of_used {a : Account} (used : a.state ≠ .unused) (id : Nat) (s : State) : (s.putAccount id a).account id = a := by
  have listed : a ≠ Account.formatted := fun h => used (h ▸ rfl)
  show tgetD Account.formatted (tset Account.formatted s.ledger.accounts id a) id = a
  rw [tgetD, tset, if_neg listed, tget_tput_self]
  rfl

theorem releaseOrder_account {o : OrderPart} (used : (s.account o.account).state ≠ .unused) (p : Port) (st : Stream) (c : ReleaseCause)
    (e : Bool) : (releaseOrder p st o c e s).account o.account
      = { s.account o.account with held := (s.account o.account).held - o.breakdown.fee } := by
  have books := (endStream_money p st (.order { o with cause := some c }) (if e then some .released else none)
    (heldFalls o.account o.breakdown.fee s)).1
  exact (congrArg (fun b : Books => b.account o.account) books).trans
    (account_putAccount_of_used (a := { s.account o.account with held := (s.account o.account).held - o.breakdown.fee }) used _ s)

/-- Held falls by the fees of the orders released. -/
theorem releaseOf_account (id : Nat) (c : ReleaseCause) (sts : List Stream) (s : State) (used : (s.account id).state ≠ .unused) :
    (releaseOf id c sts s).account id = { s.account id with held := (s.account id).held - feesIn id sts } := by
  induction sts generalizing s with
  | nil => rfl
  | cons st sts ih =>
    rw [feesIn_cons]
    cases h : st.orders id with
    | true =>
      obtain ⟨o, ho, rfl⟩ := orders_iff.1 h
      have fallen := releaseOrder_account used .counter st c true
      rw [releaseOf_cons_of_order ho rfl, ih _ (by rw [fallen]; exact used), fallen, ho, feeOf_self, Nat.sub_sub]
    | false => rw [releaseOf_cons_of_other h, ih s used, feeOf_of_not_orders h, Nat.zero_add]

/-- The streams with the ids of the orders released leave the queue. -/
theorem releaseOf_queue (id : Nat) (c : ReleaseCause) (sts : List Stream) (s : State) :
    ((releaseOf id c sts s).portStreams .counter).queue
      = (s.portStreams .counter).queue.filter (fun y => !(sts.any (fun st => st.orders id && st.id == y.id))) := by
  induction sts generalizing s with
  | nil => exact (List.filter_eq_self.2 fun _ _ => rfl).symm
  | cons st sts ih =>
    cases h : st.orders id with
    | true =>
      obtain ⟨o, ho, hid⟩ := orders_iff.1 h
      obtain ⟨x, l, ended, released⟩ := releaseOrder_rest st o c s
      rw [releaseOf_cons_of_order ho hid, ih, released, portStreams_putPortStreams_self, List.filter_filter]
      refine List.filter_congr fun y _ => ?_
      rw [List.any_cons, h, Bool.true_and, Bool.not_or, Bool.and_comm, bne, BEq.comm]
    | false =>
      rw [releaseOf_cons_of_other h, ih]
      refine List.filter_congr fun y _ => ?_
      rw [List.any_cons, h, Bool.false_and, Bool.false_or]

/-- Of a queue of distinct ids, the first stream stays, and those behind it that are no orders of the account. -/
theorem filter_released {q : List Stream} (d : (q.map (·.id)).Nodup) (id : Nat) :
    q.filter (fun y => !(q.tail.any (fun st => st.orders id && st.id == y.id)))
      = q.head?.toList ++ q.tail.filter (fun st => !st.orders id) := by
  cases q with
  | nil => rfl
  | cons active rest =>
    obtain ⟨fresh, d⟩ := List.nodup_cons.1 d
    have stays : rest.any (fun st => st.orders id && st.id == active.id) = false := by
      rw [List.any_eq_false]
      intro st hst
      have other : st.id ≠ active.id := fun e => fresh (List.mem_map.2 ⟨st, hst, e⟩)
      simp [other]
    rw [List.tail_cons, List.filter_cons_of_pos (by simp only [stays, Bool.not_false])]
    refine congrArg (active :: ·) (List.filter_congr fun y hy => congrArg (!·) (Bool.eq_iff_iff.2 ?_))
    simp only [List.any_eq_true, Bool.and_eq_true, beq_iff_eq]
    constructor
    · rintro ⟨st, hst, orders, same⟩
      rwa [← List.inj_on_of_nodup_map d hst hy same]
    · exact fun orders => ⟨y, hy, orders, rfl⟩

/-! ### The requests -/

section Answers

variable {f : Frame} (hadm : Admitted counterOnly f s) (h : 1 ≤ id ∧ id ≤ 255)

include hadm h

theorem execSuspendAccount_of_opened (hs : (s.account id).state = .opened) (d : (s.streams.ports.counter.queue.map (·.id)).Nodup) :
    ∃ t, exec (.suspendAccount f id) s
        = .next (concluded f ⟨.ok, be 1 (s.streams.ports.counter.queue.tail.filter (fun st => st.orders id)).length⟩ t) ∧
      t.account id = { s.account id with
        state := .suspended, held := (s.account id).held - feesIn id s.streams.ports.counter.queue.tail } ∧
      t.streams.ports.counter.queue = s.streams.ports.counter.queue.head?.toList
        ++ s.streams.ports.counter.queue.tail.filter (fun st => !st.orders id) ∧
      t.streams.ports.desk = s.streams.ports.desk ∧ t.streams.ports.bench = s.streams.ports.bench ∧ t.catalog = s.catalog := by
  have used : ({ s.account id with state := .suspended } : Account).state ≠ .unused := nofun
  have suspended := account_putAccount_of_used used id s
  obtain ⟨x, l, ps, rest⟩ := (ordersReleased (fun _ o => o.account == id) .suspended s.streams.ports.counter.queue.tail
    (s.putAccount id { s.account id with state := .suspended })).rest
  refine ⟨releaseOf id .suspended s.streams.ports.counter.queue.tail (s.putAccount id { s.account id with state := .suspended }),
    congrArg _ (serveSettling_of_rule hadm (suspendAccount_of_opened h hs)), ?_, ?_, ?_⟩
  · rw [releaseOf_account _ _ _ _ (by rw [suspended]; exact used), suspended]
  · exact (releaseOf_queue _ _ _ _).trans (filter_released d id)
  · rw [releaseOf, rest]
    exact ⟨rfl, rfl, rfl⟩

theorem execUnused_of_unused (hs : (s.account id).state = .unused) :
    exec (.suspendAccount f id) s = .next (concluded f ⟨.notFound, []⟩ s) ∧
      exec (.reinstateAccount f id) s = .next (answered f ⟨.notFound, []⟩ s) ∧
      exec (.closeAccount f id) s = .next (answered f ⟨.notFound, []⟩ s) :=
  ⟨congrArg _ (serveSettling_of_rule hadm (suspendAccount_of_unused h hs)),
    congrArg _ (serve_of_rule hadm (reinstateAccount_of_unused h hs)), congrArg _ (serve_of_rule hadm (closeAccount_of_unused h hs))⟩

end Answers

/-- Settles O38: the cases of the four rules, and the release of the account's orders behind the first stream (`releaseOf_account`,
`releaseOf_queue`). -/
theorem accountsAreSetSuspendedAndClosed : Obligations.AccountsAreSetSuspendedAndClosed := by
  refine ⟨fun f id tariffClass limit applied s hadm => ⟨fun misfit => ?_, fun fits unused => ?_, fun fits used hlimit => ?_⟩,
    fun f id s hadm low high => ?_⟩
  · exact congrArg _ (serve_of_rule hadm (setAccount_of_misfit misfit))
  · exact congrArg _ (serve_of_rule hadm (setAccount_of_unused fits unused))
  · obtain rfl : applied = appliedLimit (s.account id) limit := Int.ofNat_inj.1 (hlimit.trans (appliedLimit_eq _ _).symm)
    exact congrArg _ (serve_of_rule hadm (setAccount_of_used fits used))
  · have h : 1 ≤ id ∧ id ≤ 255 := ⟨low, high⟩
    refine ⟨execSuspendAccount_of_opened hadm h, fun hs => ?_, fun hs => ?_, fun hs => ?_, fun used settled => ?_, fun used unsettled => ?_,
      execUnused_of_unused hadm h⟩
    · exact congrArg _ (serveSettling_of_rule hadm (suspendAccount_of_suspended h hs))
    · exact congrArg _ (serve_of_rule hadm (reinstateAccount_of_suspended h hs))
    · exact congrArg _ (serve_of_rule hadm (reinstateAccount_of_opened h hs))
    · exact congrArg _ (serve_of_rule hadm (closeAccount_of_settled h used ((settled_iff _).2 settled)))
    · have figures : (s.account id).settled = false := Bool.eq_false_iff.2 fun e => unsettled ((settled_iff _).1 e)
      exact congrArg _ (serve_of_rule hadm (closeAccount_of_unsettled h used figures))

end Sys2Proof.Machine
end

section
/-! CommandsReachOnlyTheirParts: the parts of the state that the rules, the events and every command leave as they are. -/

namespace Sys2Proof.Machine

variable {s t u : State} {ps qs : List Part}

/-- The parts of the state that `Part` names. -/
structure PartsView where
  ledger : Ledger
  billing : Billing
  clock : Clock
  settings : Settings
  mailboxes : PerPort (Option Message)
  masks : Port → NoticeSet
  flash : Table Cell

/-- The parts of a state. -/
def State.parts (s : State) : PartsView :=
  { ledger := s.ledger, billing := s.billing, clock := s.clock, settings := s.control.settings, mailboxes := s.mailboxes,
    masks := fun p => (s.notices.get p).mask, flash := s.store.flash }

/-- The parts of one view with the listed ones of another. -/
def PartsView.take (v : PartsView) (ps : List Part) (w : PartsView) : PartsView :=
  { ledger := if .ledger ∈ ps then w.ledger else v.ledger
    billing := if .billing ∈ ps then w.billing else v.billing
    clock := if .clock ∈ ps then w.clock else v.clock
    settings := if .settings ∈ ps then w.settings else v.settings
    mailboxes := if .mailboxes ∈ ps then w.mailboxes else v.mailboxes
    masks := if .masks ∈ ps then w.masks else v.masks
    flash := if .flash ∈ ps then w.flash else v.flash }

/-- A change that keeps every part but those listed: `samePart` for each of the others. -/
structure Reaches (ps : List Part) (s t : State) : Prop where
  ledger : .ledger ∉ ps → t.ledger = s.ledger
  billing : .billing ∉ ps → t.billing = s.billing
  clock : .clock ∉ ps → t.clock = s.clock
  settings : .settings ∉ ps → t.control.settings = s.control.settings
  mailboxes : .mailboxes ∉ ps → t.mailboxes = s.mailboxes
  masks : .masks ∉ ps → ∀ p, (t.notices.get p).mask = (s.notices.get p).mask
  flash : .flash ∉ ps → t.store.flash = s.store.flash

theorem Reaches.samePart (h : Reaches ps s t) {part : Part} (other : part ∉ ps) : samePart s t part := by
  cases part with
  | ledger => exact h.ledger other
  | billing => exact h.billing other
  | clock => exact h.clock other
  | settings => exact h.settings other
  | mailboxes => exact h.mailboxes other
  | masks => exact h.masks other
  | flash => exact h.flash other

namespace Reaches

/-- The listed parts are written, and no other. -/
theorem of_take (h : t.parts = s.parts.take ps t.parts) : Reaches ps s t where
  ledger p := (congrArg PartsView.ledger h).trans (if_neg p)
  billing p := (congrArg PartsView.billing h).trans (if_neg p)
  clock p := (congrArg PartsView.clock h).trans (if_neg p)
  settings p := (congrArg PartsView.settings h).trans (if_neg p)
  mailboxes p := (congrArg PartsView.mailboxes h).trans (if_neg p)
  masks p r := congrFun ((congrArg PartsView.masks h).trans (if_neg p)) r
  flash p := (congrArg PartsView.flash h).trans (if_neg p)

/-- No part is written. -/
theorem aside (h : t.parts = s.parts) : Reaches ps s t where
  ledger _ := congrArg PartsView.ledger h
  billing _ := congrArg PartsView.billing h
  clock _ := congrArg PartsView.clock h
  settings _ := congrArg PartsView.settings h
  mailboxes _ := congrArg PartsView.mailboxes h
  masks _ := congrFun (congrArg PartsView.masks h)
  flash _ := congrArg PartsView.flash h

theorem refl : Reaches ps s s := aside rfl

theorem of_eq (h : t = s) : Reaches ps s t := h ▸ refl

theorem trans (h : Reaches ps s t) (k : Reaches ps t u) : Reaches ps s u where
  ledger p := (k.ledger p).trans (h.ledger p)
  billing p := (k.billing p).trans (h.billing p)
  clock p := (k.clock p).trans (h.clock p)
  settings p := (k.settings p).trans (h.settings p)
  mailboxes p := (k.mailboxes p).trans (h.mailboxes p)
  masks p r := (k.masks p r).trans (h.masks p r)
  flash p := (k.flash p).trans (h.flash p)

/-- A change that writes no part comes before. -/
theorem behind (h : Reaches ps t u) (e : t.parts = s.parts) : Reaches ps s u := (aside e).trans h

/-- A change may be counted as one that reaches more. -/
theorem within (h : Reaches ps s t) (w : ps ⊆ qs) : Reaches qs s t where
  ledger p := h.ledger fun m => p (w m)
  billing p := h.billing fun m => p (w m)
  clock p := h.clock fun m => p (w m)
  settings p := h.settings fun m => p (w m)
  mailboxes p := h.mailboxes fun m => p (w m)
  masks p := h.masks fun m => p (w m)
  flash p := h.flash fun m => p (w m)

theorem foldl {α : Type} (g : State → α → State) (h : ∀ s a, Reaches ps s (g s a)) (l : List α) (s : State) : Reaches ps s (l.foldl g s) :=
  List.foldlRecOn (motive := Reaches ps s) l g refl fun _ ht a _ => ht.trans (h _ a)

/-- The quiet part of the state holds every part. -/
theorem of_quiet_links {l : PerPort Link} (h : t.quiet = { s.quiet with links := l }) : Reaches ps s t where
  ledger _ := congrArg QuietView.ledger h
  billing _ := congrArg QuietView.billing h
  clock _ := congrArg QuietView.clock h
  settings _ := congrArg QuietView.settings h
  mailboxes _ := congrArg QuietView.mailboxes h
  masks _ p := by
    cases p with
    | desk => exact congrArg QuietView.deskMask h
    | bench => exact congrArg QuietView.benchMask h
    | counter => exact congrArg QuietView.counterMask h
  flash _ := congrArg QuietView.flash h

theorem of_quiet (h : t.quiet = s.quiet) : Reaches ps s t := of_quiet_links (l := s.links) h

/-! ### The links and the end of an event -/

theorem reply (p : Port) (tag : Octet) (a : Answer) (s : State) : Reaches ps s (reply p tag a s) := aside rfl

theorem refuse (p : Port) (tag : Octet) (st : Status) (s : State) : Reaches ps s (refuse p tag st s) := by
  unfold Machine.refuse
  simp only
  split <;> exact aside rfl

theorem transmit (p : Port) (s : State) : Reaches ps s (transmit p s) := by
  obtain ⟨l, h⟩ := transmit_links p s
  rw [h]
  exact aside rfl

theorem conclude (s : State) : Reaches ps s (conclude s) := by
  obtain ⟨l, h⟩ := conclude_quiet s
  exact of_quiet_links h

theorem answerFrame (p : Port) (tag : Octet) (a b : Status) (s : State) : Reaches ps s (answerFrame p tag a b s) := by
  unfold Machine.answerFrame
  split
  · exact refl
  · split
    · exact (refuse p tag b s).trans (transmit p _)
    · exact (reply p tag _ s).trans (transmit p _)

theorem serveWith {after : State → State} {ports : List Port} {inStart : Bool} {f : Frame} {rule : State → State × Answer}
    (ha : ∀ u, Reaches ps u (after u)) (hr : Reaches ps s (rule s).1) : Reaches ps s (serveWith after ports inStart f rule s) := by
  unfold Machine.serveWith
  split
  · exact refl
  · split
    · exact (refuse _ _ _ s).trans (transmit _ _)
    · split
      · exact (reply _ _ _ s).trans (transmit _ _)
      · exact (hr.trans (reply _ _ _ _)).trans (ha _)

theorem serve {ports : List Port} {f : Frame} {rule : State → State × Answer} (hr : Reaches ps s (rule s).1) :
    Reaches ps s (serve ports f rule s) := serveWith (fun u => transmit _ u) hr

theorem serveAlways {f : Frame} {rule : State → State × Answer} (hr : Reaches ps s (rule s).1) : Reaches ps s (serveAlways f rule s) :=
  serveWith (fun u => transmit _ u) hr

theorem serveSettling {ports : List Port} {f : Frame} {rule : State → State × Answer} (hr : Reaches ps s (rule s).1) :
    Reaches ps s (serveSettling ports f rule s) := serveWith conclude hr

/-! ### Streams and orders -/

theorem endStream (p : Port) (st : Stream) (x : StreamKind) (final : Option Status) (s : State) : Reaches ps s (endStream p st x final s) := by
  have detached : Reaches ps s (if st.fetch = .inFlight then detachFetcher (.stream p) s else s) := by
    split
    · exact of_quiet (detachFetcher_quiet _ s)
    · exact refl
  have fallen := detached.trans (of_quiet (readersFall_quiet st.snapshot _))
  unfold Machine.endStream
  cases final <;> exact fallen.trans (aside rfl)

theorem acceptStream (p : Port) (st : Stream) (s : State) : Reaches ps s (acceptStream p st s) := by
  have risen : Reaches ps s (readersRise st.snapshot s) := of_quiet (readersRise_quiet _ s)
  exact risen.trans (aside rfl)

theorem putAccount (id : Nat) (a : Account) (s : State) : Reaches [.ledger] s (s.putAccount id a) := of_take rfl

theorem putContributor (id : Nat) (c : Contributor) (s : State) : Reaches [.ledger] s (s.putContributor id c) :=
  of_take rfl

theorem releaseOrder (p : Port) (st : Stream) (o : OrderPart) (c : ReleaseCause) (e : Bool) (s : State) :
    Reaches [.ledger] s (releaseOrder p st o c e s) := (putAccount _ _ s).trans (endStream p st _ _ _)

theorem cutStream (p : Port) (st : Stream) (x : Status) (c : ReleaseCause) (s : State) : Reaches [.ledger] s (cutStream p st x c s) := by
  unfold Machine.cutStream
  split
  · exact releaseOrder _ _ _ _ _ s
  · exact endStream _ _ _ _ s

theorem releaseOrders (pick : Stream → OrderPart → Bool) (c : ReleaseCause) (sts : List Stream) (s : State) :
    Reaches [.ledger] s (releaseOrders pick c sts s) := by
  refine foldl _ (fun s st => ?_) sts s
  split
  · split
    · exact releaseOrder _ _ _ _ _ s
    · exact refl
  · exact refl

theorem resetStream (p : Port) (st : Stream) (s : State) : Reaches [.ledger] s (resetStream p st s) := by
  unfold Machine.resetStream
  split
  · exact releaseOrder _ _ _ _ _ s
  · exact endStream _ _ _ _ s

theorem resetStreams (p : Port) (s : State) : Reaches [.ledger] s (resetStreams p s) := by
  rw [resetStreams_eq]
  exact (foldl (fun s st => Machine.resetStream p st s) (fun s st => resetStream p st s) _ s).trans (aside rfl)

theorem chargeOrder (o : OrderPart) (s : State) : Reaches [.ledger, .billing] s (chargeOrder o s) := by
  obtain ⟨l, b, h⟩ := Narrows.chargeOrder_rest o s
  rw [h]
  exact of_take rfl

theorem completeStream (p : Port) (st : Stream) (s : State) : Reaches [.ledger, .billing] s (completeStream p st s) := by
  unfold Machine.completeStream
  split
  · exact (chargeOrder _ s).trans (endStream _ _ _ _ _)
  · refine .trans ?_ (endStream _ _ _ _ _)
    exact of_take rfl

theorem creditFrame (p : Port) (id n : Nat) (s : State) : Reaches [.ledger, .billing] s (creditFrame p id n s) := by
  unfold Machine.creditFrame
  simp only
  split
  · split
    · exact .behind (completeStream p _ _) rfl
    · exact aside rfl
  · exact aside rfl

theorem readObject (p : Port) (w : WireKey) (v : Source) (a b : Nat) (s : State) : Reaches ps s (readObject p w v a b s).1 := by
  unfold Machine.readObject
  iterate 4
    split
    · exact refl
  split
  · exact refl
  · exact acceptStream _ _ s

theorem placeOrder (a : Nat) (q : Sale) (s : State) : Reaches [.ledger] s (s.placeOrder a q).1 := by
  unfold State.placeOrder
  simp only
  split
  · exact refl
  · split
    · exact refl
    · split
      · exact refl
      · exact (putAccount _ _ s).trans (acceptStream _ _ _)

theorem order (a : Nat) (w : WireKey) (u n : Nat) (s : State) : Reaches [.ledger] s (order a w u n s).1 := by
  unfold Machine.order
  split
  · exact refl
  · split
    · exact refl
    · exact refl
    · iterate 4
        split
        · exact refl
      exact placeOrder a _ s

theorem cancelStream (p : Port) (id : Nat) (s : State) : Reaches [.ledger] s (cancelStream p id s).1 := by
  unfold Machine.cancelStream
  split
  · exact cutStream _ _ _ _ s
  · split <;> exact refl

theorem withdrawEdition (p : Port) (h : Nat) (s : State) : Reaches [.ledger] s (withdrawEdition p h s).1 := by
  unfold Machine.withdrawEdition
  split
  · exact refl
  · rename_i e _
    split
    · exact refl
    · have told : Reaches [.ledger] s (notifyAll .editionWithdrawn allPorts (s.putEdition h { e with state := .withdrawn })) :=
        of_quiet ((notifyAll_quiet _ _ _).trans (putEdition_quiet _ _ s))
      exact (told.trans (releaseOrders _ _ _ _)).trans (of_quiet (abortPasses_quiet _ _ _))

/-! ### The ledger (R115 to R126) -/

theorem openAccount (id c l : Nat) (s : State) : Reaches [.ledger] s (openAccount id c l s).1 := by
  unfold Machine.openAccount
  iterate 2
    split
    · exact refl
  exact putAccount _ _ s

theorem creditAccount (id n : Nat) (s : State) : Reaches [.ledger] s (creditAccount id n s).1 := by
  unfold Machine.creditAccount
  simp only
  iterate 3
    split
    · exact refl
  exact putAccount _ _ s

theorem setAccount (id c l : Nat) (s : State) : Reaches [.ledger] s (setAccount id c l s).1 := by
  unfold Machine.setAccount
  simp only
  iterate 2
    split
    · exact refl
  exact putAccount _ _ s

theorem suspendAccount (id : Nat) (s : State) : Reaches [.ledger] s (suspendAccount id s).1 := by
  unfold Machine.suspendAccount
  simp only
  split
  · exact refl
  · split
    · exact refl
    · exact refl
    · exact (putAccount _ _ s).trans (releaseOrders _ _ _ _)

theorem reinstateAccount (id : Nat) (s : State) : Reaches [.ledger] s (reinstateAccount id s).1 := by
  unfold Machine.reinstateAccount
  simp only
  split
  · exact refl
  · split
    · exact refl
    · exact refl
    · exact putAccount _ _ s

theorem closeAccount (id : Nat) (s : State) : Reaches [.ledger] s (closeAccount id s).1 := by
  unfold Machine.closeAccount
  simp only
  iterate 3
    split
    · exact refl
  exact putAccount _ _ s

theorem registerContributor (id : Nat) (s : State) : Reaches [.ledger] s (registerContributor id s).1 := by
  unfold Machine.registerContributor
  simp only
  iterate 2
    split
    · exact refl
  exact putContributor _ _ s

theorem setContributorState (id x : Nat) (s : State) : Reaches [.ledger] s (setContributorState id x s).1 := by
  unfold Machine.setContributorState
  simp only
  iterate 3
    split
    · exact refl
  exact putContributor _ _ s

theorem setShare (id x : Nat) (s : State) : Reaches [.ledger] s (setShare id x s).1 := by
  unfold Machine.setShare
  simp only
  iterate 2
    split
    · exact refl
  exact putContributor _ _ s

theorem setTariff (x u c a b n m : Nat) (s : State) : Reaches [.ledger] s (setTariff x u c a b n m s).1 := by
  unfold Machine.setTariff
  split
  · split
    · exact refl
    · exact of_take rfl
  · exact refl

theorem setTariffGlobals (g : Globals) (s : State) : Reaches [.ledger] s (setTariffGlobals g s).1 := by
  unfold Machine.setTariffGlobals
  split
  · exact of_take rfl
  · exact refl

/-! ### Billing, the clock, the settings and the mailboxes -/

theorem setPeriodLength (d : Nat) (s : State) : Reaches [.billing] s (setPeriodLength d s).1 := by
  unfold Machine.setPeriodLength
  split
  · exact refl
  · exact of_take rfl

theorem notify (n : Notice) (p : Port) (s : State) : Reaches ps s (notify n p s) := of_quiet (notify_quiet n p s)

theorem closeAttempt (s : State) : Reaches [.ledger, .billing] s (closeAttempt s) := by
  unfold Machine.closeAttempt
  simp only
  split
  · refine .trans ?_ (notify _ _ _)
    exact of_take rfl
  · refine .trans ?_ (notify _ _ _)
    exact of_take rfl

theorem releaseStatements (n : Nat) (s : State) : Reaches [.billing] s (releaseStatements n s).1 := by
  unfold Machine.releaseStatements
  simp only
  split
  · exact refl
  · exact of_take rfl

theorem moveStatement (s : State) : Reaches [.billing] s (moveStatement s) := by
  unfold Machine.moveStatement
  split
  · exact refl
  · exact of_take rfl

theorem setClock (d m : Nat) (s : State) : Reaches [.clock] s (setClock d m s).1 := by
  unfold Machine.setClock
  split
  · exact refl
  · exact of_take rfl

theorem setOperating (a b c d e : Nat) (s : State) : Reaches [.settings] s (setOperating a b c d e s).1 := by
  unfold Machine.setOperating
  split
  · exact refl
  · refine .trans ?_ (of_quiet (judgeRetire_quiet _))
    exact of_take rfl

theorem resumeWrites (s : State) : Reaches ps s (resumeWrites s).1 := by
  unfold Machine.resumeWrites
  iterate 2
    split
    · exact refl
  exact of_quiet (notifyAll_quiet _ _ _)

theorem putPending (p : Port) (n : NoticeSet) (s : State) : Reaches ps s (s.putPending p n) :=
  of_quiet (by cases p <;> rfl)

theorem putMask (p : Port) (n : NoticeSet) (s : State) : Reaches [.masks] s (s.putMask p n) := of_take rfl

theorem deliver (m : Message) (p : Port) (s : State) : Reaches [.mailboxes] s (deliver m p s) := by
  refine .trans ?_ (notify _ _ _)
  exact of_take rfl

theorem postMessage (p : Port) (b : BitVec 8) (x : List Octet) (s : State) : Reaches [.mailboxes] s (postMessage p b x s).1 := by
  unfold Machine.postMessage
  simp only
  iterate 2
    split
    · exact refl
  exact foldl _ (fun s _ => deliver _ _ s) _ s

theorem takeMessage (p : Port) (s : State) : Reaches [.mailboxes] s (takeMessage p s).1 := by
  unfold Machine.takeMessage
  split
  · exact refl
  · exact of_take rfl

theorem markDay (s : State) : Reaches [.ledger, .billing, .clock] s (markDay s) := by
  unfold Machine.markDay
  split
  · refine .trans ?_ (conclude _)
    have marked : Reaches [.ledger, .billing, .clock] s
        { s with clock := { day := min (s.clock.day + 1) Config.maxDay, tick := 0, confirmed := true } } :=
      of_take rfl
    unfold acceptMark stepCountdown
    split
    · exact marked
    · have counted : Reaches [.ledger, .billing, .clock] s
          { s with clock := { day := min (s.clock.day + 1) Config.maxDay, tick := 0, confirmed := true },
                   billing.countdown := s.billing.countdown - 1 } :=
        of_take rfl
      simp only
      split
      · exact counted.trans ((closeAttempt _).within (by decide))
      · exact counted
  · exact refl

theorem riseTick (s : State) : Reaches [.clock] s (riseTick s) := by
  unfold Machine.riseTick
  simp only
  split
  · refine .trans ?_ (of_quiet (notifyAll_quiet _ _ _))
    exact of_take rfl
  · exact of_take rfl

theorem guardLine (b : Bool) (s : State) : Reaches ps s (guardLine b s) := by
  unfold Machine.guardLine
  simp only
  split
  · exact .behind (conclude _) rfl
  · exact aside rfl

theorem resetPort (p : Port) (s : State) : Reaches [.ledger, .mailboxes, .masks] s (resetPort p s) := by
  have silent : Reaches [.ledger, .mailboxes, .masks] s { s with links := s.links.set p { Link.reset with breakHeld := true } } := aside rfl
  have ended := silent.trans ((resetStreams p _).within (by decide))
  refine (ended.trans (of_quiet (resetWork_quiet p _))).trans ?_
  exact of_take rfl

theorem holdInStart (p : Port) (s : State) : Reaches ps s (holdInStart p s) := by
  unfold Machine.holdInStart
  split
  · exact of_quiet (holdFor_quiet p s)
  · exact refl

/-! ### The store's completions -/

theorem reportDamage {key : Key} {number serial : Nat} {stop : State → State} (h : ∀ u, Reaches ps u (stop u)) (s : State) :
    Reaches ps s (reportDamage key number serial stop s) := by
  unfold Machine.reportDamage
  split
  · rename_i u hu
    exact ((of_quiet (markDamaged_quiet hu)).trans (h u)).trans (of_quiet (damageAction_quiet _))
  · exact h s

theorem passSourceDamaged (s : State) : Reaches ps s (passSourceDamaged s) := by
  unfold Machine.passSourceDamaged
  split
  · exact of_quiet (endActive_quiet _ _ _ s)
  · exact of_quiet (endPassSource_quiet s)

theorem damagedFetch (op : FetchOp) (s : State) : Reaches [.ledger] s (damagedFetch op s) := by
  unfold Machine.damagedFetch
  split
  · exact refl
  · split
    · exact refl
    · exact reportDamage (fun u => cutStream _ _ _ _ u) s
  · split
    · exact refl
    · exact reportDamage passSourceDamaged s
  · split
    · exact refl
    · exact reportDamage (fun u => of_quiet (putRound_quiet _ u)) s

theorem soundFetch (op : FetchOp) (w : Wing) (body : List Octet) (s : State) : Reaches ps s (soundFetch op w body s) := by
  unfold Machine.soundFetch
  split
  · exact refl
  · refine of_quiet (mapActive_quiet _ _ (fun st => ?_) s)
    unfold takeSheet
    split <;> exact ⟨rfl, rfl⟩
  · exact aside rfl
  · exact of_quiet (copyFetched_quiet w body s)

theorem fetchDone (w : Wing) (d : Option Sheet) (op : FetchOp) (s : State) : Reaches [.ledger] s (fetchDone w d op s) := by
  unfold Machine.fetchDone
  simp only
  split
  · exact soundFetch _ _ _ s
  · exact damagedFetch op s

theorem programWritten (op : ProgramOp) (s : State) : Reaches [.flash] s (programWritten op s) := by
  refine .trans ?_ (of_quiet (feedWritten_quiet op _))
  exact of_take rfl

theorem programFailed (op : ProgramOp) (s : State) : Reaches [.flash] s (programFailed op s) := by
  refine .trans ?_ (of_quiet (feedFailed_quiet op _))
  exact of_take rfl

theorem eraseDone (n : Nat) (s : State) : Reaches [.flash] s (eraseDone n s) := by
  refine .trans ?_ (of_quiet (examineStalled_quiet _))
  exact of_take rfl

theorem eraseFailed (n : Nat) (s : State) : Reaches [.flash] s (eraseFailed n s) := by
  obtain ⟨x, i, lost, -⟩ := loseStripe_flash n s
  refine .trans ?_ (of_quiet (retireStripe_quiet n _))
  rw [lost]
  exact of_take rfl

/-! ### The supply and start-up -/

theorem loseVolatile (s : State) : Reaches [.clock, .mailboxes, .masks, .flash] s (loseVolatile s) := by
  obtain ⟨x, i, h, -⟩ := cutOperation_flash s
  unfold Machine.loseVolatile
  rw [h]
  exact of_take rfl

theorem recoverStore (s : State) : Reaches ps s (recoverStore s) := by
  obtain ⟨x, h⟩ := recoverStore_rest s
  rw [h]
  exact aside rfl

theorem recover (s : State) : Reaches [.ledger] s (recover s) := by
  have outputs : Reaches [.ledger] s (recoverOutputs (recoverCatalog (Machine.recoverStore s))) :=
    (recoverStore s).trans (of_quiet ((recoverOutputs_quiet _).trans (recoverCatalog_quiet _)))
  have cleared : Reaches [.ledger] (recoverOutputs (recoverCatalog (Machine.recoverStore s)))
      (clearHeld (recoverOutputs (recoverCatalog (Machine.recoverStore s)))) := of_take rfl
  exact (outputs.trans cleared).trans (of_quiet (leaveFull_quiet _ _))

/-- Start-up reaches every part but the flash. -/
theorem recoverOrFormat (s : State) :
    Reaches [.ledger, .billing, .clock, .settings, .mailboxes, .masks] s (recoverOrFormat s) := by
  have clock : Reaches [.ledger, .billing, .clock, .settings, .mailboxes, .masks] s (restartClock s) := of_take rfl
  unfold Machine.recoverOrFormat
  split
  · exact clock.trans ((recover _).within (by decide))
  · refine clock.trans ?_
    exact of_take rfl

theorem leaveStart (s : State) : Reaches ps s (leaveStart s) := of_quiet (notifyAll_quiet _ _ _)

/-! ### Every command -/

theorem of_next (h : Reaches ps s u) (e : (.next u : Host.Outcome State Fault Refusal) = .next t) : Reaches ps s t := by
  cases e; exact h

theorem exec {c : Instr} (h : exec c s = .next t) : Reaches (reach c) s t := by
  cases c with
  | openEdition r d n => exact of_next (serve (of_quiet (openEdition_quiet _ _ _ s))) h
  | beginObject r a b c d e g i ps => exact of_next (serve (of_quiet (beginObject_quiet _ _ _ _ _ _ _ _ _ s))) h
  | putChunk r n o d => exact of_next (serveSettling (of_quiet (putChunk_quiet _ _ _ _ s))) h
  | endObject r n x => exact of_next (serveSettling (of_quiet (endObject_quiet _ _ _ s))) h
  | dropObject r n => exact of_next (serveSettling (of_quiet (dropObject_quiet _ _ s))) h
  | closeEdition r n x => exact of_next (serveSettling (of_quiet (closeEdition_quiet _ _ _ s))) h
  | abandonEdition r n => exact of_next (serveSettling (of_quiet (abandonEdition_quiet _ _ s))) h
  | read r w v o l => exact of_next (serveSettling (readObject _ _ _ _ _ s)) h
  | withdrawEdition r n => exact of_next (serveSettling (withdrawEdition _ _ s)) h
  | reinstateEdition r n => exact of_next (serve (of_quiet (reinstateEdition_quiet _ _ s))) h
  | purgeEdition r n => exact of_next (serveSettling (of_quiet (purgeEdition_quiet _ _ s))) h
  | registerContributor r n => exact of_next (serve (registerContributor _ s)) h
  | setContributorState r n x => exact of_next (serve (setContributorState _ _ s)) h
  | setClock r d x => exact of_next (serveSettling (setClock _ _ s)) h
  | setOperating r a b c d e => exact of_next (serveSettling (setOperating _ _ _ _ _ s)) h
  | resumeWrites r => exact of_next (serveSettling (resumeWrites s)) h
  | submitPass r w x m d l i n p => exact of_next (serveSettling (of_quiet (submitPass_quiet _ _ _ _ _ _ _ _ s))) h
  | cancelPass r n => exact of_next (serveSettling (of_quiet (cancelPass_quiet _ s))) h
  | passResult r => exact of_next (serve refl) h
  | takeSurvey r => exact of_next (serve refl) h
  | discardVersion r w n => exact of_next (serveSettling (of_quiet (discardVersion_quiet _ _ _ s))) h
  | openAccount r a b c => exact of_next (serve (openAccount _ _ _ s)) h
  | setAccount r a b c => exact of_next (serve (setAccount _ _ _ s)) h
  | creditAccount r a b => exact of_next (serve (creditAccount _ _ s)) h
  | suspendAccount r a => exact of_next (serveSettling (suspendAccount _ s)) h
  | reinstateAccount r a => exact of_next (serve (reinstateAccount _ s)) h
  | closeAccount r a => exact of_next (serve (closeAccount _ s)) h
  | findAccount r a => exact of_next (serve (of_eq (findAccount_state a s))) h
  | setShare r a b => exact of_next (serve (setShare _ _ s)) h
  | setTariff r x u c a b n m => exact of_next (serve (setTariff _ _ _ _ _ _ _ s)) h
  | setTariffGlobals r a b c d x p => exact of_next (serve (setTariffGlobals _ s)) h
  | setPeriodLength r d => exact of_next (serve (setPeriodLength _ s)) h
  | quote r a w u n => exact of_next (serve (of_eq (quote_state a w u n s))) h
  | order r a w u n => exact of_next (serveSettling (order _ _ _ _ s)) h
  | closePeriod r => exact of_next (serve (rule := closePeriod) (closeAttempt s)) h
  | takeStatements r => exact of_next (serve (of_eq (takeStatements_state s))) h
  | releaseStatements r n => exact of_next (serve (releaseStatements _ s)) h
  | findEdition r n => exact of_next (serve (of_eq (findEdition_state _ n s))) h
  | findObject r w => exact of_next (serve (of_eq (findObject_state _ w s))) h
  | cancelStream r n => exact of_next (serveSettling (cancelStream _ _ s)) h
  | status r => exact of_next (serveAlways refl) h
  | identify r => exact of_next (serveAlways refl) h
  | takeNotices r => exact of_next (serve (putPending _ _ s)) h
  | setNoticeMask r x => exact of_next (serve (rule := setNoticeMask r.port x) (putMask _ _ s)) h
  | postMessage r b x => exact of_next (serve (postMessage _ _ _ s)) h
  | takeMessage r => exact of_next (serve (takeMessage _ s)) h
  | unknownRequest p x c =>
    refine of_next ?_ h
    split
    · exact refl
    · exact answerFrame _ _ _ _ s
  | badFrame p x => exact of_next (answerFrame _ _ _ _ s) h
  | busy p x m =>
    refine of_next ?_ h
    split
    · exact answerFrame _ _ _ _ s
    · exact refl
  | replySent p =>
    refine of_next ?_ h
    split
    · exact .behind (transmit p _) rfl
    · exact refl
  | dataFrameSent p =>
    have freed : Reaches [.ledger, .billing] s (freeTransmitter p s) := aside rfl
    refine of_next ?_ h
    split
    · exact (freed.trans (creditFrame p _ _ _)).trans (conclude _)
    · exact refl
  | endFrameSent p =>
    refine of_next ?_ h
    split
    · exact .behind (conclude _) rfl
    · exact refl
  | sheetFetchComplete w d =>
    refine of_next ?_ h
    split
    · exact refl
    · rename_i u taken
      obtain ⟨⟨a, b, rfl⟩, -⟩ := takeFetch_idle taken
      refine .trans ?_ (conclude _)
      exact .behind (fetchDone w d _ _) rfl
  | leafProgramWritten =>
    refine of_next ?_ h
    split
    · exact refl
    · rename_i u taken
      obtain ⟨-, rfl⟩ := takeProgram_some taken
      refine .trans ?_ (conclude _)
      exact .behind (programWritten _ _) rfl
  | leafProgramFailed =>
    refine of_next ?_ h
    split
    · exact refl
    · rename_i u taken
      obtain ⟨-, rfl⟩ := takeProgram_some taken
      refine .trans ?_ (conclude _)
      exact .behind (programFailed _ _) rfl
  | stripeEraseComplete e =>
    refine of_next ?_ h
    split
    · exact refl
    · rename_i n u taken
      obtain ⟨-, rfl⟩ := takeErase_some taken
      refine .trans ?_ (conclude _)
      split
      · exact .behind (eraseDone n _) rfl
      · exact .behind (eraseFailed n _) rfl
  | dayMark => exact of_next (markDay s) h
  | tick =>
    refine of_next ?_ h
    split
    · exact riseTick s
    · exact refl
  | clockSaturated =>
    refine of_next ?_ h
    split
    · exact riseTick s
    · exact refl
  | countdownExpiry =>
    refine of_next ?_ h
    split
    · exact markDay s
    · exact refl
  | storeGuardAsserted => exact of_next (guardLine true s) h
  | storeGuardReleased => exact of_next (guardLine false s) h
  | linkReset p =>
    refine of_next ?_ h
    split
    · exact ((resetPort p s).trans (holdInStart p _)).trans (conclude _)
    · exact refl
  | breakEnd p =>
    refine of_next ?_ h
    split
    · exact .behind (transmit p _) rfl
    · exact refl
  | powerLoss =>
    refine of_next ?_ h
    split
    · exact (loseVolatile s).trans (aside rfl)
    · exact refl
  | resetLineAsserted =>
    refine of_next ?_ h
    split
    · exact refl
    · exact (loseVolatile s).trans (aside rfl)
  | powerApplied =>
    refine of_next ?_ h
    split
    · exact refl
    · simp only
      split <;> exact aside rfl
  | resetLineReleased =>
    refine of_next ?_ h
    split
    · simp only
      split <;> exact aside rfl
    · exact refl
  | startUpEnd =>
    refine of_next ?_ h
    split
    · have standing := (recoverOrFormat s).trans (of_quiet (holdConditions_quiet _))
      exact (standing.trans (leaveStart _)).trans (conclude _)
    · exact refl
  | statementMove =>
    refine of_next ?_ h
    split
    · exact (moveStatement s).trans (notify _ _ _)
    · exact refl

end Reaches

/-- Settles O6: each rule and each event changes the parts of its own rules alone (`Reaches`), and the blocks' own work changes none
(`Reaches.of_quiet`). -/
theorem commandsReachOnlyTheirParts : Obligations.CommandsReachOnlyTheirParts :=
  fun _ _ _ _ other h => (Reaches.exec h).samePart other

end Sys2Proof.Machine
end
